-- ==== Sys2Proof/Word.lean ====
section
/-! DEFINITION. The byte, the line number, and the record of one thing per line (spec 00 section 4: lines 0 to 3). -/

namespace Sys2Proof

/-- A byte of the host link, of a buffer or of a store cell. -/
abbrev Byte := BitVec 8

/-- Lines are numbered 0 to 3, and so are groups and window slots (spec 00 section 4). -/
abbrev LineNo := Fin 4

/-- Four things of one type, numbered 0 to 3: lines, groups, window slots. -/
@[ext] structure Four (α : Type) where
  l0 : α
  l1 : α
  l2 : α
  l3 : α
  deriving DecidableEq, Repr

/-- The thing with number `i`. -/
def Four.get {α : Type} (x : Four α) : LineNo → α
  | 0 => x.l0
  | 1 => x.l1
  | 2 => x.l2
  | 3 => x.l3

/-- Replaces the thing with number `i`. -/
def Four.set {α : Type} (x : Four α) (i : LineNo) (a : α) : Four α :=
  match i with
  | 0 => { x with l0 := a }
  | 1 => { x with l1 := a }
  | 2 => { x with l2 := a }
  | 3 => { x with l3 := a }

/-- The same thing four times. -/
def Four.all {α : Type} (a : α) : Four α := ⟨a, a, a, a⟩

/-- The four things in the order of their numbers. -/
def Four.toList {α : Type} (x : Four α) : List α := [x.l0, x.l1, x.l2, x.l3]

/-- Changes each of the four things in the same way. -/
def Four.map {α β : Type} (f : α → β) (x : Four α) : Four β := ⟨f x.l0, f x.l1, f x.l2, f x.l3⟩

/-- The four numbers in order. -/
def lineNos : List LineNo := [0, 1, 2, 3]

@[simp] theorem Four.get_all {α : Type} (a : α) (i : LineNo) : (Four.all a).get i = a := by
  fin_cases i <;> rfl

@[simp] theorem Four.get_set_self {α : Type} (x : Four α) (i : LineNo) (a : α) :
    (x.set i a).get i = a := by fin_cases i <;> rfl

@[simp] theorem Four.get_set_ne {α : Type} (x : Four α) {i j : LineNo} (a : α) (h : j ≠ i) :
    (x.set i a).get j = x.get j := by
  fin_cases i <;> fin_cases j <;> first | rfl | exact absurd rfl h

@[simp] theorem Four.set_set {α : Type} (x : Four α) (i : LineNo) (a b : α) :
    (x.set i a).set i b = x.set i b := by fin_cases i <;> rfl

@[simp] theorem Four.set_get {α : Type} (x : Four α) (i : LineNo) : x.set i (x.get i) = x := by
  fin_cases i <;> rfl

end Sys2Proof
end

