-- ==== Sys2Proof/Syntax.lean ====
section
/-! DEFINITION. The commands of the K414: one constructor of `Instr` per row of spec/opcode_table.json.
Request commands carry what the record of the request carries (R162): the line byte, the tag and the fields as
numbers, so that every value a record can hold can be sent. Events carry what the event brings (R5 to R160). -/

namespace Sys2Proof

/-- Rate classes of the data pump (R68). -/
inductive Cls where
  | d1 | d2 | d3 | d4 | d5 | d6 | d7
  | f1 | f2 | f3 | f4 | f5 | f6
  deriving DecidableEq, Repr

/-- The two families of classes, and the two kinds of answer tone (R24, R67). -/
inductive Family where
  | data | fax
  deriving DecidableEq, Repr

/-- The twelve DTMF digits (R21, R31). -/
inductive Dtmf where
  | num (d : Fin 10)
  | star
  | hash
  deriving DecidableEq, Repr

/-- Supervisory messages of the block link (R86). -/
inductive SupKind where
  | ack | rej | rnr
  deriving DecidableEq, Repr

/-- The action of a frame map (table of 7.2). -/
inductive MapAction where
  | continue
  | resend
  | retrain (c : Cls)
  deriving DecidableEq, Repr

/-- The kinds of fax message that can arrive (table of 7.2). -/
inductive FaxKind where
  | capability | choice | confirmation | retrainAnnouncement | verdict | header | frame
  | roundEnd | frameMap | pageClose | pageConfirmation
  deriving DecidableEq, Repr

/-- A fax message that BAD_FAX_MESSAGE_RECEIVED brings: unreadable (bad check or unknown kind), or a readable message
out of its phase (R102). -/
inductive StrayFax where
  | unreadable
  | outOfPhase (k : FaxKind)
  deriving DecidableEq, Repr

/-- How the EEPROM write and read-back of a save end (R176). -/
inductive SaveEnd where
  | matched | noAcknowledge | mismatch | timeout
  deriving DecidableEq, Repr

/-- The commands, in the order of spec/opcode_table.json. -/
inductive Instr where
  -- line interface, chapter 1
  | flashComplete (i : LineNo)
  | breakEnd (i : LineNo)
  | makeEnd (i : LineNo)
  | ringVoltageOnset (i : LineNo)
  | burstQualified (i : LineNo)
  /-- `volts`: the line voltage a deferred check measures at this moment (R12). -/
  | ringVoltageEnd (i : LineNo) (volts : Nat)
  | ringAbandoned (i : LineNo)
  /-- `current`: the loop-current sensor as it stands (R9). -/
  | blankingEnd (i : LineNo) (current : Bool)
  | loopCurrentAbsent (i : LineNo)
  | loopCurrentReturn (i : LineNo)
  | loopLost (i : LineNo)
  /-- `volts`: the line voltage the check measures (R12). -/
  | supervisionCheck (i : LineNo) (volts : Nat)
  -- calls, chapter 2
  | call (line tag kind maxc floor : Nat) (dial : List (Nat × Nat))
  | callGroup (tag group kind maxc floor wait hostTag : Nat) (dial : List (Nat × Nat))
  | dialToneQualified (i : LineNo)
  | dialToneWaitExpiry (i : LineNo)
  | awaitToneExpiry (i : LineNo)
  | dtmfDigitSent (i : LineNo)
  | interDigitPauseEnd (i : LineNo)
  | pauseEnd (i : LineNo)
  | cpToneStart (i : LineNo)
  | cpToneEnd (i : LineNo)
  | cpSilenceLimit (i : LineNo)
  | cpToneLimit (i : LineNo)
  /-- `samples`: the 80 samples of the frame (R23). -/
  | progressFrameLevel (i : LineNo) (samples : List Int)
  | answerToneDetected (i : LineNo) (tone : Family)
  | answerWaitExpiry (i : LineNo)
  | ringbackAbsenceExpiry (i : LineNo)
  | ansr (line tag kind maxc floor : Nat)
  | settleEnd (i : LineNo)
  | clidWindowTimeout (i : LineNo)
  | callerMessageReceived (i : LineNo) (bytes : List Byte)
  | dtmfDigitDeclared (i : LineNo) (d : Dtmf)
  | digr (line tag : Nat)
  | tone (line tag : Nat) (digits : List Byte)
  | toneDigitEnd (i : LineNo)
  | rels (line tag drain : Nat)
  | drainEnd (i : LineNo)
  | drainWaitExpiry (i : LineNo)
  | guardExpiry (i : LineNo)
  -- groups, queue and caller table, chapter 3
  | queueEntryExpiry (entry : Fin 8)
  | cncl (line tag entry : Nat)
  | ctad (line tag : Nat) (number : List Byte) (cls : Nat) (label : List Byte)
  | ctdl (line tag position : Nat)
  | ctrd (line tag start : Nat)
  -- budget, chapter 4
  | pendingTimerExpiry (i : LineNo)
  | budg (line tag : Nat)
  -- data pump, chapter 5
  | qualityReading (i : LineNo) (q : Int)
  | remoteOfferReceived (i : LineNo) (c : Cls)
  | offerWaitExpiry (i : LineNo)
  | rateChangeConfirmation (i : LineNo)
  | rateChangeResyncEnd (i : LineNo)
  | rateChangeConfirmationTimeout (i : LineNo)
  | remoteRateRequest (i : LineNo) (c : Cls)
  | remoteRetrainRequest (i : LineNo)
  -- block link, chapter 6
  | dataIn (line tag : Nat) (bytes : List Byte)
  | flow (line tag value : Nat)
  | setupMessageReceived (i : LineNo) (window size : Nat)
  | setupTryExpiry (i : LineNo)
  | messageTransmitted (i : LineNo)
  | badMessageReceived (i : LineNo)
  | supervisoryMessageReceived (i : LineNo) (kind : SupKind) (n : Nat)
  | dataBlockReceived (i : LineNo) (seq : Nat) (payload : List Byte)
  | retryTimerExpiry (i : LineNo)
  | plainByteReceived (i : LineNo) (b : Byte)
  -- fax, chapter 7
  | faxs (line tag : Nat) (pages : List Nat) (resolution width policy : Nat)
  | faxr (line tag policy : Nat)
  | fxst (line tag : Nat)
  | fxab (line tag : Nat)
  | faxJobWaitExpiry (i : LineNo)
  | faxAnswerWaitExpiry (i : LineNo)
  | faxSenderWaitExpiry (i : LineNo)
  | badFaxMessageReceived (i : LineNo) (m : StrayFax)
  /-- `fine`: the remote takes FINE too (table of 7.2). -/
  | capabilityReceived (i : LineNo) (highest : Cls) (fine : Bool) (widest reserve : Nat)
  | choiceReceived (i : LineNo) (c : Cls) (resolution width : Nat)
  | confirmationReceived (i : LineNo) (accepted : Bool)
  | retrainAnnouncementReceived (i : LineNo) (c : Cls)
  | trainingBurstSent (i : LineNo)
  /-- `rejected`: absent for a verdict accepted, else the class named for the next check. -/
  | verdictReceived (i : LineNo) (rejected : Option Cls)
  | partialPageHeaderReceived (i : LineNo) (page part count : Nat) (last : Bool)
  | frameReceived (i : LineNo) (n : Nat) (bytes : List Byte)
  | roundSent (i : LineNo)
  | roundEndReceived (i : LineNo)
  | frameMapReceived (i : LineNo) (missing : List Nat) (action : MapAction)
  | pageCloseReceived (i : LineNo) (more : Bool)
  | pageConfirmationReceived (i : LineNo)
  | releaseReceived (i : LineNo)
  | releaseWaitExpiry (i : LineNo)
  -- message store, chapter 8
  | scrt (line tag kind extent mailbox : Nat)
  | scls (line tag id : Nat)
  | sdel (line tag id : Nat)
  | atch (line tag slot id right : Nat)
  | dtch (line tag slot : Nat)
  | swrt (line tag id : Nat) (bytes : List Byte)
  | sred (line tag id offset count : Nat)
  | slst (line tag start : Nat)
  | ssta (line tag : Nat)
  | packStart (line tag region : Nat)
  | packStop (line tag : Nat)
  | moveCellCopy
  -- voice, chapter 9
  | play (line tag slot startCell repeats gap stopOnDigit : Nat)
  | recd (line tag slot limit silence threshold stopOnDigit : Nat)
  | paus (line tag value : Nat)
  | vstp (line tag : Nat)
  | voiceOperationStart (i : LineNo)
  | playCellReached (i : LineNo)
  | gapEnd (i : LineNo)
  /-- `samples`: the 80 samples from the codec in the frame that ends (R143). -/
  | voiceFrameEnd (i : LineNo) (samples : List Int)
  -- answer plans, chapter 10
  | recordToneEnd (i : LineNo)
  | mailboxWaitExpiry (i : LineNo)
  | callingToneBurst (i : LineNo)
  | callingToneReset (i : LineNo)
  | take (line tag : Nat)
  -- host link and notices, chapter 11
  /-- `bytes`: every byte of the record after its lead byte (R162). -/
  | recordReceived (bytes : List Byte)
  | inboundGapExpiry
  /-- `payload`: the payload of a REQUEST record whose name the part does not know (R166). -/
  | unknownRequest (line tag : Nat) (payload : List Byte)
  | recordSent
  | nmsk (line tag : Nat) (settings : List (List Byte × Nat × Nat × Nat))
  -- settings, start-up and counters, chapter 12
  | getp (line tag section_ sline : Nat)
  | setp (line tag section_ : Nat) (contents : List Byte)
  | save (line tag : Nat)
  | saveEnd (result : SaveEnd)
  | rsetSoft (line tag : Nat)
  | rsetHard (line tag : Nat)
  | cntr (line tag selector clear : Nat)
  | powerOn
  | resetPin
  | clockLoss
  | startUp
  /-- `read`: absent where the EEPROM does not acknowledge, else the bytes it gives (R174). -/
  | settingsLoaded (read : Option (List Byte))
  /-- `samples`: the samples of the unfinished frame, up to the one that completes the last byte (R143). -/
  | recordingLimitReached (i : LineNo) (samples : List Int)
  | hostLinkByteReceived (b : Byte)
  | callerIdByteReceived (i : LineNo)
  deriving DecidableEq, Repr

end Sys2Proof
end

