-- ==== Sys2Proof/Decode.lean ====
section
/-! DEFINITION. Command words. The rows of spec/opcode_table.json give no bits: the K414 takes its requests as framed
records (R162, `Sys2Proof.Machine.requestOf`) and everything else as events, so no word spells a command. -/

namespace Sys2Proof

/-- The command that a word spells by the table's bits: none, as no row gives bits. -/
def decodeTableWord (_nbits _w : Nat) : Option Instr := none

end Sys2Proof
end

