-- ==== Sys2Proof/Config.lean ====
section
/-! DEFINITION. What is fixed for every K414, and the values the manual leaves free. -/

namespace Sys2Proof.Config

/-- Capacity of the Budget Manager in work units (R54). -/
def capacity : Nat := 120

/-- Size of a store cell in bytes (spec 00 section 4, R116). -/
def cellBytes : Nat := 1024

/-- Payload bytes of a voice cell (R116). -/
def voicePayload : Nat := 1020

/-- Number of directory entries (R118). -/
def dirSize : Nat := 96

/-- Number of Caller Table positions (R49). -/
def tableSize : Nat := 32

/-- Number of call queue entry records (R40). -/
def recCount : Nat := 8

/-- Size of the TX and RX buffers of the block link (R84, R85). -/
def bufferSize : Nat := 2048

/-- Upper end of every counter (R179). -/
def counterMax : Nat := 4294967295

/-- FREE VALUE (log 15): the line voltage that a check taken inside a soft reset measures (R15). The request that
carries the reset brings no measurement, so nothing constrains the value. -/
opaque lineVoltage : Nat → Nat

/-- FREE VALUE (log 21): the codes of the message kinds of the block link and of the fax exchange (6.3, 7.2), which the
manual does not give. Kinds differ; nothing else is known of them. -/
opaque kindCode : Equiv.Perm Byte

/-- FREE VALUE (log 21): the register of the cyclic check before the first bit (R86). -/
opaque checkStart : BitVec 16

/-- FREE VALUE (log 21): what the register is added to after the last bit (R86). -/
opaque checkEnd : BitVec 16

/-- FREE VALUE (log 21): whether bits and bytes of a message on the line go least significant first (R86). -/
opaque lowFirst : Bool

end Sys2Proof.Config
end

