-- ==== Sys2Proof/Machine/State.lean ====
section
/-! DEFINITION. The state of the K414 as plain data, every piece the manual gives the part (INVENTORY.md, State), the
state after reset, and the reasons a step can stop. -/

namespace Sys2Proof.Machine

open Sys2Proof

/-! ## Names shared by the blocks -/

/-- Call kinds, in the order of R19. -/
inductive CallKind where
  | data | fax | voice
  deriving DecidableEq, Repr

/-- Dial methods (R21), coded PULSE 0, TONE 1 (R162). -/
inductive DialMethod where
  | pulse | tone
  deriving DecidableEq, Repr

/-- Elements of a dial list (R21). -/
inductive DialElem where
  | digit (d : Dtmf)
  | pause (n : Nat)
  | flash
  | awaitTone
  | method (m : DialMethod)
  deriving DecidableEq, Repr

/-- A maximum class and a floor class (R19). -/
structure Conn where
  maxc : Cls
  floor : Cls
  deriving DecidableEq, Repr

/-- Reply statuses, in the order of R166. -/
inductive Status where
  | ok | accepted | queued | busy | unknown | malformed | badArgument | wrongState | noLine | queueFull
  | notFound | inUse | noRight | storeFull | directoryFull | outOfService | noCapacity | damaged
  deriving DecidableEq, Repr

/-- Notice kinds, in the order of the notice table of R162. -/
inductive Notice where
  | strt | clrd | call | svce | faxj | plan | ring | clid | dgts | voic | faxp | msgn | link | qual | txlv
  | grup | cque | pack | lerr
  deriving DecidableEq, Repr

/-! ## Line interface (chapter 1) -/

/-- Hook states (R1). -/
inductive Hook where
  | onHook | offHook | flashing | breaking
  deriving DecidableEq, Repr

/-- Ring detector states (R5). -/
inductive RingDet where
  | quiet | candidate | burst
  deriving DecidableEq, Repr

/-- Loop detector states (R9). -/
inductive LoopDet where
  | inactive | blanked | present | absent | lost
  deriving DecidableEq, Repr

/-- Service states (R14). -/
inductive Service where
  | inService | suspect | outOfService
  deriving DecidableEq, Repr

/-- The abandonment timer (R7): stopped, running to its expiry, or held with the time it has left. -/
inductive Abandon where
  | stopped
  | running (due : Nat)
  | held (left : Nat)
  deriving DecidableEq, Repr

/-- The Line Interface of a line (chapter 1). A timer is the moment it expires, or none. -/
structure Lif where
  hook : Hook := .onHook
  flashDue : Option Nat := none
  breakDue : Option Nat := none
  makeDue : Option Nat := none
  breaksLeft : Nat := 0
  blankDue : Option Nat := none
  ring : RingDet := .quiet
  burstDue : Option Nat := none
  burstCounted : Bool := false
  firstBurst : Bool := false
  ringCount : Nat := 0
  abandon : Abandon := .stopped
  loop : LoopDet := .inactive
  absenceDue : Option Nat := none
  service : Service := .inService
  badCount : Nat := 0
  goodCount : Nat := 0
  intervalDue : Option Nat := none
  deferred : Bool := false
  deriving DecidableEq, Repr

/-! ## Call controller and tone unit (chapter 2) -/

/-- Call states, in the order of R17. -/
inductive CallState where
  | idle | ringing | answering | seized | dialling | progress | connected | clearing
  deriving DecidableEq, Repr

/-- Who began the call (R17). -/
inductive Origin where
  | outgoing | incoming
  deriving DecidableEq, Repr

/-- Last progress outcomes, in the order of chapter 2's state table. -/
inductive Outcome where
  | none | connected | busy | noAnswer | noDialTone | glare | abandoned
  deriving DecidableEq, Repr

/-- Clear causes, highest rank first (R33). -/
inductive Cause where
  | loopLost | carrierLost | trainFailed | linkFailed | faxFailed | noCapacity | planDone | hostRelease
  deriving DecidableEq, Repr

/-- End reasons (R34, R162). -/
inductive EndReason where
  | cause (c : Cause)
  | progressFailed
  | reset
  deriving DecidableEq, Repr

/-- The stage of the dial list element being carried out, with its timer (R22). -/
inductive ElemStage where
  | none
  | toneDigit (due : Nat)
  | breaks
  | pulsePause (due : Nat)
  | pause (due : Nat)
  | flash
  | await (due : Nat)
  deriving DecidableEq, Repr

/-- A caller record (R28). -/
structure Caller where
  number : Option (List Byte) := none
  name : Option (List Byte) := none
  deriving DecidableEq, Repr

/-- The Call Controller of a line (chapter 2). -/
structure Cc where
  state : CallState := .idle
  kind : Option CallKind := none
  origin : Option Origin := none
  dial : List DialElem := []
  pos : Nat := 0
  method : DialMethod := .tone
  elem : ElemStage := .none
  conn : Option Conn := none
  ignore : Bool := false
  dialToneDue : Option Nat := none
  answerDue : Option Nat := none
  settleDue : Option Nat := none
  ringbackDue : Option Nat := none
  ringbackHeld : Bool := false
  guardDue : Option Nat := none
  drainDue : Option Nat := none
  busyCycles : Nat := 0
  ringbackHeard : Bool := false
  speechRun : Nat := 0
  outcome : Outcome := .none
  causes : List Cause := []
  endReason : Option EndReason := none
  connSecs : Nat := 0
  connectAt : Option Nat := none
  caller : Option Caller := none
  deriving DecidableEq, Repr

/-- The call-progress tone detector (R23): no tone and no classed silence; tone since `start`; tone past its 2500 ms;
silence since `start` after a tone of 200 to 700 ms. -/
inductive CpTone where
  | quiet
  | tone (start : Nat)
  | over
  | silence (start : Nat)
  deriving DecidableEq, Repr

/-- An open caller-identification window (R27). -/
structure ClidWindow where
  due : Nat
  begun : Bool := false
  deriving DecidableEq, Repr

/-- The Tone Unit of a line (chapter 2). -/
structure Tu where
  cp : CpTone := .quiet
  /-- a call-progress tone has been reported in the frame of PROGRESS in progress (R23) -/
  toneInFrame : Bool := false
  clid : Option ClidWindow := none
  toneList : List Dtmf := []
  toneDue : Option Nat := none
  digits : List Dtmf := []
  deriving DecidableEq, Repr

/-! ## Groups, call queue and caller table (chapter 3) -/

/-- Group states, in the order of R38. -/
inductive GroupState where
  | empty | active | degraded | down
  deriving DecidableEq, Repr

/-- The states of an entry record (R42). -/
inductive RecState where
  | free
  | queued
  | assigned (i : LineNo)
  deriving DecidableEq, Repr

/-- A group call (R40). -/
structure GroupCall where
  group : LineNo := 0
  kind : CallKind := .voice
  dial : List DialElem := []
  conn : Option Conn := none
  wait : Nat := 0
  tag : Nat := 0
  deriving DecidableEq, Repr

/-- An entry record (R40, R42); a FREE record holds nothing. -/
structure EntryRec where
  st : RecState := .free
  call : GroupCall := {}
  expiry : Nat := 0
  deriving DecidableEq, Repr

/-- Queue events (R47). `line` is absent except for DISPATCHED. -/
inductive QEventKind where
  | dispatched | expired | glareRequeued
  deriving DecidableEq, Repr

/-- A queue event (R47). -/
structure QEvent where
  kind : QEventKind
  entry : Nat
  tag : Nat
  line : Option LineNo
  deriving DecidableEq, Repr

/-- The Group Dispatcher (chapter 3). -/
structure Gd where
  rotation : Four LineNo := Four.all 3
  groupState : Four GroupState := Four.all .empty
  recs : List EntryRec := List.replicate 8 {}
  queue : List Nat := []
  deriving DecidableEq, Repr

/-- Classes of a Caller Table entry and of a call (R49, R162). -/
inductive CallerClass where
  | learned | known | priority | barred | unknown
  deriving DecidableEq, Repr

/-- A used Caller Table entry (R49). -/
structure CtEntry where
  number : List Byte
  cls : CallerClass
  count : Nat
  lastOrdinal : Nat
  label : Option (List Byte)
  deriving DecidableEq, Repr

/-- The Caller Table (R49). -/
structure Ct where
  table : List (Option CtEntry) := List.replicate 32 none
  ordinal : Nat := 0
  deriving DecidableEq, Repr

/-! ## Budget (chapter 4) -/

/-- Activities a line can hold, a pump with the class it is counted at (R55). -/
inductive Activity where
  | clid | callProgress | voiceBase | voicePlay | voiceRecord | listener | blockLink | faxFraming
  | pump (c : Cls)
  deriving DecidableEq, Repr

/-- Who asked for a pending admission (R61): the call controller for a connection, the voice coder for the host, and
the answer plan for its answer, its fax hand-over, its voice base after a failed hand-over, its recording. -/
inductive Requester where
  | ccConnection | vcHost | planAnswer | planFax | planVoice | planRecord
  deriving DecidableEq, Repr

/-- What an admission asks for: the activities without the pump, and the pump's classes (R56). -/
structure Ask where
  acts : List Activity
  pump : Option Conn
  deriving DecidableEq, Repr

/-- A pending admission (R58). The list holds them in the order they joined. -/
structure Pending where
  line : LineNo
  ask : Ask
  requirement : Nat
  requester : Requester
  joined : Nat
  due : Nat
  deriving DecidableEq, Repr

/-- The reclaim in flight (R62). -/
structure Reclaim where
  victim : LineNo
  clsAt : Cls
  madeFor : Option LineNo
  time : Nat
  deriving DecidableEq, Repr

/-- The Budget Manager (chapter 4). `due`: units were released or the list was left in this step and the hand-out is
still to be made; `offer`: units were released and are still to be offered to the call queue. Both are false between
steps (log 16). -/
structure Bm where
  plist : List Pending := []
  reclaim : Option Reclaim := none
  due : Bool := false
  offer : Bool := false
  deriving DecidableEq, Repr

/-! ## Data pump (chapter 5) -/

/-- Pump states (R67). -/
inductive Pump where
  | off | training | running | rateChange | retraining
  deriving DecidableEq, Repr

/-- The rate change record (R74). -/
structure RateChange where
  up : Bool
  target : Cls
  begun : Option Nat
  confirmed : Bool
  deriving DecidableEq, Repr

/-- What the pump last signalled to the remote (R70, R74, R78). -/
inductive PumpSignal where
  | offer (c : Cls)
  | target (c : Cls)
  | declined
  deriving DecidableEq, Repr

/-- The Data Pump of a line (chapter 5). The counted class is the class of the pump among the line's activities. -/
structure Dp where
  pump : Pump := .off
  family : Option Family := none
  cur : Option Cls := none
  agreedMax : Option Cls := none
  reclaimFloor : Option Cls := none
  acc : Nat := 0
  trainSum : Nat := 0
  trainCount : Nat := 0
  pick : Option Cls := none
  offer : Option Cls := none
  offerDue : Option Nat := none
  attempts : Nat := 0
  lossRun : Nat := 0
  belowRun : Nat := 0
  fwdRun : Nat := 0
  stableRun : Nat := 0
  retrainCount : Nat := 0
  rc : Option RateChange := none
  owed : Option Cls := none
  signal : Option PumpSignal := none
  deriving DecidableEq, Repr

/-! ## Block link (chapter 6) -/

/-- Link states, in the order of R82. -/
inductive LinkState where
  | off | waiting | setup | up | suspended
  deriving DecidableEq, Repr

/-- Link modes. -/
inductive LinkMode where
  | ec | plain
  deriving DecidableEq, Repr

/-- A block of the unacknowledged list (R88). -/
structure Block where
  seq : Nat
  payload : List Byte
  sends : Nat
  retries : Nat
  deriving DecidableEq, Repr

/-- A supervisory message (R86). -/
structure Sup where
  kind : SupKind
  n : Nat
  deriving DecidableEq, Repr

/-- A message or byte in transmission to the pump (R86, R95). -/
inductive LinkMsg where
  | data (seq : Nat) (payload : List Byte)
  | sup (m : Sup)
  | setup (window size : Nat)
  | plain (b : Byte)
  deriving DecidableEq, Repr

/-- The Block Link Controller of a line (chapter 6). The agreed window and block sizes are 0 until a setup agrees them (log
75). -/
structure Blc where
  link : LinkState := .off
  mode : Option LinkMode := none
  tryNo : Nat := 0
  tryDue : Option Nat := none
  setupOwed : Bool := false
  window : Nat := 0
  maxBlock : Nat := 0
  block : Nat := 0
  tx : List Byte := []
  txHigh : Bool := false
  rx : List Byte := []
  unacked : List Block := []
  vs : Nat := 0
  resend : Option Nat := none
  peerNotReady : Bool := false
  retryDue : Option Nat := none
  vr : Nat := 0
  rejOut : Bool := false
  notReady : Bool := false
  slot : Option Sup := none
  spanCount : Nat := 0
  spanResends : Nat := 0
  cleanRun : Nat := 0
  hold : Bool := false
  transmitting : Option LinkMsg := none
  deriving DecidableEq, Repr

/-! ## Fax (chapter 7) -/

/-- Direction of a fax job (R98). -/
inductive FaxDir where
  | send | receive
  deriving DecidableEq, Repr

/-- Phases of a fax job, in the order of R98. -/
inductive FaxPhase where
  | setup | negotiate | train | page | postpage | release | ended
  deriving DecidableEq, Repr

/-- Fax policies (R98). -/
inductive Policy where
  | stepDown | accept
  deriving DecidableEq, Repr

/-- Page resolutions (R98). -/
inductive Resolution where
  | normal | fine
  deriving DecidableEq, Repr

/-- Job outcomes, in the order of R98. -/
inductive FaxOutcome where
  | done | incompatible | checkFailed | noResponse | storeFull | directoryFull | pageMissing | remoteEnded
  | remoteError | aborted | cleared | noJob
  deriving DecidableEq, Repr

/-- Resolution and width of a fax page. -/
structure FaxForm where
  resolution : Resolution
  width : Nat
  deriving DecidableEq, Repr

/-- What the exchange does after an accepted check (table of R104): begin the first page, go on past a partial-page
boundary, or go on with the same partial page. -/
inductive AfterCheck where
  | firstPage | boundary | samePart
  deriving DecidableEq, Repr

/-- Fax messages the part sends (table of 7.2). -/
inductive FaxMsg where
  /-- `fine`: FINE is taken too; `widest`: the widest width code -/
  | capability (c : Cls) (fine : Bool) (widest reserve : Nat)
  | choice (c : Cls) (form : FaxForm)
  | confirmation (accepted : Bool)
  | announce (c : Cls)
  | burst (c : Cls)
  | verdict (rejected : Option Cls)
  | header (page part count : Nat) (last : Bool)
  | roundEnd
  | frameMap (missing : List Nat) (action : MapAction)
  | pageClose (more : Bool)
  | pageConfirmation
  | release
  deriving DecidableEq, Repr

/-- The wait in progress of a fax job (R102, R113): for the answer to a message already sent `tries` times, for the
remote's capability, for the next message of the sender, for the remote's release. -/
inductive FaxWait where
  | none
  | answer (m : FaxMsg) (tries : Nat) (due : Nat)
  | capability (due : Nat)
  | sender (due : Nat)
  | release (due : Nat)
  deriving DecidableEq, Repr

/-- A received page (R98). -/
structure RxPage where
  id : Nat
  missing : Nat
  deriving DecidableEq, Repr

/-- A job record (R98), with the working fields of the exchange after `outcome`. -/
structure FaxJob where
  dir : Option FaxDir := none
  phase : FaxPhase := .setup
  pages : List Nat := []
  policy : Policy := .stepDown
  agreed : Option FaxForm := none
  remoteReserve : Option Nat := none
  cls : Option Cls := none
  f1fails : Nat := 0
  pageIdx : Nat := 0
  part : Nat := 0
  round : Nat := 1
  missing : List Nat := []
  pagesDone : Nat := 0
  framesResent : Nat := 0
  received : List RxPage := []
  outcome : Option FaxOutcome := none
  /-- the job has started, not only been prepared (R99) -/
  started : Bool := false
  /-- resolution and width the request names (R99) -/
  wanted : FaxForm := ⟨.normal, 0⟩
  /-- page reserve of a receive job (R100) -/
  reserve : Nat := 0
  /-- highest class offered in the capability message (R103) -/
  offered : Option Cls := none
  /-- class of the training check in progress (R104) -/
  fk : Option Cls := none
  after : AfterCheck := .firstPage
  /-- times the training burst of the check in progress has been sent (R102) -/
  bursts : Nat := 0
  /-- a check of this job has been accepted (R79, R104) -/
  checked : Bool := false
  /-- directory id of the page in progress (R109, R112) -/
  page : Option Nat := none
  /-- a page of a receive job has been begun (R98) -/
  anyPage : Bool := false
  /-- a header of the page in progress has been taken or sent -/
  partOpen : Bool := false
  /-- the partial page in progress has ended (R108) -/
  partEnded : Bool := false
  frameCount : Nat := 0
  lastPart : Bool := false
  /-- frames of ended partial pages given up (R107) -/
  givenUp : Nat := 0
  /-- answers already given, for a repeated message (R102) -/
  choiceAnswer : Option Bool := none
  mapAnswer : Option FaxMsg := none
  closeAnswered : Bool := false
  choiceSent : Option FaxMsg := none
  deriving DecidableEq, Repr

/-- The Fax Controller of a line (chapter 7). `sent` and `roundOut` are the last message and the last round's frames
given to the pump; `faxp` is the page that FAXP shows. -/
structure Fxc where
  job : Option FaxJob := none
  jobWaitDue : Option Nat := none
  wait : FaxWait := .none
  faxp : Option RxPage := none
  sent : Option FaxMsg := none
  roundOut : List (Nat × List Byte) := []
  deriving DecidableEq, Repr

/-! ## Message store (chapter 8) -/

/-- Kinds of directory entry, in the order of R118. -/
inductive EntryKind where
  | voiceMessage | greeting | faxRxPage | faxTxPage
  deriving DecidableEq, Repr

/-- Rights of a window slot (R122). -/
inductive Right where
  | play | record
  deriving DecidableEq, Repr

/-- Fax page information of an entry (R118). -/
structure FaxInfo where
  form : FaxForm
  missing : Nat
  deriving DecidableEq, Repr

/-- A used directory entry (R118); its id is its place in the directory. -/
structure Entry where
  kind : EntryKind
  open_ : Bool
  moving : Bool
  damaged : Bool
  base : Nat
  extent : Nat
  used : Nat
  mailbox : Option Nat
  originLine : Option LineNo
  ordinal : Option Nat
  number : Option (List Byte)
  fax : Option FaxInfo
  deriving DecidableEq, Repr

/-- A window slot's contents (R122). -/
structure Attach where
  id : Nat
  right : Right
  deriving DecidableEq, Repr

/-- Regions of the store as PACK names them (R127); the region being worked is `voice` or `fax`. -/
inductive Region where
  | voice | fax | both
  deriving DecidableEq, Repr

/-- Pack states (R127). -/
inductive PackState where
  | idle | running | stopping
  deriving DecidableEq, Repr

/-- Pack outcomes (R128). -/
inductive PackOutcome where
  | done | partial_ | stopped
  deriving DecidableEq, Repr

/-- The last pack result (R128). -/
structure PackResult where
  outcome : PackOutcome
  region : Region
  voice : Nat
  fax : Nat
  deriving DecidableEq, Repr

/-- The pack in progress (R127, R128). -/
structure Pack where
  st : PackState := .idle
  region : Region := .voice
  working : Region := .voice
  voice : Nat := 0
  fax : Nat := 0
  atOpen : Bool := false
  deriving DecidableEq, Repr

/-- The move in flight (R129); `due` is the end of the millisecond of the next copy. -/
structure Move where
  id : Nat
  old : Nat
  new : Nat
  mark : Nat
  due : Nat
  deriving DecidableEq, Repr

/-- The Store Controller (chapter 8), without the line windows. `mem` lists the store bytes that are not zero, by
rising address; `badParity` lists the bytes of wrong parity, by rising address (log 8). -/
structure Stc where
  size : Nat := 1024
  mem : List Host.Cell := []
  badParity : List Nat := []
  dir : List (Option Entry) := List.replicate 96 none
  pack : Pack := {}
  move : Option Move := none
  packResult : Option PackResult := none
  deriving DecidableEq, Repr

/-! ## Voice coder (chapter 9) -/

/-- Kind and phase of a voice operation (R138). -/
inductive VoiceKind where
  | play | recd
  deriving DecidableEq, Repr

inductive VoicePhase where
  | waiting | playing | gap | paused | recording
  deriving DecidableEq, Repr

/-- Voice outcomes, coded as R162 codes them. -/
inductive VoiceOutcome where
  | done | silence | limit | digit | stopped | hangup | noCapacity
  deriving DecidableEq, Repr

/-- What is left to put out of the cell a play has read (R137, R140). -/
inductive PlayBuf where
  | codes (l : List Nat)
  | silent (samples : Nat)
  deriving DecidableEq, Repr

/-- A voice operation record (R138). -/
structure VoiceOp where
  kind : VoiceKind
  host : Bool
  slot : LineNo
  id : Nat
  startCell : Nat := 0
  repeats : Nat := 1
  gap : Nat := 0
  stopOnDigit : Bool := false
  limit : Nat := 1
  silence : Nat := 1
  threshold : Nat := 0
  phase : VoicePhase := .waiting
  pausedPhase : VoicePhase := .playing
  cell : Nat := 0
  repeatNo : Nat := 1
  gapDue : Option Nat := none
  gapLeft : Nat := 0
  /-- silent samples of the gap still to be put out, eight to a millisecond (R140) -/
  gapOut : Nat := 0
  startLen : Nat := 0
  silenceRun : Nat := 0
  busyStart : Option Nat := none
  stopReq : Bool := false
  pauseReq : Bool := false
  /-- PAUS OFF taken, the play goes on at the next frame boundary (R141) -/
  resumeReq : Bool := false
  /-- the admission is held (R138) -/
  granted : Bool := false
  /-- a digit that ends the recording at the end of the frame was declared (R144) -/
  digitStop : Bool := false
  /-- the rest of the cell read, and the samples of the frame already put out or encoded -/
  buf : PlayBuf := .codes []
  frameFill : Nat := 0
  deriving DecidableEq, Repr

/-- The result of the last voice operation to end (R138). -/
structure VoiceResult where
  outcome : VoiceOutcome
  id : Nat
  host : Bool
  deriving DecidableEq, Repr

/-- The Voice Coder of a line (chapter 9). `out` holds the samples given to the codec in the latest step. -/
structure Vc where
  predicted : Int := 0
  stepIndex : Nat := 16
  code : Option Nat := none
  op : Option VoiceOp := none
  lastResult : Option VoiceResult := none
  out : List Int := []
  deriving DecidableEq, Repr

/-! ## Answer plans (chapter 10) -/

/-- Profile modes, in the order of R148. -/
inductive Mode where
  | off | voice | fax | data | auto
  deriving DecidableEq, Repr

/-- An answer profile (R148). -/
structure Profile where
  mode : Mode := .off
  rings : Nat := 4
  priorityRings : Nat := 1
  withheldIgnore : Bool := false
  greeting : Option Nat := none
  altGreeting : Option Nat := none
  repeats : Nat := 1
  gap : Nat := 0
  mailboxWait : Nat := 0
  mailbox : Nat := 0
  recordLimit : Nat := 120
  silence : Nat := 5
  threshold : Nat := 100
  faxListen : Bool := false
  data : Conn := ⟨.d7, .d1⟩
  fax : Conn := ⟨.f6, .f1⟩
  faxPolicy : Policy := .stepDown
  deriving DecidableEq, Repr

/-- Plan states, in the order of chapter 10's state table. -/
inductive PlanState where
  | inactive | waitRings | answering | greeting | mailboxWait | recording | faxHandoff | dataHandoff | ending
  deriving DecidableEq, Repr

/-- Plan outcomes, in the order of R159. -/
inductive PlanOutcome where
  | message | tooShort | notRecorded | fax | data | taken | notConnected
  deriving DecidableEq, Repr

/-- The last plan result (R159). -/
structure PlanResult where
  outcome : PlanOutcome
  id : Option Nat
  deriving DecidableEq, Repr

/-- The Answer Plan Controller of a line (chapter 10). -/
structure Apc where
  plan : PlanState := .inactive
  mode : Mode := .off
  profile : Option Profile := none
  ordinal : Option Nat := none
  callerClass : Option CallerClass := none
  greeting : Option Nat := none
  toneCount : Nat := 0
  toneReset : Option Nat := none
  mailbox : Option Nat := none
  message : Option Nat := none
  mailboxDue : Option Nat := none
  recordToneDue : Option Nat := none
  planResult : Option PlanResult := none
  lastKept : Option (Nat × Nat) := none
  /-- the receive job of a hand-over has started (R153, R157) -/
  handedOver : Bool := false
  deriving DecidableEq, Repr

/-! ## One line -/

/-- The counters of a line, in the order of R179. -/
structure LineCounters where
  callsIn : Nat := 0
  callsOut : Nat := 0
  answered : Nat := 0
  progressFailures : Nat := 0
  digits : Nat := 0
  digitsDropped : Nat := 0
  fallbacks : Nat := 0
  forwards : Nat := 0
  forwardsDenied : Nat := 0
  retrains : Nat := 0
  blocksSent : Nat := 0
  blocksGood : Nat := 0
  badChecks : Nat := 0
  resends : Nat := 0
  txOverrun : Nat := 0
  rxOverrun : Nat := 0
  discarded : Nat := 0
  faxSent : Nat := 0
  faxReceived : Nat := 0
  faxResent : Nat := 0
  parity : Nat := 0
  greetingsSkipped : Nat := 0
  deriving DecidableEq, Repr

/-- Everything that exists once per line. -/
structure Line where
  lif : Lif := {}
  cc : Cc := {}
  tu : Tu := {}
  precRaised : Bool := false
  acts : List Activity := []
  dp : Dp := {}
  blc : Blc := {}
  fxc : Fxc := {}
  window : Four (Option Attach) := Four.all none
  vc : Vc := {}
  apc : Apc := {}
  cnt : LineCounters := {}
  deriving DecidableEq, Repr

/-! ## Host link and notices (chapter 11) -/

/-- A request as its record spells it (R162), without the line byte and the tag. `malformed`: a known name whose
fields do not fit it; `unknown`: a payload whose name is not known. -/
inductive Request where
  | call (kind maxc floor : Nat) (dial : List (Nat × Nat))
  | callGroup (group kind maxc floor wait hostTag : Nat) (dial : List (Nat × Nat))
  | ansr (kind maxc floor : Nat)
  | rels (drain : Nat)
  | digr
  | tone (digits : List Byte)
  | cncl (entry : Nat)
  | ctad (number : List Byte) (cls : Nat) (label : List Byte)
  | ctdl (position : Nat)
  | ctrd (start : Nat)
  | budg
  | flow (value : Nat)
  | faxs (pages : List Nat) (resolution width policy : Nat)
  | faxr (policy : Nat)
  | fxst
  | fxab
  | scrt (kind extent mailbox : Nat)
  | scls (id : Nat)
  | sdel (id : Nat)
  | atch (slot id right : Nat)
  | dtch (slot : Nat)
  | swrt (id : Nat) (bytes : List Byte)
  | sred (id offset count : Nat)
  | slst (start : Nat)
  | ssta
  | pack (action region : Nat)
  | play (slot startCell repeats gap stopOnDigit : Nat)
  | recd (slot limit silence threshold stopOnDigit : Nat)
  | paus (value : Nat)
  | vstp
  | take
  | nmsk (settings : List (List Byte × Nat × Nat × Nat))
  | getp (section_ sline : Nat)
  | setp (section_ : Nat) (contents : List Byte)
  | save
  | rset (kind : Nat)
  | cntr (selector clear : Nat)
  | malformed (name : List Byte)
  | unknown (payload : List Byte)
  deriving DecidableEq, Repr

/-- The body of a whole record that may be offered to the inbound buffer: a DATA_IN's bytes or a request (R163). -/
inductive InBody where
  | data (bytes : List Byte)
  | request (r : Request)
  deriving DecidableEq, Repr

/-- A whole record in the inbound buffer, held as its reading (R162, R164). -/
structure Inbound where
  line : Nat
  tag : Nat
  body : InBody
  deriving DecidableEq, Repr

/-- A reply (R162, R167). -/
structure Reply where
  line : Nat
  tag : Nat
  name : List Byte
  status : Status
  fields : List Byte
  deriving DecidableEq, Repr

/-- The record being sent (R168). -/
inductive OutRec where
  | reply (r : Reply)
  | notice (n : Notice) (line : Nat) (content : List Byte)
  | dataOut (i : LineNo) (bytes : List Byte)
  deriving DecidableEq, Repr

/-- The receiver of the host link (R163): HUNT, or COLLECT with the bytes taken after the lead. -/
inductive Receiver where
  | hunt
  | collect (bytes : List Byte)
  deriving DecidableEq, Repr

/-- The Link Port (chapter 11). `open_` is the taking state; `hardPending`: RSET HARD has been taken (R177). -/
structure Lp where
  receiver : Receiver := .hunt
  gapDue : Option Nat := none
  inbound : List Inbound := []
  open_ : Bool := false
  replies : List Reply := []
  sending : Option OutRec := none
  nonDataRun : Nat := 0
  dataPointer : LineNo := 3
  hardPending : Bool := false
  deriving DecidableEq, Repr

/-- The Notice Unit (chapter 11): pending flags by kind (in the notice table's order) and line, a part-wide kind
using line 0, and the queue-event list (R47). -/
structure Nu where
  flags : List (Four Bool) := List.replicate 19 (Four.all false)
  queueEvents : List QEvent := []
  deriving DecidableEq, Repr

/-! ## Settings, resets and counters (chapter 12) -/

/-- PART section (R173). -/
structure PartSettings where
  storeSize : Nat := 1024
  linkRate : Nat := 115200
  slowInterval : Nat := 30
  voltage : Nat := 18
  burstMin : Nat := 150
  speech : Nat := 128
  deriving DecidableEq, Repr

/-- LINE section (R173). -/
structure LineSettings where
  precedence : Nat := 1
  dialMethod : DialMethod := .tone
  answerWait : Nat := 45
  linkWindow : Nat := 7
  faxReserve : Nat := 128
  profile : Profile := {}
  deriving DecidableEq, Repr

/-- Level of a notice kind and its mask per line, set where masked (R169, R173). -/
structure NoticeCfg where
  level : Nat
  masked : Four Bool
  deriving DecidableEq, Repr

/-- A static caller entry (R173). -/
structure StaticCaller where
  number : List Byte
  cls : CallerClass
  label : List Byte
  deriving DecidableEq, Repr

/-- The default level of each notice kind and the default masks, in the notice table's order (R162, R170). -/
def defaultNotices : List NoticeCfg :=
  [⟨0, Four.all false⟩, ⟨1, Four.all false⟩, ⟨1, Four.all false⟩, ⟨1, Four.all false⟩, ⟨1, Four.all false⟩,
   ⟨1, Four.all false⟩, ⟨2, Four.all false⟩, ⟨2, Four.all false⟩, ⟨2, Four.all false⟩, ⟨2, Four.all false⟩,
   ⟨2, Four.all false⟩, ⟨2, Four.all false⟩, ⟨2, Four.all false⟩, ⟨3, Four.all true⟩, ⟨3, Four.all true⟩,
   ⟨2, Four.all false⟩, ⟨2, Four.all false⟩, ⟨3, Four.all false⟩, ⟨3, Four.all false⟩]

/-- The live settings copy (chapter 12). -/
structure Settings where
  part : PartSettings := {}
  lines : Four LineSettings := Four.all {}
  groups : Four (Four Bool) := Four.all (Four.all false)
  notices : List NoticeCfg := defaultNotices
  callers : List StaticCaller := []
  deriving DecidableEq, Repr

/-- Settings source, save state and save result, in the order of chapter 12's state table. -/
inductive Source where
  | loaded | defaultsAbsent | defaultsBad
  deriving DecidableEq, Repr

inductive SaveState where
  | idle | writing | failed
  deriving DecidableEq, Repr

inductive SaveResult where
  | none | done | failed
  deriving DecidableEq, Repr

/-- What the part itself has left in the EEPROM (R176): nothing since this history began, a whole image, or the first
part of an image over older bytes. -/
inductive Eeprom where
  | untouched
  | image (bytes : List Byte)
  | torn
  deriving DecidableEq, Repr

/-- Reset causes, in the order of R177. -/
inductive ResetCause where
  | powerOn | resetPin | hostHard | clockLoss | hostSoft
  deriving DecidableEq, Repr

/-- Held in hard reset, loading the settings image, or running (R177, R178). -/
inductive Phase where
  | held | loading | running
  deriving DecidableEq, Repr

/-- The Settings Loader (chapter 12). -/
structure Sl where
  live : Settings := {}
  linkRate : Nat := 115200
  source : Source := .defaultsBad
  present : Bool := false
  saveState : SaveState := .idle
  lastSave : SaveResult := .none
  snapshot : Option (List Byte) := none
  saveDue : Option Nat := none
  eeprom : Eeprom := .untouched
  deriving DecidableEq, Repr

/-- The part-wide counters, in the order of R179. -/
structure PartCounters where
  clidBad : Nat := 0
  learningDropped : Nat := 0
  eventsLost : Nat := 0
  storeParity : Nat := 0
  overrun : Nat := 0
  badRecords : Nat := 0
  stray : Nat := 0
  deriving DecidableEq, Repr

/-! ## The whole part -/

/-- The K414 and the queue of the commands that wait. -/
structure State where
  pending : List Instr := []
  now : Nat := 0
  phase : Phase := .held
  cause : ResetCause := .powerOn
  lines : Four Line := Four.all {}
  gd : Gd := {}
  ct : Ct := {}
  bm : Bm := {}
  stc : Stc := {}
  lp : Lp := {}
  nu : Nu := {}
  sl : Sl := {}
  cnt : PartCounters := {}
  freeCount : Nat := 0
  deriving DecidableEq, Repr

/-- The part right after a hard reset by power-on, before start-up (R16, R18, R48, R66, R81, R97, R115, R133, R147,
R160, R172, R177). What no rule gives stands in the log (1, 4, 8, 15, 27). -/
def State.reset : State := {}

/-- Reasons for a stop of the machine. The manual has none: every failure is a reply status, a notice, a clear cause
or a counter, so no constructor exists, and no meaning can fault (safe: nothing is lost by it). -/
inductive Fault where
  deriving DecidableEq, Repr

/-- Refusals. `notModelled`: raised by `exec` for a row that has no meaning yet (safe: nothing can be proved of such
a row's effect). -/
inductive Refusal where
  | notModelled (mnemonic : String)
  deriving DecidableEq, Repr

end Sys2Proof.Machine
end

