-- ==== Sys2Proof/Machine/Operands.lean ====
section
/-! DEFINITION. Operands: byte encodings of the host link (R162), enumerated values, clamps (R166), rate classes (R55,
R68). -/

namespace Sys2Proof

/-! ## Rate classes (R55, R68, R162) -/

/-- Place in the ladder of the family: D1 is 1, F1 is 1. -/
def Cls.idx : Cls → Nat
  | .d1 => 1 | .d2 => 2 | .d3 => 3 | .d4 => 4 | .d5 => 5 | .d6 => 6 | .d7 => 7
  | .f1 => 1 | .f2 => 2 | .f3 => 3 | .f4 => 4 | .f5 => 5 | .f6 => 6

def Cls.family : Cls → Family
  | .d1 | .d2 | .d3 | .d4 | .d5 | .d6 | .d7 => .data
  | .f1 | .f2 | .f3 | .f4 | .f5 | .f6 => .fax

/-- The code of a class: 1-7 for D1-D7, 11-16 for F1-F6 (R162). -/
def Cls.code (c : Cls) : Nat :=
  match c.family with
  | .data => c.idx
  | .fax => 10 + c.idx

/-- The data class with index `n`, clamped to D1-D7 (R19). -/
def Cls.dataOf (n : Nat) : Cls :=
  match n with
  | 0 => .d1 | 1 => .d1 | 2 => .d2 | 3 => .d3 | 4 => .d4 | 5 => .d5 | 6 => .d6 | _ => .d7

/-- The fax class with index `n`, clamped to F1-F6 (R19). -/
def Cls.faxOf (n : Nat) : Cls :=
  match n with
  | 0 => .f1 | 1 => .f1 | 2 => .f2 | 3 => .f3 | 4 => .f4 | 5 => .f5 | _ => .f6

/-- The class of a family with index `n`, clamped to the ladder. -/
def Cls.ofIdx (f : Family) (n : Nat) : Cls :=
  match f with
  | .data => Cls.dataOf n
  | .fax => Cls.faxOf n

/-- One class lower, the lowest class staying as it is (R68, R76). -/
def Cls.below (c : Cls) : Cls := Cls.ofIdx c.family (c.idx - 1)

/-- The next class up, absent at the top of the ladder. -/
def Cls.next? : Cls → Option Cls
  | .d1 => some .d2 | .d2 => some .d3 | .d3 => some .d4 | .d4 => some .d5 | .d5 => some .d6 | .d6 => some .d7
  | .d7 => none
  | .f1 => some .f2 | .f2 => some .f3 | .f3 => some .f4 | .f4 => some .f5 | .f5 => some .f6 | .f6 => none

/-- The lower of two classes of one family. -/
def Cls.lower (a b : Cls) : Cls := if b.idx < a.idx then b else a

/-- The class lowered to a cap where there is one (R76). -/
def Cls.cap (c : Cls) (owed : Option Cls) : Cls :=
  match owed with
  | some o => Cls.lower c o
  | none => c

/-- A class as one of a family, at its own place in the ladder. -/
def Cls.asFamily (f : Family) (c : Cls) : Cls := Cls.ofIdx f c.idx

/-- Pump cost in work units (R55). -/
def Cls.cost : Cls → Nat
  | .d1 => 10 | .d2 => 12 | .d3 => 18 | .d4 => 24 | .d5 => 30 | .d6 => 36 | .d7 => 42
  | .f1 => 10 | .f2 => 12 | .f3 => 15 | .f4 => 18 | .f5 => 22 | .f6 => 26

/-- Entry threshold E (R68). -/
def Cls.entry : Cls → Nat
  | .d1 => 14 | .d2 => 22 | .d3 => 34 | .d4 => 44 | .d5 => 52 | .d6 => 58 | .d7 => 64
  | .f1 => 14 | .f2 => 22 | .f3 => 28 | .f4 => 34 | .f5 => 40 | .f6 => 46

/-- Hold threshold H of a data class, E - 4 (R68). -/
def Cls.hold (c : Cls) : Nat := c.entry - 4

/-- The character code of a DTMF digit. -/
def Dtmf.code : Dtmf → Nat
  | .num d => 48 + d.val
  | .star => 42
  | .hash => 35

end Sys2Proof

namespace Sys2Proof.Machine

open Sys2Proof

/-! ## Numbers and strings as bytes (R162: high byte first) -/

/-- A number as one byte. -/
def be1 (n : Nat) : List Byte := [BitVec.ofNat 8 n]

/-- A number as two bytes, high byte first. -/
def be2 (n : Nat) : List Byte := [BitVec.ofNat 8 (n / 256), BitVec.ofNat 8 n]

/-- A number as four bytes, high byte first. -/
def be4 (n : Nat) : List Byte :=
  [BitVec.ofNat 8 (n / 16777216), BitVec.ofNat 8 (n / 65536), BitVec.ofNat 8 (n / 256), BitVec.ofNat 8 n]

/-- A string: a length byte, then its characters. -/
def beStr (s : List Byte) : List Byte := be1 s.length ++ s

/-- An optional string: length 0 stands for an absent one. -/
def beStr? (s : Option (List Byte)) : List Byte := beStr (s.getD [])

/-- An optional one-byte value: 255 where absent. -/
def be1? (n : Option Nat) : List Byte := be1 (n.getD 255)

/-- An optional two-byte value: 65535 where absent. -/
def be2? (n : Option Nat) : List Byte := be2 (n.getD 65535)

/-- A flag: 0 clear, 1 set. -/
def beFlag (b : Bool) : List Byte := be1 (if b then 1 else 0)

/-- The sum of bytes. -/
def byteSum (l : List Byte) : Nat := (l.map BitVec.toNat).sum

/-- Takes one byte as a number. -/
def rd1 : List Byte → Option (Nat × List Byte)
  | a :: r => some (a.toNat, r)
  | [] => none

/-- Takes a two-byte number. -/
def rd2 : List Byte → Option (Nat × List Byte)
  | a :: b :: r => some (a.toNat * 256 + b.toNat, r)
  | _ => none

/-- Takes a four-byte number. -/
def rd4 : List Byte → Option (Nat × List Byte)
  | a :: b :: c :: d :: r => some (((a.toNat * 256 + b.toNat) * 256 + c.toNat) * 256 + d.toNat, r)
  | _ => none

/-- Takes `n` bytes. -/
def rdN (n : Nat) (l : List Byte) : Option (List Byte × List Byte) :=
  if n ≤ l.length then some (l.take n, l.drop n) else none

/-- Takes a string. -/
def rdStr (l : List Byte) : Option (List Byte × List Byte) :=
  match rd1 l with
  | some (n, r) => rdN n r
  | none => none

/-- Takes the end of a payload: nothing may be left (R166, MALFORMED). -/
def rdEnd {α : Type} (a : α) (l : List Byte) : Option α := if l.isEmpty then some a else none

/-! ## Clamps and characters (R166) -/

/-- A quantity out of its range is clamped to the nearer end. -/
def clamp (lo hi n : Nat) : Nat := max lo (min hi n)

/-- The code of a digit character. -/
def isDigit (b : Byte) : Bool := 48 ≤ b.toNat && b.toNat ≤ 57

/-- A printable character (log 26). -/
def isPrintable (b : Byte) : Bool := 32 ≤ b.toNat && b.toNat ≤ 126

/-- The DTMF digit of a character code: 0-9, star, hash (R21, R32). -/
def dtmfOf (c : Nat) : Option Dtmf :=
  if h : 48 ≤ c ∧ c ≤ 57 then some (.num ⟨c - 48, by omega⟩)
  else if c = 42 then some .star
  else if c = 35 then some .hash
  else none

/-- A line, group or slot number as a reference: 0 to 3. -/
def lineOf (n : Nat) : Option LineNo := if h : n < 4 then some ⟨n, h⟩ else none

/-- A flag byte: 0 or 1, any other value is out of range (R162). -/
def flagOf (n : Nat) : Option Bool :=
  match n with
  | 0 => some false
  | 1 => some true
  | _ => none

/-! ## Enumerated values as bytes -/

def CallKind.code : CallKind → Nat
  | .data => 0 | .fax => 1 | .voice => 2

def CallKind.of (n : Nat) : Option CallKind :=
  match n with
  | 0 => some .data | 1 => some .fax | 2 => some .voice | _ => none

def CallState.code : CallState → Nat
  | .idle => 0 | .ringing => 1 | .answering => 2 | .seized => 3 | .dialling => 4 | .progress => 5
  | .connected => 6 | .clearing => 7

def Outcome.code : Outcome → Nat
  | .none => 0 | .connected => 1 | .busy => 2 | .noAnswer => 3 | .noDialTone => 4 | .glare => 5 | .abandoned => 6

def Cause.rank : Cause → Nat
  | .loopLost => 0 | .carrierLost => 1 | .trainFailed => 2 | .linkFailed => 3 | .faxFailed => 4
  | .noCapacity => 5 | .planDone => 6 | .hostRelease => 7

def EndReason.code : EndReason → Nat
  | .cause c => c.rank | .progressFailed => 8 | .reset => 9

def Service.code : Service → Nat
  | .inService => 0 | .suspect => 1 | .outOfService => 2

def GroupState.code : GroupState → Nat
  | .empty => 0 | .active => 1 | .degraded => 2 | .down => 3

def QEventKind.code : QEventKind → Nat
  | .dispatched => 0 | .expired => 1 | .glareRequeued => 2

def CallerClass.code : CallerClass → Nat
  | .learned => 0 | .known => 1 | .priority => 2 | .barred => 3 | .unknown => 4

/-- The four classes an entry can have (R49). -/
def CallerClass.ofEntry (n : Nat) : Option CallerClass :=
  match n with
  | 0 => some .learned | 1 => some .known | 2 => some .priority | 3 => some .barred | _ => none

def Status.code : Status → Nat
  | .ok => 0 | .accepted => 1 | .queued => 2 | .busy => 3 | .unknown => 4 | .malformed => 5 | .badArgument => 6
  | .wrongState => 7 | .noLine => 8 | .queueFull => 9 | .notFound => 10 | .inUse => 11 | .noRight => 12
  | .storeFull => 13 | .directoryFull => 14 | .outOfService => 15 | .noCapacity => 16 | .damaged => 17

def ResetCause.code : ResetCause → Nat
  | .powerOn => 0 | .resetPin => 1 | .hostHard => 2 | .clockLoss => 3 | .hostSoft => 4

def Source.code : Source → Nat
  | .loaded => 0 | .defaultsAbsent => 1 | .defaultsBad => 2

def SaveState.code : SaveState → Nat
  | .idle => 0 | .writing => 1 | .failed => 2

def SaveResult.code : SaveResult → Nat
  | .none => 0 | .done => 1 | .failed => 2

def LinkState.code : LinkState → Nat
  | .off => 0 | .waiting => 1 | .setup => 2 | .up => 3 | .suspended => 4

def LinkMode.code : LinkMode → Nat
  | .ec => 0 | .plain => 1

def FaxDir.code : FaxDir → Nat
  | .send => 0 | .receive => 1

def FaxPhase.code : FaxPhase → Nat
  | .setup => 0 | .negotiate => 1 | .train => 2 | .page => 3 | .postpage => 4 | .release => 5 | .ended => 6

def Policy.code : Policy → Nat
  | .stepDown => 0 | .accept => 1

def Policy.of (n : Nat) : Option Policy :=
  match n with
  | 0 => some .stepDown | 1 => some .accept | _ => none

def Resolution.code : Resolution → Nat
  | .normal => 0 | .fine => 1

def Resolution.of (n : Nat) : Option Resolution :=
  match n with
  | 0 => some .normal | 1 => some .fine | _ => none

def FaxOutcome.code : FaxOutcome → Nat
  | .done => 0 | .incompatible => 1 | .checkFailed => 2 | .noResponse => 3 | .storeFull => 4 | .directoryFull => 5
  | .pageMissing => 6 | .remoteEnded => 7 | .remoteError => 8 | .aborted => 9 | .cleared => 10 | .noJob => 11

def EntryKind.code : EntryKind → Nat
  | .voiceMessage => 0 | .greeting => 1 | .faxRxPage => 2 | .faxTxPage => 3

def EntryKind.of (n : Nat) : Option EntryKind :=
  match n with
  | 0 => some .voiceMessage | 1 => some .greeting | 2 => some .faxRxPage | 3 => some .faxTxPage | _ => none

/-- A kind of the voice region (R116). -/
def EntryKind.voice : EntryKind → Bool
  | .voiceMessage => true | .greeting => true | .faxRxPage => false | .faxTxPage => false

def Right.of (n : Nat) : Option Right :=
  match n with
  | 0 => some .play | 1 => some .record | _ => none

def Region.code : Region → Nat
  | .voice => 0 | .fax => 1 | .both => 2

def Region.of (n : Nat) : Option Region :=
  match n with
  | 0 => some .voice | 1 => some .fax | 2 => some .both | _ => none

def PackState.code : PackState → Nat
  | .idle => 0 | .running => 1 | .stopping => 2

def PackOutcome.code : PackOutcome → Nat
  | .done => 0 | .partial_ => 1 | .stopped => 2

def VoiceOutcome.code : VoiceOutcome → Nat
  | .done => 0 | .silence => 1 | .limit => 2 | .digit => 3 | .stopped => 4 | .hangup => 5 | .noCapacity => 6

def PlanOutcome.code : PlanOutcome → Nat
  | .message => 0 | .tooShort => 1 | .notRecorded => 2 | .fax => 3 | .data => 4 | .taken => 5 | .notConnected => 6

def Mode.code : Mode → Nat
  | .off => 0 | .voice => 1 | .fax => 2 | .data => 3 | .auto => 4

def Mode.of (n : Nat) : Option Mode :=
  match n with
  | 0 => some .off | 1 => some .voice | 2 => some .fax | 3 => some .data | 4 => some .auto | _ => none

def DialMethod.code : DialMethod → Nat
  | .pulse => 0 | .tone => 1

def DialMethod.of (n : Nat) : Option DialMethod :=
  match n with
  | 0 => some .pulse | 1 => some .tone | _ => none

/-- A maximum and a floor from two class bytes for a call kind: each clamped in its family, a floor above the maximum
used as the maximum (R19). A VOICE call has none. -/
def connOf (k : CallKind) (maxc floor : Nat) : Option Conn :=
  let mk (f : Family) (base : Nat) : Conn :=
    let m := Cls.ofIdx f (maxc - base)
    ⟨m, Cls.lower (Cls.ofIdx f (floor - base)) m⟩
  match k with
  | .data => some (mk .data 0)
  | .fax => some (mk .fax 10)
  | .voice => none

/-- The bytes of the classes used in a reply, 255 each where the call has none (log 12). -/
def beConn (c : Option Conn) : List Byte :=
  be1? (c.map (·.maxc.code)) ++ be1? (c.map (·.floor.code))

/-! ## Dial lists (R21, R41) -/

/-- Reads one element of a dial list as it is sent (R162); absent for an unknown kind or an argument it does not take. A
PAUSE count is clamped to 1-50. -/
def dialElemOf (kind arg : Nat) : Option DialElem :=
  match kind with
  | 0 => (dtmfOf arg).map .digit
  | 1 => some (.pause (clamp 1 50 arg))
  | 2 => some .flash
  | 3 => some .awaitTone
  | 4 => (DialMethod.of arg).map .method
  | _ => none

/-- Reads the elements of a dial list. -/
def dialElemsOf : List (Nat × Nat) → Option (List DialElem)
  | [] => some []
  | (k, a) :: r =>
    match dialElemOf k a, dialElemsOf r with
    | some e, some es => some (e :: es)
    | _, _ => none

/-- No star or hash where the method is PULSE, the method followed through the list; `none`: the method is not yet
known (R21, R41). -/
def dialMethodsOk (m : Option DialMethod) : List DialElem → Bool
  | [] => true
  | .method m' :: r => dialMethodsOk (some m') r
  | .digit .star :: r => m != some .pulse && dialMethodsOk m r
  | .digit .hash :: r => m != some .pulse && dialMethodsOk m r
  | _ :: r => dialMethodsOk m r

/-- Checks a dial list from a starting method and gives the stored list (R21). -/
def dialListOf (m : Option DialMethod) (l : List (Nat × Nat)) : Option (List DialElem) :=
  if 40 < l.length then none
  else
    match dialElemsOf l with
    | some es => if dialMethodsOk m es then some es else none
    | none => none

/-- Leaves out the star and hash elements before the first METHOD element (R41, a PULSE starting method). -/
def dropEarlyStars : List DialElem → List DialElem
  | [] => []
  | .method m :: r => .method m :: r
  | .digit .star :: r => dropEarlyStars r
  | .digit .hash :: r => dropEarlyStars r
  | e :: r => e :: dropEarlyStars r

/-- The list a line carries out, given its starting method (R41). -/
def dialFor (m : DialMethod) (l : List DialElem) : List DialElem :=
  match m with
  | .pulse => dropEarlyStars l
  | .tone => l

end Sys2Proof.Machine
end

