-- ==== Sys2Proof/Machine/Flags.lean ====
section
/-! DEFINITION. The notice flags: kinds, scope and order (R162), raising (R169), and saturating counters (R179). -/

namespace Sys2Proof.Machine

open Sys2Proof

/-- Place in the notice table of R162, which is the default order of R169. -/
def Notice.idx : Notice → Nat
  | .strt => 0 | .clrd => 1 | .call => 2 | .svce => 3 | .faxj => 4 | .plan => 5 | .ring => 6 | .clid => 7
  | .dgts => 8 | .voic => 9 | .faxp => 10 | .msgn => 11 | .link => 12 | .qual => 13 | .txlv => 14 | .grup => 15
  | .cque => 16 | .pack => 17 | .lerr => 18

/-- The kinds in the order of the table. -/
def noticeKinds : List Notice :=
  [.strt, .clrd, .call, .svce, .faxj, .plan, .ring, .clid, .dgts, .voic, .faxp, .msgn, .link, .qual, .txlv, .grup,
   .cque, .pack, .lerr]

/-- A part-wide kind (scope column of R162). -/
def Notice.partWide : Notice → Bool
  | .strt | .grup | .cque | .pack | .lerr => true
  | .clrd | .call | .svce | .faxj | .plan | .ring | .clid | .dgts | .voic | .faxp | .msgn | .link | .qual
  | .txlv => false

/-- The four characters of a name. -/
def chars (a b c d : Char) : List Byte := [a, b, c, d].map fun x => BitVec.ofNat 8 x.toNat

/-- The name of a notice (R162). -/
def Notice.name : Notice → List Byte
  | .strt => chars 'S' 'T' 'R' 'T' | .clrd => chars 'C' 'L' 'R' 'D' | .call => chars 'C' 'A' 'L' 'L'
  | .svce => chars 'S' 'V' 'C' 'E' | .faxj => chars 'F' 'A' 'X' 'J' | .plan => chars 'P' 'L' 'A' 'N'
  | .ring => chars 'R' 'I' 'N' 'G' | .clid => chars 'C' 'L' 'I' 'D' | .dgts => chars 'D' 'G' 'T' 'S'
  | .voic => chars 'V' 'O' 'I' 'C' | .faxp => chars 'F' 'A' 'X' 'P' | .msgn => chars 'M' 'S' 'G' 'N'
  | .link => chars 'L' 'I' 'N' 'K' | .qual => chars 'Q' 'U' 'A' 'L' | .txlv => chars 'T' 'X' 'L' 'V'
  | .grup => chars 'G' 'R' 'U' 'P' | .cque => chars 'C' 'Q' 'U' 'E' | .pack => chars 'P' 'A' 'C' 'K'
  | .lerr => chars 'L' 'E' 'R' 'R'

/-- The notice kind of a name. -/
def Notice.ofName (n : List Byte) : Option Notice := noticeKinds.find? fun k => k.name == n

/-- The pending flag of a kind on a line (line 0 for a part-wide kind). -/
def State.flag (s : State) (k : Notice) (i : LineNo) : Bool :=
  ((s.nu.flags[k.idx]?).getD (Four.all false)).get i

/-- Sets or clears a pending flag. -/
def State.setFlag (s : State) (k : Notice) (i : LineNo) (b : Bool) : State :=
  { s with nu := { s.nu with flags := s.nu.flags.modify k.idx fun f => f.set i b } }

/-- A block raises a line notice: its flag is set, or stays set (R169). -/
def State.raise (s : State) (k : Notice) (i : LineNo) : State := s.setFlag k i true

/-- A block raises a part-wide notice. -/
def State.raisePart (s : State) (k : Notice) : State := s.setFlag k 0 true

/-- A counter raised by `n`, staying at its upper end (R179). -/
def satAdd (c n : Nat) : Nat := min Config.counterMax (c + n)

end Sys2Proof.Machine
end

