-- ==== Sys2Proof/Machine/Ops.lean ====
section
/-! DEFINITION. Named operations on the state: access to a line's blocks, timers, memory of the store. -/

namespace Sys2Proof.Machine

open Sys2Proof

/-! ## Access -/

/-- The blocks of line `i`. -/
def State.line (s : State) (i : LineNo) : Line := s.lines.get i

/-- Changes the blocks of line `i`. -/
def State.upd (s : State) (i : LineNo) (f : Line → Line) : State :=
  { s with lines := s.lines.set i (f (s.lines.get i)) }

def State.updLif (s : State) (i : LineNo) (f : Lif → Lif) : State := s.upd i fun l => { l with lif := f l.lif }
def State.updCc (s : State) (i : LineNo) (f : Cc → Cc) : State := s.upd i fun l => { l with cc := f l.cc }
def State.updTu (s : State) (i : LineNo) (f : Tu → Tu) : State := s.upd i fun l => { l with tu := f l.tu }
def State.updDp (s : State) (i : LineNo) (f : Dp → Dp) : State := s.upd i fun l => { l with dp := f l.dp }
def State.updBlc (s : State) (i : LineNo) (f : Blc → Blc) : State := s.upd i fun l => { l with blc := f l.blc }
def State.updFxc (s : State) (i : LineNo) (f : Fxc → Fxc) : State := s.upd i fun l => { l with fxc := f l.fxc }
def State.updVc (s : State) (i : LineNo) (f : Vc → Vc) : State := s.upd i fun l => { l with vc := f l.vc }
def State.updApc (s : State) (i : LineNo) (f : Apc → Apc) : State := s.upd i fun l => { l with apc := f l.apc }
def State.updCnt (s : State) (i : LineNo) (f : LineCounters → LineCounters) : State :=
  s.upd i fun l => { l with cnt := f l.cnt }

/-- The settings of line `i` in the live copy. -/
def State.lineSettings (s : State) (i : LineNo) : LineSettings := s.sl.live.lines.get i

/-! ## Timers (log 2) -/

/-- The clock stands at least at the moment `d`. -/
def State.reach (s : State) (d : Nat) : State := { s with now := max s.now d }

/-- What an expiry does: nothing where the timer does not run, else the clock reaches the expiry and `f` acts. -/
def onExpiry (t : Option Nat) (s : State) (f : State → State) : State :=
  match t with
  | none => s
  | some d => f (s.reach d)

/-! ## Store memory (R116, log 8) -/

/-- What an unlisted byte of the store reads as (log 8). -/
def unlistedByte : Byte := 0

/-- Reads one byte of the store. -/
def memRead : List Host.Cell → Nat → Byte
  | [], _ => unlistedByte
  | c :: r, a => if c.1 = a then c.2 else memRead r a

/-- Writes one byte of the store, keeping the list sorted and free of bytes that read as unlisted ones do. -/
def memWrite : List Host.Cell → Nat → Byte → List Host.Cell
  | [], a, b => if b = unlistedByte then [] else [(a, b)]
  | c :: r, a, b =>
    if a < c.1 then (if b = unlistedByte then c :: r else (a, b) :: c :: r)
    else if a = c.1 then (if b = unlistedByte then r else (a, b) :: r)
    else c :: memWrite r a b

/-- Writes zero over `n` bytes from `a` on. -/
def memClear (m : List Host.Cell) (a n : Nat) : List Host.Cell :=
  m.filter fun c => !(decide (a ≤ c.1) && decide (c.1 < a + n))

/-- Copies `n` bytes from `src` to `dst`, two ranges that do not meet. -/
def memCopy (m : List Host.Cell) (src dst n : Nat) : List Host.Cell :=
  (m.filter fun c => decide (src ≤ c.1) && decide (c.1 < src + n)).foldl
    (fun acc c => memWrite acc (c.1 - src + dst) c.2) (memClear m dst n)

/-- The canonical form: addresses strictly rising, no listed byte that reads as an unlisted one. -/
abbrev memWf (m : List Host.Cell) : Prop :=
  m.Pairwise (fun x y => x.1 < y.1) ∧ ∀ c ∈ m, c.2 ≠ unlistedByte

/-- Writes a byte with its parity (R131). -/
def Stc.writeByte (t : Stc) (a : Nat) (b : Byte) : Stc :=
  { t with mem := memWrite t.mem a b, badParity := t.badParity.filter fun x => x != a }

/-- Writes bytes one after another from `a` on. -/
def Stc.writeBytes (t : Stc) (a : Nat) : List Byte → Stc
  | [] => t
  | b :: r => (t.writeByte a b).writeBytes (a + 1) r

/-- Writes zeros over `n` bytes from `a` on, with their parity. -/
def Stc.zero (t : Stc) (a n : Nat) : Stc :=
  { t with mem := memClear t.mem a n
           badParity := t.badParity.filter fun x => !(decide (a ≤ x) && decide (x < a + n)) }

/-- Some byte of the `n` from `a` on has wrong parity (R131). -/
def Stc.badIn (t : Stc) (a n : Nat) : Bool :=
  t.badParity.any fun x => decide (a ≤ x) && decide (x < a + n)

/-- The `n` bytes from `a` on. -/
def Stc.bytes (t : Stc) (a n : Nat) : List Byte := (List.range n).map fun j => memRead t.mem (a + j)

end Sys2Proof.Machine
end

