-- ==== Sys2Proof/Machine/StoreOps.lean ====
section
/-! DEFINITION. Operations of the Store Controller shared by the blocks: directory, frontiers, allocation, close,
delete, payload addresses, cell headers, window slots (chapter 8). -/

namespace Sys2Proof.Machine

open Sys2Proof

/-! ## Directory and frontiers (R116, R117) -/

/-- The used entry with an id, if there is one. -/
def Stc.entry (t : Stc) (id : Nat) : Option Entry := (t.dir[id]?).join

/-- Sets the entry with an id (absent: the entry becomes free). -/
def Stc.setEntry (t : Stc) (id : Nat) (e : Option Entry) : Stc := { t with dir := t.dir.set id e }

/-- Changes a used entry. -/
def Stc.updEntry (t : Stc) (id : Nat) (f : Entry → Entry) : Stc := { t with dir := t.dir.modify id fun e => e.map f }

/-- Payload bytes per cell (R116). -/
def Entry.perCell (e : Entry) : Nat := if e.kind.voice then Config.voicePayload else Config.cellBytes

/-- The most payload an entry can hold (R118). -/
def Entry.capacity (e : Entry) : Nat := e.extent * e.perCell

/-- The used entries. -/
def Stc.used (t : Stc) : List Entry := t.dir.filterMap fun e => e

/-- The used entries of the voice region. -/
def Stc.voiceEntries (t : Stc) : List Entry := t.used.filter fun e => e.kind.voice

/-- The used entries of the fax region. -/
def Stc.faxEntries (t : Stc) : List Entry := t.used.filter fun e => !e.kind.voice

/-- The lowest cell of a fax segment. -/
def Entry.low (e : Entry) : Nat := e.base + 1 - e.extent

/-- The voice frontier (R117). -/
def Stc.fv (t : Stc) : Nat := t.voiceEntries.foldl (fun m e => max m (e.base + e.extent)) 0

/-- The fax frontier (R117). -/
def Stc.ff (t : Stc) : Nat := t.faxEntries.foldl (fun m e => min m e.low) t.size

/-- Size of the free span. -/
def Stc.freeSpan (t : Stc) : Nat := t.ff - t.fv

/-- Hole totals of the two regions (R117). -/
def Stc.voiceHoles (t : Stc) : Nat := t.fv - (t.voiceEntries.map (·.extent)).sum
def Stc.faxHoles (t : Stc) : Nat := (t.size - t.ff) - (t.faxEntries.map (·.extent)).sum

/-! ## Cells and payload (R116, R129) -/

/-- The cell of offset `k` of a segment with base `b` (R116). -/
def EntryKind.cell (kind : EntryKind) (b k : Nat) : Nat := if kind.voice then b + k else b - k

/-- The cell of offset `k` of entry `id`: the new position below the copy mark of a move, else the old (R129). -/
def Stc.cellOf (t : Stc) (id : Nat) (e : Entry) (k : Nat) : Nat :=
  match t.move with
  | some m => if m.id = id ∧ k < m.mark then e.kind.cell m.new k else e.kind.cell e.base k
  | none => e.kind.cell e.base k

/-- The address of payload byte `b` (R116). -/
def Stc.addr (t : Stc) (id : Nat) (e : Entry) (b : Nat) : Nat :=
  if e.kind.voice then
    t.cellOf id e (b / Config.voicePayload) * Config.cellBytes + 4 + b % Config.voicePayload
  else t.cellOf id e (b / Config.cellBytes) * Config.cellBytes + b % Config.cellBytes

/-- Payload bytes `off` to `off + n - 1`. -/
def Stc.readPayload (t : Stc) (id : Nat) (e : Entry) (off n : Nat) : List Byte :=
  (List.range n).map fun j => memRead t.mem (t.addr id e (off + j))

/-- Some payload byte of a range has wrong parity. -/
def Stc.badPayload (t : Stc) (id : Nat) (e : Entry) (off n : Nat) : Bool :=
  (List.range n).any fun j => t.badParity.contains (t.addr id e (off + j))

/-- Sets an entry's damaged flag (R131). -/
def Stc.damage (t : Stc) (id : Nat) : Stc := t.updEntry id fun e => { e with damaged := true }

/-! ## Cell headers (R116, log 10) -/

/-- The four bytes of a cell header: predicted value in two bytes, step index, kind byte. -/
def headerBytes (p : Int) (stepIndex : Nat) (kind : EntryKind) : List Byte :=
  be2 (BitVec.ofInt 16 p).toNat ++ be1 stepIndex ++ be1 kind.code

/-- Writes the header of the cell of offset `k`. -/
def Stc.writeHeader (t : Stc) (id : Nat) (e : Entry) (k : Nat) (p : Int) (stepIndex : Nat) : Stc :=
  t.writeBytes (t.cellOf id e k * Config.cellBytes) (headerBytes p stepIndex e.kind)

/-- A cell header as read: predicted value and step index, held in their ranges (R134), and the kind byte. -/
structure Header where
  predicted : Int
  stepIndex : Nat
  kindByte : Nat
  deriving DecidableEq, Repr

/-- Reads the header of a cell. -/
def Stc.readHeader (t : Stc) (cell : Nat) : Header :=
  let rd (j : Nat) : Nat := (memRead t.mem (cell * Config.cellBytes + j)).toNat
  { predicted := max (-8192) (min 8191 (BitVec.ofNat 16 (rd 0 * 256 + rd 1)).toInt)
    stepIndex := min 47 (rd 2)
    kindByte := rd 3 }

/-- Appends one byte at the used length; `h` is the header written before the first byte of a voice cell. -/
def Stc.appendByte (t : Stc) (id : Nat) (h : Int × Nat) (b : Byte) : Stc :=
  match t.entry id with
  | none => t
  | some e =>
    let t1 := if e.kind.voice && e.used % Config.voicePayload == 0
      then t.writeHeader id e (e.used / Config.voicePayload) h.1 h.2 else t
    (t1.writeByte (t.addr id e e.used) b).updEntry id fun e => { e with used := e.used + 1 }

/-! ## Window slots (R122) -/

/-- Some slot of some line window satisfies a test. -/
def State.anySlot (s : State) (p : Attach → Bool) : Bool :=
  s.lines.toList.any fun l => l.window.toList.any fun a => match a with
    | some x => p x
    | none => false

/-- Empties every slot that satisfies a test. -/
def State.emptySlots (s : State) (p : Attach → Bool) : State :=
  { s with lines := s.lines.map fun l =>
      { l with window := l.window.map fun a => match a with
                | some x => if p x then none else some x
                | none => none } }

/-- Writes a slot of a line's window. -/
def State.setSlot (s : State) (i slot : LineNo) (a : Option Attach) : State :=
  s.upd i fun l => { l with window := l.window.set slot a }

/-- Some slot holds the entry with right RECORD. -/
def State.recordHeld (s : State) (id : Nat) : Bool := s.anySlot fun a => a.id == id && a.right == .record

/-- An answer plan is active: from its answer until it becomes INACTIVE (R122). -/
def Line.planActive (l : Line) : Bool := l.apc.plan != .inactive && l.apc.plan != .waitRings

/-- A fax job is running: started and without an outcome (R98). -/
def Line.jobRunning (l : Line) : Bool :=
  match l.fxc.job with
  | some j => j.started && j.outcome == none
  | none => false

/-- A slot is in use by a running operation (R122). -/
def Line.slotInUse (l : Line) (slot : LineNo) : Bool :=
  (match l.vc.op with
    | some o => o.slot == slot
    | none => false)
  || ((slot == 0 || slot == 1) && l.planActive)
  || (slot == 2 && l.jobRunning)

/-! ## Allocation, close, delete (R119, R120, R121) -/

/-- The lowest free id. -/
def Stc.freeId (t : Stc) : Option Nat := t.dir.findIdx? (·.isNone)

/-- Allocates a segment of at least one cell: the new store and id, or the status of the failure (R119). `blank` holds the optional
fields. -/
def Stc.alloc (t : Stc) (kind : EntryKind) (extent : Nat) (blank : Entry → Entry) : Except Status (Stc × Nat) :=
  if t.freeSpan < max 1 extent then .error .storeFull
  else
    match t.freeId with
    | none => .error .directoryFull
    | some id =>
      let e : Entry :=
        { kind := kind, open_ := true, moving := false, damaged := false
          base := if kind.voice then t.fv else t.ff - 1
          extent := max 1 extent, used := 0, mailbox := none, originLine := none, ordinal := none, number := none
          fax := none }
      .ok (t.setEntry id (some (blank e)), id)

/-- The extent an entry keeps at its close (R120). -/
def Entry.closedExtent (e : Entry) : Nat :=
  if e.used = 0 then 1 else (e.used + e.perCell - 1) / e.perCell

/-- Closes an entry at its used length and empties its RECORD slot (R120). -/
def State.closeEntry (s : State) (id : Nat) : State :=
  ({ s with stc := s.stc.updEntry id fun e => { e with open_ := false, extent := e.closedExtent } }).emptySlots
    fun a : Attach => a.id == id && a.right == Right.record

/-- Why a delete of a used entry is refused, if it is (R121). -/
def State.deleteRefusal (s : State) (id : Nat) (e : Entry) : Option Status :=
  if e.open_ then some .wrongState
  else if e.moving then some .busy
  else if s.anySlot fun a => a.id == id then some .inUse
  else none

/-- Frees an entry and its cells (R121). -/
def State.freeEntry (s : State) (id : Nat) : State := { s with stc := s.stc.setEntry id none }

/-- A block's delete: done unless refused; tells whether it was done (R121). -/
def State.tryDelete (s : State) (id : Nat) : State × Bool :=
  match s.stc.entry id with
  | none => (s, true)
  | some e =>
    match s.deleteRefusal id e with
    | some _ => (s, false)
    | none => (s.freeEntry id, true)

end Sys2Proof.Machine
end

