-- ==== Sys2Proof/Machine/BudgetOps.lean ====
section
/-! DEFINITION. Operations of the Budget Manager: costs, holdings, precedence, the order of the pending list, fit
(chapter 4). -/

namespace Sys2Proof.Machine

open Sys2Proof

/-- Cost of an activity in work units (R55). -/
def Activity.cost : Activity → Nat
  | .clid => 4 | .callProgress => 6 | .voiceBase => 4 | .voicePlay => 6 | .voiceRecord => 8 | .listener => 3
  | .blockLink => 4 | .faxFraming => 4 | .pump c => c.cost

/-- The sum of the costs of activities. -/
def costOf (l : List Activity) : Nat := (l.map Activity.cost).sum

/-- The holding of a line (R54, R55). -/
def State.holding (s : State) (i : LineNo) : Nat := costOf (s.line i).acts

/-- The work units the four lines hold. -/
def State.held (s : State) : Nat := ((lineNos.map fun i => s.holding i)).sum

/-- The free units (R54). -/
def State.free (s : State) : Nat := Config.capacity - s.held

/-- A line holds an activity. -/
def Line.holds (l : Line) (a : Activity) : Bool := l.acts.contains a

/-- The class a line's pump is counted at (R67). -/
def Line.counted (l : Line) : Option Cls :=
  l.acts.findSome? fun a => match a with
    | .pump c => some c
    | _ => none

/-- Adds activities to a line's holding. -/
def State.addActs (s : State) (i : LineNo) (a : List Activity) : State :=
  s.upd i fun l => { l with acts := l.acts ++ a }

/-- Takes activities off a line's holding; units released wait for the hand-out at the end of the step (R60, log 16). -/
def State.endActs (s : State) (i : LineNo) (a : List Activity) : State :=
  let s1 := s.upd i fun l => { l with acts := l.acts.filter fun x => !a.contains x }
  if (s.line i).acts.any fun x => a.contains x then { s1 with bm := { s1.bm with due := true, offer := true } } else s1

/-- Counts a line's pump at another class; a lower class releases units (R60). -/
def State.setCounted (s : State) (i : LineNo) (c : Cls) : State :=
  let s1 := s.upd i fun l => { l with acts := l.acts.map fun a => match a with
    | .pump _ => .pump c
    | x => x }
  match (s.line i).counted with
  | some c0 => if c.cost < c0.cost then { s1 with bm := { s1.bm with due := true, offer := true } } else s1
  | none => s1

/-- A line's precedence: its setting, or 3 while a raise stands (R59). -/
def State.precedence (s : State) (i : LineNo) : Nat :=
  if (s.line i).precRaised then 3 else min 3 (s.lineSettings i).precedence

/-- The pending list in hand-out order: highest precedence first, within one precedence in joining order (R58). -/
def State.handOutOrder (s : State) : List Pending :=
  [3, 2, 1, 0].flatMap fun p => s.bm.plist.filter fun x => s.precedence x.line == p

/-- The line has a pending admission. -/
def State.hasPending (s : State) (i : LineNo) : Bool := s.bm.plist.any fun p => p.line == i

/-- Takes the pending admission of a line off the list; a reclaim made for the line stays with no made-for line
(R61, R63). A hand-out walk follows whichever place the admission held (log 72). -/
def State.dropPending (s : State) (i : LineNo) : State :=
  if s.hasPending i then
    { s with bm := { s.bm with
        plist := s.bm.plist.filter fun p => p.line != i
        reclaim := s.bm.reclaim.map fun r => if r.madeFor = some i then { r with madeFor := none } else r
        due := true } }
  else s

/-- The classes from a maximum down to a floor, highest first. -/
def classesDown (c : Conn) : List Cls :=
  (List.range (c.maxc.idx + 1 - c.floor.idx)).map fun k => Cls.ofIdx c.maxc.family (c.maxc.idx - k)

/-- What an admission is granted at: the activities it adds, the pump at the highest class that fits (R56), or
nothing. -/
def Ask.fit (a : Ask) (free : Nat) : Option (List Activity) :=
  match a.pump with
  | none => if costOf a.acts ≤ free then some a.acts else none
  | some c =>
    ((classesDown c).find? fun k => decide (k.cost + costOf a.acts ≤ free)).map fun k => .pump k :: a.acts

/-- The units that would grant an admission at its lowest cost (R58). -/
def Ask.requirement (a : Ask) : Nat :=
  costOf a.acts + (match a.pump with
    | none => 0
    | some c => c.floor.cost)

/-- The head of the pending list in hand-out order. -/
def State.pendingHead (s : State) : Option Pending := s.handOutOrder.head?

/-- An admission joins the pending list with its 2000 ms timer (R58). -/
def State.joinPending (s : State) (i : LineNo) (a : Ask) (r : Requester) : State :=
  { s with bm := { s.bm with plist := s.bm.plist ++
      [{ line := i, ask := a, requirement := a.requirement, requester := r, joined := s.now, due := s.now + 2000 }] } }

end Sys2Proof.Machine
end

