-- ==== Sys2Proof/Machine/LineOps.lean ====
section
/-! DEFINITION. Operations of the Line Interface and of the group states: hook orders (R2 to R4), supervision results
(R11 to R14), group states (R38). -/

namespace Sys2Proof.Machine

open Sys2Proof

/-- The hook relay drive, which follows the hook state at once: closed off-hook, open else (table of R1). -/
def Hook.relayClosed : Hook → Bool
  | .offHook => true
  | .onHook | .flashing | .breaking => false

/-- The period of the supervision interval timer in a service state (R11). -/
def State.checkPeriod (s : State) (v : Service) : Nat :=
  match v with
  | .inService => clamp 5 255 s.sl.live.part.slowInterval * 1000
  | .suspect | .outOfService => 2000

/-- A seize order (R2): an ON_HOOK line goes OFF_HOOK with 200 ms of blanking; the interval timer, the deferred check
(R12) and the abandonment timer (R7) end. -/
def State.seize (s : State) (i : LineNo) : State :=
  if (s.line i).lif.hook = .onHook then
    s.updLif i fun l => { l with
      hook := .offHook, blankDue := some (s.now + 200), loop := .blanked, intervalDue := none, deferred := false
      abandon := .stopped }
  else s

/-- A release order (R2, R10): the line goes ON_HOOK, a flash or break train is abandoned, the loop detector becomes
inactive, the interval timer starts. -/
def State.release (s : State) (i : LineNo) : State :=
  if (s.line i).lif.hook = .onHook then s
  else
    s.updLif i fun l => { l with
      hook := .onHook, flashDue := none, breakDue := none, makeDue := none, breaksLeft := 0, blankDue := none
      absenceDue := none, loop := .inactive, intervalDue := some (s.now + s.checkPeriod l.service) }

/-- A flash order (R3): carried out where the line is OFF_HOOK; tells whether it was. -/
def State.flashOrder (s : State) (i : LineNo) : State × Bool :=
  if (s.line i).lif.hook = .offHook then
    (s.updLif i fun l => { l with
      hook := .flashing, flashDue := some (s.now + 500), loop := .blanked, absenceDue := none }, true)
  else (s, false)

/-- A break order of `n` breaks (R4): carried out where the line is OFF_HOOK with no train in progress; tells whether
it was. -/
def State.breakOrder (s : State) (i : LineNo) (n : Nat) : State × Bool :=
  if (s.line i).lif.hook = .offHook ∧ (s.line i).lif.makeDue = none then
    (s.updLif i fun l => { l with
      hook := .breaking, breaksLeft := n, breakDue := some (s.now + 60), loop := .blanked, absenceDue := none }, true)
  else (s, false)

/-- What a supervision result makes of the service state and the two counts (table of R14). -/
def Lif.withResult (l : Lif) (good : Bool) : Lif :=
  match l.service, good with
  | .inService, true => l
  | .inService, false => { l with service := .suspect, badCount := 1 }
  | .suspect, true => { l with service := .inService, badCount := 0 }
  | .suspect, false =>
    if l.badCount ≤ 1 then { l with badCount := 2 }
    else { l with service := .outOfService, badCount := 3, goodCount := 0 }
  | .outOfService, true =>
    if l.goodCount ≤ 1 then { l with goodCount := l.goodCount + 1 }
    else { l with service := .inService, badCount := 0, goodCount := 0 }
  | .outOfService, false => { l with goodCount := 0 }

/-- The members of a group, a set of lines in the live settings (R38). -/
def State.member (s : State) (g i : LineNo) : Bool := (s.sl.live.groups.get g).get i

/-- The state of a group, from the service states of its members (R38). -/
def State.groupStateOf (s : State) (g : LineNo) : GroupState :=
  let m := lineNos.filter fun i => s.member g i
  let out := m.filter fun i => (s.line i).lif.service == .outOfService
  if m.isEmpty then .empty
  else if out.isEmpty then .active
  else if out.length = m.length then .down
  else .degraded

/-- Recomputes the group states; GRUP is raised where any of them changes (R38). -/
def State.recomputeGroups (s : State) : State :=
  let g : Four GroupState := ⟨s.groupStateOf 0, s.groupStateOf 1, s.groupStateOf 2, s.groupStateOf 3⟩
  if g = s.gd.groupState then s else ({ s with gd := { s.gd with groupState := g } }).raisePart .grup

/-- Applies a supervision result (R13, R14): the service state and the counts move; ON_HOOK the interval timer
restarts (R11); a change of service state raises SVCE and recomputes the group states. The dispatch event of a return
to service is `superviseLine`'s. -/
def State.applyResult (s : State) (i : LineNo) (good : Bool) : State :=
  let old := (s.line i).lif.service
  let s1 := s.updLif i fun l =>
    let l1 := l.withResult good
    if l1.hook = .onHook then { l1 with intervalDue := some (s.now + s.checkPeriod l1.service) } else l1
  if (s1.line i).lif.service = old then s1 else (s1.raise .svce i).recomputeGroups

/-- The voltage threshold in use (R12). -/
def State.threshold (s : State) : Nat := clamp 10 40 s.sl.live.part.voltage

end Sys2Proof.Machine
end

