-- ==== Sys2Proof/Machine/GroupOps.lean ====
section
/-! DEFINITION. Seizing a line for a call (R19, R20) and the Group Dispatcher's operations: choice of a line, dispatch,
dispatch events, GLARE return, queue events (R39 to R47). -/

namespace Sys2Proof.Machine

open Sys2Proof

/-- The Call Controller enters SEIZED for a call (R19, R20): call-progress units, seize order, 5000 ms dial-tone wait,
outcome NONE, caller record, ignore flag and digit queue cleared, one call out counted (R17). -/
def State.enterSeized (s : State) (i : LineNo) (kind : CallKind) (dial : List DialElem) (m : DialMethod)
    (conn : Option Conn) : State :=
  let s1 := (s.addActs i [.callProgress]).seize i
  let s2 := s1.updCc i fun c => { c with
    state := .seized, kind := some kind, origin := some .outgoing, dial := dial, pos := 0, method := m
    elem := .none, conn := conn, ignore := false, dialToneDue := some (s.now + 5000), outcome := .none
    connectAt := none, causes := [], caller := none }
  let s3 := s2.updTu i fun t => { t with digits := [] }
  s3.updCnt i fun c => { c with callsOut := satAdd c.callsOut 1 }

/-- A queue event joins the list, the oldest leaving a full one, and CQUE is raised (R47). -/
def State.recordEvent (s : State) (e : QEvent) : State :=
  let s1 : State :=
    if s.nu.queueEvents.length < 8 then
      { s with nu := { s.nu with queueEvents := s.nu.queueEvents ++ [e] } }
    else
      { s with nu := { s.nu with queueEvents := s.nu.queueEvents.drop 1 ++ [e] }
               cnt := { s.cnt with eventsLost := satAdd s.cnt.eventsLost 1 } }
  s1.raisePart .cque

/-- A line is eligible for a call of a group (R39). -/
def State.eligible (s : State) (g i : LineNo) : Bool :=
  s.member g i && (s.line i).lif.service == .inService && (s.line i).cc.state == .idle
    && decide (Activity.callProgress.cost ≤ s.free)

/-- The cyclic scan from the line after the rotation pointer (R39). -/
def scanAfter (p : LineNo) : List LineNo := [p + 1, p + 2, p + 3, p]

/-- The line chosen for a call of a group, if there is one (R39). -/
def State.chooseLine (s : State) (g : LineNo) : Option LineNo :=
  (scanAfter (s.gd.rotation.get g)).find? fun i => s.eligible g i

/-- Dispatch of a call to a line (R42); `entry` is the number the DISPATCHED event carries, 8 for a call without a
record. The entry record is `assignRec`'s. -/
def State.dispatchTo (s : State) (c : GroupCall) (i : LineNo) (entry : Nat) : State :=
  let s1 : State := { s with gd := { s.gd with rotation := s.gd.rotation.set c.group i } }
  let m := (s.lineSettings i).dialMethod
  let s2 := s1.enterSeized i c.kind (dialFor m c.dial) m c.conn
  s2.recordEvent { kind := .dispatched, entry := entry, tag := c.tag, line := some i }

/-- Sets an entry record. -/
def State.setRec (s : State) (k : Nat) (r : EntryRec) : State :=
  { s with gd := { s.gd with recs := s.gd.recs.set k r } }

/-- A queued entry is dispatched to a line: it leaves the queue and its record becomes ASSIGNED, its expiry time
kept (R42). -/
def State.dispatchEntry (s : State) (k : Nat) (r : EntryRec) (i : LineNo) : State :=
  let s1 : State := { s with gd := { s.gd with queue := s.gd.queue.filter fun x => x != k } }
  (s1.setRec k { r with st := .assigned i }).dispatchTo r.call i k

/-- An entry record that is QUEUED. -/
def State.queuedRec (s : State) (k : Nat) : Option EntryRec :=
  match s.gd.recs[k]? with
  | some r => if r.st = .queued then some r else none
  | none => none

/-- A dispatch event at one line (R43): the oldest queued entry whose group contains the line takes it, where the line
is eligible. -/
def State.lineEvent (s : State) (i : LineNo) : State :=
  let cand := s.gd.queue.find? fun k =>
    match s.queuedRec k with
    | some r => s.eligible r.call.group i
    | none => false
  match cand with
  | none => s
  | some k =>
    match s.queuedRec k with
    | some r => s.dispatchEntry k r i
    | none => s

/-- One entry of the queue walk: its group is scanned, and it is dispatched if a line is found (R43). -/
def State.offerEntry (s : State) (k : Nat) : State :=
  match s.queuedRec k with
  | none => s
  | some r =>
    match s.chooseLine r.call.group with
    | none => s
    | some i => s.dispatchEntry k r i

/-- The dispatch event for the whole queue at a release of units (R43). -/
def State.walkQueue (s : State) : State := s.gd.queue.foldl State.offerEntry s

/-- The record ASSIGNED to a line becomes FREE as the line leaves SEIZED (R42). -/
def State.freeAssigned (s : State) (i : LineNo) : State :=
  { s with gd := { s.gd with recs := s.gd.recs.map fun r => if r.st = .assigned i then {} else r } }

/-- The number of the record ASSIGNED to a line. -/
def State.assignedTo (s : State) (i : LineNo) : Option Nat := s.gd.recs.findIdx? fun r => r.st == .assigned i

/-- A line leaves SEIZED by GLARE (R46): its record goes back to the head of the queue and its group is scanned, or
is freed as EXPIRED. -/
def State.glareReturn (s : State) (i : LineNo) : State :=
  match s.assignedTo i with
  | none => s
  | some k =>
    match s.gd.recs[k]? with
    | none => s
    | some r =>
      if s.now < r.expiry then
        let s1 := s.setRec k { r with st := .queued }
        let s2 : State := { s1 with gd := { s1.gd with queue := k :: s1.gd.queue } }
        (s2.recordEvent { kind := .glareRequeued, entry := k, tag := r.call.tag, line := none }).offerEntry k
      else
        (s.setRec k {}).recordEvent { kind := .expired, entry := k, tag := r.call.tag, line := none }

/-- The Call Controller enters IDLE (R36, R25): kind, origin, dial list and connection request become absent, the
ignore flag is cleared, a raise of the precedence ends (R51). The dispatch event is the caller's `lineEvent`. -/
def State.toIdle (s : State) (i : LineNo) : State :=
  (s.updCc i fun c => { c with
    state := .idle, kind := none, origin := none, dial := [], pos := 0, elem := .none, conn := none
    ignore := false }).upd i fun l => { l with precRaised := false }

/-- A supervision result with the dispatch event of a return to service (R13, R14, R43). -/
def State.superviseLine (s : State) (i : LineNo) (good : Bool) : State :=
  let s1 := s.applyResult i good
  if (s.line i).lif.service ≠ .inService ∧ (s1.line i).lif.service = .inService then s1.lineEvent i else s1

end Sys2Proof.Machine
end

