-- ==== Sys2Proof/Machine/PumpOps.lean ====
section
/-! DEFINITION. Step-downs and rate changes of the data pump (R74 to R76), the link's part in them (R94), reclaim
(R62, R63), and the taking of an admission (R56 to R58). -/

namespace Sys2Proof.Machine

open Sys2Proof

/-- The pump leaves RUNNING: a link in UP is SUSPENDED, its retry and try timers stop (R94, R83). -/
def State.linkPumpLeft (s : State) (i : LineNo) : State :=
  s.updBlc i fun b => { b with
    link := if b.link = .up then .suspended else b.link, retryDue := none, tryDue := none }

/-- The exchange of a rate change begins: the target is signalled to the remote (R74). -/
def State.beginExchange (s : State) (i : LineNo) : State :=
  s.updDp i fun d =>
    match d.rc with
    | some r => { d with rc := some { r with begun := some s.now }, signal := some (.target r.target) }
    | none => d

/-- No message holds up the exchange: none is in transmission, or the link is PLAIN (R74, R87). -/
def Blc.exchangeFree (b : Blc) : Bool := b.transmitting.isNone || b.mode == some .plain

/-- The pump enters RATE_CHANGE toward a target (R74); its loss, below-hold and forward runs go to 0 (R72). -/
def State.enterRateChange (s : State) (i : LineNo) (up : Bool) (target : Cls) : State :=
  let s1 := s.updDp i fun d => { d with
    pump := .rateChange, rc := some { up := up, target := target, begun := none, confirmed := false }
    lossRun := 0, belowRun := 0, fwdRun := 0 }
  let s2 := s1.linkPumpLeft i
  if (s2.line i).blc.exchangeFree then s2.beginExchange i else s2

/-- A step-down is recorded as owed; orders merge into the lower cap (R76). -/
def State.owe (s : State) (i : LineNo) (c : Cls) : State :=
  s.updDp i fun d => { d with owed := some (Cls.cap c.below d.owed) }

/-- A step-down order, by pump state (R75). In TRAINING the cap is one below the counted class as it then stands, which a
failed fax check has lowered to its own class (log 73). -/
def State.stepDown (s : State) (i : LineNo) : State :=
  let d := (s.line i).dp
  match d.pump with
  | .off => s
  | .training =>
    match (s.line i).counted with
    | some c => s.owe i c
    | none => s
  | .running =>
    match d.family, d.cur with
    | some .data, some c => if c.idx ≤ 1 then s else s.enterRateChange i false c.below
    | some .fax, some c => s.owe i c
    | _, _ => s
  | .rateChange | .retraining =>
    match d.cur with
    | some c => s.owe i c
    | none => s

/-- A line qualifies as a victim for the head of the pending list (R62). -/
def State.victimFor (s : State) (h : Pending) (v : LineNo) : Bool :=
  let d := (s.line v).dp
  decide (s.precedence v < s.precedence h.line)
    && (d.pump == .running || d.pump == .rateChange || d.pump == .retraining)
    && (match d.cur, d.reclaimFloor with
        | some c, some f => decide (f.idx < c.idx)
        | _, _ => false)

/-- `v` comes before `b` as a victim: lower precedence, then larger holding, then higher line number (R62). -/
def State.victimBefore (s : State) (v b : LineNo) : Bool :=
  decide (s.precedence v < s.precedence b)
    || (s.precedence v == s.precedence b
        && (decide (s.holding b < s.holding v) || (s.holding v == s.holding b && decide (b < v))))

/-- The victim chosen for the head (R62). -/
def State.chooseVictim (s : State) (h : Pending) : Option LineNo :=
  (lineNos.filter fun v => s.victimFor h v).foldl (fun best v =>
    match best with
    | none => some v
    | some b => if s.victimBefore v b then some v else some b) none

/-- The Budget Manager considers a reclaim (R62). -/
def State.considerReclaim (s : State) : State :=
  match s.bm.reclaim, s.pendingHead with
  | none, some h =>
    match h.ask.fit s.free, s.chooseVictim h with
    | none, some v =>
      match (s.line v).dp.cur with
      | some c =>
        let s1 := s.stepDown v
        { s1 with bm := { s1.bm with
            reclaim := some { victim := v, clsAt := c, madeFor := some h.line, time := s.now } } }
      | none => s
    | _, _ => s
  | _, _ => s

/-- A reclaim ends where its victim's class has fallen below the class at the order (R63). -/
def State.reclaimCheck (s : State) (i : LineNo) : State :=
  match s.bm.reclaim, (s.line i).dp.cur with
  | some r, some c =>
    if r.victim = i ∧ c.idx < r.clsAt.idx then { s with bm := { s.bm with reclaim := none, due := true } } else s
  | _, _ => s

/-- An admission that may pend (R56, R58): the ending activities are released, the admission is granted at the highest
fit or joins the pending list, and a reclaim is considered. Gives the activities granted. A line with a pending
admission is answered that it is busy. The release is handed out as every other is, whatever the grant uses
of it (R60). -/
def State.request (s : State) (i : LineNo) (ends : List Activity) (a : Ask) (r : Requester) :
    State × Option (List Activity) :=
  if s.hasPending i then (s, none)
  else
    let s1 := s.endActs i ends
    match a.fit s1.free with
    | some acts => (s1.addActs i acts, some acts)
    | none => ((s1.joinPending i a r).considerReclaim, none)

/-- The class of the pump among granted activities. -/
def grantedCls (l : List Activity) : Option Cls :=
  l.findSome? fun a => match a with
    | .pump c => some c
    | _ => none

end Sys2Proof.Machine
end

