-- ==== Sys2Proof/Machine/ClearOps.lean ====
section
/-! DEFINITION. The end of a call (R33, R34) and what each block does at it: voice operation (R144), answer plan (R159),
fax job (R114), pump (R81), link (R96), budget (R60, R61, R63), tone unit (R27, R32). -/

namespace Sys2Proof.Machine

open Sys2Proof

/-! ## Caller-identification window -/

/-- The window closes (R27): its units are released; a message begun and not complete is counted as failing
check, an earlier record of the call staying (log 92). -/
def State.closeClid (s : State) (i : LineNo) : State :=
  match (s.line i).tu.clid with
  | none => s
  | some w =>
    let s1 := (s.updTu i fun t => { t with clid := none }).endActs i [.clid]
    if w.begun then { s1 with cnt := { s1.cnt with clidBad := satAdd s1.cnt.clidBad 1 } } else s1

/-! ## Voice operation -/

/-- The activity of a voice operation (R55, R138). -/
def VoiceKind.activity : VoiceKind → Activity
  | .play => .voicePlay
  | .recd => .voiceRecord

/-- A voice operation ends (R138): the last result is recorded, the record becomes absent, a pending code is dropped
(R136), and VOIC is raised for the host's (R146). Its units are `finishOp`'s to release. -/
def State.closeOp (s : State) (i : LineNo) (r : VoiceOutcome) : State :=
  match (s.line i).vc.op with
  | none => s
  | some o =>
    let s1 := s.updVc i fun v => { v with
      op := none, code := none, lastResult := some { outcome := r, id := o.id, host := o.host } }
    if o.host then s1.raise .voic i else s1

/-- A voice operation ends and its units are released (R138). -/
def State.finishOp (s : State) (i : LineNo) (r : VoiceOutcome) : State :=
  match (s.line i).vc.op with
  | none => s
  | some o => (s.closeOp i r).endActs i [o.kind.activity]

/-- Sets the used length of an entry back (R143, R144). -/
def State.trim (s : State) (id n : Nat) : State :=
  { s with stc := s.stc.updEntry id fun e => { e with used := min e.used n } }

/-- The used length of an entry, 0 where the entry has gone. -/
def State.usedOf (s : State) (id : Nat) : Nat :=
  match s.stc.entry id with
  | some e => e.used
  | none => 0

/-- The trim of a recording that a digit ends (R144): 160 bytes, not below the start length. -/
def State.digitTrim (s : State) (o : VoiceOp) : State := s.trim o.id (max o.startLen (s.usedOf o.id - 160))

/-- An operation is stopped from outside with outcome `r`. A recording whose end a digit has already decided in this
frame ends DIGIT with its trim, since the first event taken ends it (R144; VSTP: log 67). -/
def State.stopOp (s : State) (i : LineNo) (r : VoiceOutcome) : State :=
  match (s.line i).vc.op with
  | none => s
  | some o => if o.digitStop then (s.digitTrim o).finishOp i .digit else s.finishOp i r

/-! ## Answer plan -/

/-- The plan records its result and raises PLAN (R159). -/
def State.planOutcome (s : State) (i : LineNo) (r : PlanResult) : State :=
  (s.updApc i fun a => { a with planResult := some r }).raise .plan i

/-- The caller number of the call's caller record. -/
def State.callerNumber (s : State) (i : LineNo) : Option (List Byte) := (s.line i).cc.caller.bind (·.number)

/-- The ordinal of the call: an incoming call's, taken at its entry into RINGING (R149); an outgoing call has none. -/
def State.callOrdinal (s : State) (i : LineNo) : Option Nat :=
  if (s.line i).cc.origin = some .incoming then (s.line i).apc.ordinal else none

/-- Settles the recorded message (R156, steps 1 to 3): stamp and close; kept with MSGN at 4000 bytes or more, else
deleted, or kept where the delete is refused. -/
def State.settleMessage (s : State) (i : LineNo) : State × PlanResult :=
  match (s.line i).apc.message with
  | none => (s, { outcome := .notRecorded, id := none })
  | some id =>
    let num := s.callerNumber i
    let s1 := ({ s with stc := s.stc.updEntry id fun e => { e with number := num } }).closeEntry id
    let used := match s1.stc.entry id with
      | some e => e.used
      | none => 0
    if 4000 ≤ used then
      ((s1.updApc i fun a => { a with lastKept := some (id, a.mailbox.getD 0) }).raise .msgn i,
        { outcome := .message, id := some id })
    else
      let d := s1.tryDelete id
      (d.1, { outcome := .tooShort, id := if d.2 then none else some id })

/-- The empty entry of a recording that never began is closed and deleted (R155, R158, R159). -/
def State.dropMessage (s : State) (id : Nat) : State := ((s.closeEntry id).tryDelete id).1

/-- The plan becomes INACTIVE: its timers stop, slot 0 is emptied (R158, R159). The calling-tone count and its reset timer
end with the plan (log 85). Message entry becomes absent; greeting in use, mailbox and profile in use keep their values
(log 89). -/
def State.planInactive (s : State) (i : LineNo) : State :=
  (s.updApc i fun a => { a with
    plan := .inactive, toneCount := 0, toneReset := none, mailboxDue := none, recordToneDue := none
    message := none, handedOver := false }).setSlot i 0 none

/-- A plan's recording in its record at clearing: ended with HANGUP and no trim and settled, or dropped while it still
waits (R159). -/
def State.planRecordingEnds (s : State) (i : LineNo) : State :=
  match (s.line i).vc.op with
  | some o =>
    if o.phase = .waiting then
      ((s.finishOp i .hangup).dropMessage o.id).planOutcome i { outcome := .notRecorded, id := none }
    else
      let r := (s.finishOp i .hangup).settleMessage i
      r.1.planOutcome i r.2
  | none =>
    let r := s.settleMessage i
    r.1.planOutcome i r.2

/-- A voice operation of the line ends at clearing, with HANGUP unless a digit came first (R144); a recording left by
TAKE loses its entry (R158). -/
def State.voiceClears (s : State) (i : LineNo) : State :=
  match (s.line i).vc.op with
  | none => s
  | some o =>
    let s1 := s.stopOp i .hangup
    if o.host = false ∧ o.kind = .recd then s1.dropMessage o.id else s1

/-- The end of the plan and of the voice operation at the start of clearing (R144, R159). -/
def State.planClears (s : State) (i : LineNo) : State :=
  match (s.line i).apc.plan with
  | .inactive | .waitRings => s.voiceClears i
  | .answering | .greeting | .mailboxWait =>
    ((s.voiceClears i).planOutcome i { outcome := .notRecorded, id := none }).planInactive i
  | .recording => (s.planRecordingEnds i).planInactive i
  | .faxHandoff =>
    if (s.line i).apc.handedOver then (s.voiceClears i).planInactive i
    else ((s.voiceClears i).planOutcome i { outcome := .notConnected, id := none }).planInactive i
  | .dataHandoff => ((s.voiceClears i).planOutcome i { outcome := .notConnected, id := none }).planInactive i
  | .ending => (s.voiceClears i).planInactive i

/-! ## Fax job -/

/-- Adds a page to the received pages list, the oldest of 16 leaving (R98). -/
def FaxJob.addReceived (j : FaxJob) (p : RxPage) : FaxJob :=
  { j with received := (if j.received.length < 16 then j.received else j.received.drop 1) ++ [p] }

/-- The frames of the page in progress not received good (R111): those given up, and those the partial page in
progress still lacks. -/
def FaxJob.pageMissing (j : FaxJob) : Nat :=
  j.givenUp + (if j.partOpen ∧ ¬ j.partEnded then j.missing.length else 0)

/-- Closes the page entry being received at its used length with a missing-frame count, and lists the page
(R111). -/
def State.closePage (s : State) (i : LineNo) (j : FaxJob) (id missing : Nat) : State :=
  let s1 : State := { s with stc := s.stc.updEntry id fun e =>
    { e with fax := e.fax.map fun f => { f with missing := missing } } }
  (s1.closeEntry id).updFxc i fun f => { f with
    job := some { (j.addReceived { id := id, missing := missing }) with page := none } }

/-- An OPEN page of a receive job is closed as incomplete (R111). -/
def State.closeIncomplete (s : State) (i : LineNo) : State :=
  match (s.line i).fxc.job with
  | some j =>
    match j.dir, j.page with
    | some .receive, some id => s.closePage i j id j.pageMissing
    | _, _ => s
  | none => s

/-- A job's outcome is set (R98, R113, R114): an OPEN page is closed, slot 2 emptied, waits end, FAXJ raised. -/
def State.endJob (s : State) (i : LineNo) (r : FaxOutcome) : State :=
  let s1 := s.closeIncomplete i
  let s2 := s1.updFxc i fun f => { f with
    job := f.job.map fun j => { j with outcome := some r, phase := .ended }, wait := .none, jobWaitDue := none }
  (s2.setSlot i 2 none).raise .faxj i

/-- The fax job at the start of clearing: CLEARED where it still runs or is prepared (R114). -/
def State.faxClears (s : State) (i : LineNo) : State :=
  match (s.line i).fxc.job with
  | some j =>
    if j.outcome = none then s.endJob i .cleared
    else s.updFxc i fun f => { f with wait := .none, jobWaitDue := none }
  | none => s.updFxc i fun f => { f with wait := .none, jobWaitDue := none }

/-! ## Link, pump, budget -/

/-- Bytes of the send side: TX and the payloads of the unacknowledged list (R96). -/
def Blc.sendBytes (b : Blc) : Nat := b.tx.length + (b.unacked.map fun k => k.payload.length).sum

/-- The link at the start of clearing (R96): send side discarded and counted, RX kept unless the host holds it. What R96
does not name goes to its reset value (log 75). -/
def State.linkClears (s : State) (i : LineNo) : State :=
  let b := (s.line i).blc
  let lost := b.sendBytes + (if b.hold then b.rx.length else 0)
  (s.updBlc i fun b => { ({} : Blc) with rx := if b.hold then [] else b.rx, hold := b.hold }).updCnt i
    fun c => { c with discarded := satAdd c.discarded lost }

/-- The Budget Manager at the start of clearing (R60, R61, R63): the holding is released, the line's pending admission
dropped, a reclaim on the line ends. -/
def State.budgetClears (s : State) (i : LineNo) : State :=
  let s1 := s.upd i fun l => { l with acts := [] }
  let s2 := s1.dropPending i
  let rec2 := match s2.bm.reclaim with
    | some r => if r.victim = i then none else some r
    | none => none
  { s2 with bm := { s2.bm with reclaim := rec2, due := true, offer := true } }

/-! ## Clearing -/

/-- All clear causes, highest rank first (R33). -/
def allCauses : List Cause :=
  [.loopLost, .carrierLost, .trainFailed, .linkFailed, .faxFailed, .noCapacity, .planDone, .hostRelease]

/-- A cause joins the set, which stands in rank order (R33). -/
def addCause (l : List Cause) (c : Cause) : List Cause := allCauses.filter fun x => l.contains x || x == c

/-- Call states in which a cause joins the set (R33). -/
def CallState.inCall : CallState → Bool
  | .answering | .seized | .dialling | .progress | .connected => true
  | .idle | .ringing | .clearing => false

/-- The end reason: the highest-ranked cause, or PROGRESS_FAILED (R34). -/
def endReasonOf (l : List Cause) : EndReason :=
  match l.head? with
  | some c => .cause c
  | none => .progressFailed

/-- Whole seconds since the connect time, 0 without one (R34). -/
def State.connectedSeconds (s : State) (i : LineNo) : Nat :=
  match (s.line i).cc.connectAt with
  | some t => (s.now - t) / 1000
  | none => 0

/-- The Call Controller's part of clearing: end reason and seconds fixed, the set emptied, timers stopped, the guard
started (R34). -/
def State.ccClears (s : State) (i : LineNo) (r : EndReason) : State :=
  let secs := s.connectedSeconds i
  s.updCc i fun c => { c with
    state := .clearing, endReason := some r, connSecs := secs, causes := [], guardDue := some (s.now + 1000)
    elem := .none, dialToneDue := none, answerDue := none, settleDue := none, ringbackDue := none
    ringbackHeld := false, drainDue := none }

/-- The call-progress tone detector stops, or starts afresh (R23, R24, R34). -/
def Tu.cpStops (t : Tu) : Tu := { t with cp := .quiet, toneInFrame := false }

/-- The Tone Unit and the Line Interface at the start of clearing (R34): detectors and sending stop, the window closes,
the line is released, the abandonment timer cancelled. -/
def State.toneClears (s : State) (i : LineNo) : State :=
  let s1 := (s.closeClid i).updTu i fun t => { t.cpStops with toneList := [], toneDue := none }
  (s1.release i).updLif i fun l => { l with abandon := .stopped }

/-- The start of clearing with a given end reason, in the order of R34 (log 17). A record ASSIGNED to the line becomes
FREE, but for a GLARE, whose record `glareReturn` takes (R42, R46). -/
def State.clearWith (s : State) (i : LineNo) (r : EndReason) : State :=
  let s1 := s.ccClears i r
  let s2 := if (s.line i).cc.outcome = .glare ∧ (s.line i).cc.state = .seized then s1 else s1.freeAssigned i
  let s3 := ((s2.toneClears i).planClears i).faxClears i
  let s4 := (s3.updDp i fun _ => {}).linkClears i
  s4.budgetClears i

/-- Clearing starts (R34): CLRD is raised. Nothing happens outside a call. -/
def State.startClearing (s : State) (i : LineNo) : State :=
  if (s.line i).cc.state.inCall then
    (s.clearWith i (endReasonOf (s.line i).cc.causes)).raise .clrd i
  else s

/-- A clear cause joins the set, or is discarded outside a call (R33). -/
def State.joinCause (s : State) (i : LineNo) (c : Cause) : State :=
  if (s.line i).cc.state.inCall then s.updCc i fun k => { k with causes := addCause k.causes c } else s

/-- A clear cause is raised and clearing starts (R33, R34). -/
def State.raiseCause (s : State) (i : LineNo) (c : Cause) : State := (s.joinCause i c).startClearing i

/-- A progress outcome other than CONNECTED (R20, R22, R24): recorded and counted, CALL raised, clearing starts. -/
def State.progressFails (s : State) (i : LineNo) (o : Outcome) : State :=
  let s1 := s.updCc i fun c => { c with outcome := o }
  let s2 := s1.updCnt i fun c => { c with progressFailures := satAdd c.progressFailures 1 }
  (s2.raise .call i).startClearing i

end Sys2Proof.Machine
end

