-- ==== Sys2Proof/Machine/LinkOps.lean ====
section
/-! DEFINITION. The block link's transmitter and adaptation (R83, R84, R87 to R95), and the data pump's training,
running and retraining (R69 to R78). -/

namespace Sys2Proof.Machine

open Sys2Proof

/-! ## Adaptation (R93) -/

/-- The adaptation counters go to 0. -/
def Blc.resetAdaptation (b : Blc) : Blc := { b with spanCount := 0, spanResends := 0, cleanRun := 0 }

/-- Another block size; the adaptation counters go to 0 with it. -/
def Blc.setBlock (b : Blc) (n : Nat) : Blc := { b.resetAdaptation with block := n }

/-- The block size halved where it is above 32, as a span judgement of 8 or more resends asks. -/
def Blc.halve (b : Blc) : Blc :=
  if 32 < b.block then b.setBlock (b.block / 2) else { b with spanCount := 0, spanResends := 0 }

/-- A send event (R93): the span is counted, and judged at 64. -/
def State.sendEvent (s : State) (i : LineNo) (isResend : Bool) : State :=
  let s1 := s.updBlc i fun b => { b with
    spanCount := b.spanCount + 1
    spanResends := b.spanResends + (if isResend then 1 else 0)
    cleanRun := if isResend then 0 else b.cleanRun }
  let b := (s1.line i).blc
  if b.spanCount < 64 then s1
  else
    let s2 := s1.updBlc i fun b =>
      if 8 ≤ b.spanResends then b.halve else { b with spanCount := 0, spanResends := 0 }
    if 16 ≤ b.spanResends then s2.stepDown i else s2

/-- A block acknowledged at its first sending raises the clean run; at 256 the block size is doubled within the agreed
maximum (R93). -/
def Blc.cleanBlock (b : Blc) : Blc :=
  if b.cleanRun + 1 < 256 then { b with cleanRun := b.cleanRun + 1 }
  else if b.block * 2 ≤ b.maxBlock then b.setBlock (b.block * 2)
  else { b with cleanRun := 0 }

/-! ## TX level (R84) -/

/-- The level after TX has risen: HIGH at 1792 or more, TXLV raised at the change. -/
def State.txRose (s : State) (i : LineNo) : State :=
  let b := (s.line i).blc
  if 1792 ≤ b.tx.length ∧ b.txHigh = false then (s.updBlc i fun b => { b with txHigh := true }).raise .txlv i else s

/-- The level after TX has fallen: LOW at 512 or less, TXLV raised at the change. -/
def State.txFell (s : State) (i : LineNo) : State :=
  let b := (s.line i).blc
  if b.tx.length ≤ 512 ∧ b.txHigh = true then (s.updBlc i fun b => { b with txHigh := false }).raise .txlv i else s

/-! ## The transmitter (R87, R88, R95) -/

/-- The line's own window in the setup message (R83). -/
def State.ownWindow (s : State) (i : LineNo) : Nat := clamp 1 15 (s.lineSettings i).linkWindow

/-- The local setup message goes into transmission. -/
def State.sendSetup (s : State) (i : LineNo) : State :=
  let w := s.ownWindow i
  s.updBlc i fun b => { b with transmitting := some (.setup w 256), setupOwed := false }

/-- The block with a sequence number. -/
def Blc.find (b : Blc) (n : Nat) : Option Block := b.unacked.find? fun k => k.seq == n

/-- The sequence number of the block after block `n` in the list. -/
def Blc.after (b : Blc) (n : Nat) : Option Nat :=
  (((b.unacked.dropWhile fun k => k.seq != n).drop 1).head?).map (·.seq)

/-- A block of the list goes into transmission again (R87). -/
def State.resendBlock (s : State) (i : LineNo) (k : Block) : State :=
  let s1 := s.updBlc i fun b => { b with
    transmitting := some (.data k.seq k.payload)
    unacked := b.unacked.map fun x => if x.seq = k.seq then { x with sends := x.sends + 1 } else x
    resend := b.after k.seq }
  (s1.updCnt i fun c => { c with resends := satAdd c.resends 1 }).sendEvent i true

/-- A new block is formed and goes into transmission (R88). -/
def State.newBlock (s : State) (i : LineNo) : State :=
  let b := (s.line i).blc
  if b.tx.isEmpty ∨ b.window ≤ b.unacked.length then s
  else
    let s1 := s.updBlc i fun b =>
      let p := b.tx.take b.block
      { b with
        tx := b.tx.drop b.block
        unacked := b.unacked ++ [{ seq := b.vs, payload := p, sends := 1, retries := 0 }]
        vs := (b.vs + 1) % 128
        retryDue := if b.unacked.isEmpty then some (s.now + 1500) else b.retryDue
        transmitting := some (.data b.vs p) }
    let s2 := s1.updCnt i fun c => { c with blocksSent := satAdd c.blocksSent 1 }
    (s2.txFell i).sendEvent i false

/-- The transmitter's choice in EC mode (R87). -/
def State.startEc (s : State) (i : LineNo) : State :=
  let b := (s.line i).blc
  match b.slot with
  | some m => s.updBlc i fun b => { b with transmitting := some (.sup m), slot := none }
  | none =>
    if b.setupOwed then s.sendSetup i
    else if b.peerNotReady then s
    else
      match b.resend.bind b.find with
      | some k => s.resendBlock i k
      | none => s.newBlock i

/-- The transmitter starts the first available message where the pump is RUNNING and none is in transmission
(R87, R95). -/
def State.startTx (s : State) (i : LineNo) : State :=
  let b := (s.line i).blc
  if (s.line i).dp.pump ≠ .running ∨ b.transmitting.isSome then s
  else
    match b.link, b.mode with
    | .setup, _ => if b.setupOwed then s.sendSetup i else s
    | .up, some .ec => s.startEc i
    | .up, some .plain =>
      match b.tx with
      | x :: r => (s.updBlc i fun b => { b with tx := r, transmitting := some (.plain x) }).txFell i
      | [] => s
    | _, _ => s

/-- A message is placed in the supervisory slot: an unsent REJ(n) stays against an ACK(n) (R91). -/
def Blc.place (b : Blc) (m : Sup) : Blc :=
  match b.slot with
  | some o => if o.kind = .rej ∧ m.kind = .ack ∧ o.n = m.n then b else { b with slot := some m }
  | none => { b with slot := some m }

/-! ## Link and pump state (R82, R83, R94) -/

/-- A try of link setup begins: the setup message is to be sent, the 1000 ms timer starts (R83). -/
def State.startTry (s : State) (i : LineNo) (n : Nat) : State :=
  (s.updBlc i fun b => { b with
    link := .setup, tryNo := n, tryDue := some (s.now + 1000), setupOwed := true }).startTx i

/-- The pump enters RUNNING: setup starts at the first entry and starts its try again later, a suspended link is UP
again with a fresh retry timer (R83, R94). -/
def State.linkPumpRuns (s : State) (i : LineNo) : State :=
  let b := (s.line i).blc
  match b.link with
  | .waiting => s.startTry i 1
  | .setup => s.startTry i b.tryNo
  | .suspended =>
    (s.updBlc i fun b => { b with
      link := .up
      retryDue := if b.unacked.isEmpty ∨ b.peerNotReady then none else some (s.now + 1500) }).startTx i
  | .off | .up => s

/-- The link enters WAITING at the start of a data call (R82): bytes left in RX are discarded and counted, all but the
hold flag starts anew. -/
def State.linkWaits (s : State) (i : LineNo) : State :=
  let n := (s.line i).blc.rx.length
  (s.updBlc i fun b => { ({} : Blc) with link := .waiting, hold := b.hold }).updCnt i
    fun c => { c with discarded := satAdd c.discarded n }

/-! ## The pump (R67 to R78) -/

/-- The pump leaves OFF for TRAINING (R67). -/
def State.startTraining (s : State) (i : LineNo) (f : Family) (floor : Cls) : State :=
  s.updDp i fun _ => { ({} : Dp) with pump := .training, family := some f, reclaimFloor := some floor }

/-- Sets the current class: the counted class follows, a fall is counted (R80; between two checks of a first fax training:
log 81), the adaptation counters go to 0 at a
change (R93), and a reclaim on the line may end (R63). -/
def State.setClass (s : State) (i : LineNo) (c : Cls) : State :=
  let old := (s.line i).dp.cur
  let fell := match old with
    | some o => decide (c.idx < o.idx)
    | none => false
  let s1 := (s.updDp i fun d => { d with cur := some c }).setCounted i c
  let s2 := s1.updCnt i fun k => { k with fallbacks := if fell then satAdd k.fallbacks 1 else k.fallbacks }
  let s3 := if old = some c then s2 else s2.updBlc i Blc.resetAdaptation
  s3.reclaimCheck i

/-- The pump enters RUNNING; loss, below-hold and forward runs start from 0 (R72). -/
def Dp.run (d : Dp) : Dp :=
  { d with pump := .running, lossRun := 0, belowRun := 0, fwdRun := 0, rc := none, owed := none }

/-- A fresh training: empty sum, no pick, no offer (R70, R71). -/
def Dp.freshTraining (d : Dp) : Dp :=
  { d with trainSum := 0, trainCount := 0, pick := none, offer := none, offerDue := none }

/-- The order of a reclaim stands as owed where its rate change is abandoned (R64). -/
def State.orderStands (s : State) (i : LineNo) : State :=
  match s.bm.reclaim, (s.line i).dp.cur with
  | some r, some c => if r.victim = i ∧ (s.line i).dp.pump = .rateChange then s.owe i c else s
  | _, _ => s

/-- Entry into RETRAINING (R77): the retrain count rises; at 4 CARRIER_LOST is raised, else a full training begins. -/
def State.enterRetraining (s : State) (i : LineNo) : State :=
  let n := (s.line i).dp.retrainCount + 1
  if 4 ≤ n then (s.updDp i fun d => { d with retrainCount := n }).raiseCause i .carrierLost
  else
    let s1 := (s.orderStands i).updDp i fun d => { d.freshTraining with
      pump := .retraining, retrainCount := n, rc := none
      lossRun := 0, belowRun := 0, fwdRun := 0, stableRun := 0 }
    (s1.updCnt i fun c => { c with retrains := satAdd c.retrains 1 }).linkPumpLeft i

/-- A training succeeds at a class (R70, R71). -/
def State.trainingSucceeds (s : State) (i : LineNo) (agreed : Cls) : State :=
  let d := (s.line i).dp
  let first := d.pump == .training
  let agreedMax := if first then
      match (s.line i).cc.conn, d.offer with
      | some c, some o => some (Cls.lower c.maxc o)
      | _, _ => d.agreedMax
    else d.agreedMax
  let s1 := s.setClass i agreed
  let s2 := s1.updDp i fun d => { d.run.freshTraining with acc := 8 * (d.trainSum / 150), agreedMax := agreedMax }
  let s3 := if d.cur = some agreed then s2 else s2.raise .qual i
  s3.linkPumpRuns i

/-- A training fails (R70, R71, R77). -/
def State.trainingFails (s : State) (i : LineNo) : State :=
  let d := (s.line i).dp
  if d.pump = .training then
    let s1 := s.updDp i fun d => { d.freshTraining with attempts := d.attempts + 1 }
    if 3 ≤ d.attempts + 1 then s1.raiseCause i .trainFailed else s1
  else s.enterRetraining i

/-- The limit of the local pick: the admitted class in the first training, the current class in a retrain, lowered to a
cap owed (R70, R76). -/
def Line.pickLimit (l : Line) : Option Cls :=
  (if l.dp.pump = .training then l.counted else l.dp.cur).map fun c => c.cap l.dp.owed

/-- The highest class of a limit's family at or below the limit whose entry threshold is at or below `qt` (R70). -/
def localPick (limit : Cls) (qt : Nat) : Option Cls :=
  (classesDown ⟨limit, Cls.ofIdx limit.family 1⟩).find? fun c => decide (c.entry ≤ qt)

/-- The agreed class: the lower of pick and offer, no higher than a cap owed (R70, R76, log 19). -/
def Dp.agreed (d : Dp) : Option Cls :=
  match d.pick, d.offer with
  | some p, some o => some ((Cls.lower p o).cap d.owed)
  | _, _ => none

/-- The training completes where pick and offer are there, else waits 1000 ms for the offer (R70). -/
def State.completeTraining (s : State) (i : LineNo) : State :=
  match (s.line i).dp.agreed with
  | some c => s.trainingSucceeds i c
  | none => s.updDp i fun d => { d with offerDue := some (s.now + 1000) }

/-- The 150th reading of a data training (R70). -/
def State.trainingRead (s : State) (i : LineNo) : State :=
  match (s.line i).pickLimit.bind fun l => localPick l ((s.line i).dp.trainSum / 150) with
  | none => s.trainingFails i
  | some p => (s.updDp i fun d => { d with pick := some p, signal := some (.offer p) }).completeTraining i

/-- A rate change completes (R74): the class is the target, or a lower cap owed; A is unchanged. -/
def State.completeRateChange (s : State) (i : LineNo) : State :=
  match (s.line i).dp.rc with
  | none => s
  | some r =>
    let old := (s.line i).dp.cur
    let c := r.target.cap (s.line i).dp.owed
    let rose := match old with
      | some o => r.up && decide (o.idx < c.idx)
      | none => false
    let s1 := (s.setClass i c).updDp i Dp.run
    let s2 := s1.updCnt i fun k => { k with forwards := if rose then satAdd k.forwards 1 else k.forwards }
    (s2.raise .qual i).linkPumpRuns i

/-- The pump asks for the next class (R73, R57): the units are granted and an upward rate change begins, or the request
is refused and counted. Tells whether it was granted. -/
def State.askForward (s : State) (i : LineNo) (cur next : Cls) : State × Bool :=
  if next.cost - cur.cost ≤ s.free then ((s.setCounted i next).enterRateChange i true next, true)
  else
    ((s.updDp i fun d => { d with fwdRun := 0 }).updCnt i
      fun c => { c with forwardsDenied := satAdd c.forwardsDenied 1 }, false)

end Sys2Proof.Machine
end

