-- ==== Sys2Proof/Machine/FaxOps.lean ====
section
/-! DEFINITION. The fax job: start, waits, training checks, partial pages, pages, end (R98 to R113). -/

namespace Sys2Proof.Machine

open Sys2Proof

/-! ## Records, messages, waits -/

/-- Changes the job record of a line. -/
def State.updJob (s : State) (i : LineNo) (f : FaxJob → FaxJob) : State :=
  s.updFxc i fun x => { x with job := x.job.map f }

/-- The job of a line while it runs (R98). -/
def Line.runningJob (l : Line) : Option FaxJob := if l.jobRunning then l.fxc.job else none

/-- A running send job sends the frames of a round: its partial page is open and it waits for nothing (R105). -/
def Line.sendsRound (l : Line) : Bool :=
  match l.runningJob with
  | some j => j.dir == some .send && j.phase == .page && j.partOpen && l.fxc.wait == .none
  | none => false

/-- A job is prepared or started in this call: its record has no outcome (R98, R99). -/
def Line.jobLive (l : Line) : Bool :=
  match l.fxc.job with
  | some j => j.outcome == none
  | none => false

/-- A fax class, whatever family the remote names (R103, R104). -/
def asFax (c : Cls) : Cls := Cls.ofIdx .fax c.idx

/-- A fax message goes to the pump. -/
def State.faxSend (s : State) (i : LineNo) (m : FaxMsg) : State := s.updFxc i fun x => { x with sent := some m }

/-- A message that awaits an answer is sent for the first time (R102). -/
def State.faxAsk (s : State) (i : LineNo) (m : FaxMsg) : State :=
  s.updFxc i fun x => { x with sent := some m, wait := .answer m 1 (s.now + 3000) }

/-- A receive job waits 10000 ms on the sender (R102). -/
def State.senderWait (s : State) (i : LineNo) : State :=
  s.updFxc i fun x => { x with wait := .sender (s.now + 10000) }

/-- A receive job sends a message that awaits nothing in the table of R102. -/
def State.faxTell (s : State) (i : LineNo) (m : FaxMsg) : State := (s.faxSend i m).senderWait i

/-- The page reserve from the line's fax reserve setting (R100). -/
def faxReserve (n : Nat) : Nat := if n < 16 then 16 else if 256 < n then 256 else (n + 15) / 16 * 16

/-! ## End of a job (R113) -/

/-- A failure outcome: the job ends and FAX_FAILED is raised (R113). -/
def State.failJob (s : State) (i : LineNo) (r : FaxOutcome) : State := (s.endJob i r).raiseCause i .faxFailed

/-- The job ends DONE and PLAN_DONE is raised (R113). -/
def State.doneJob (s : State) (i : LineNo) : State := (s.endJob i .done).raiseCause i .planDone

/-! ## Start of a job (R99, R100, R103) -/

/-- A receive job starts: the reserve is read and the capability message sent: the counted class lowered to a cap owed,
NORMAL and FINE, width code 2, the reserve (R100, R103). -/
def State.startReceive (s : State) (i : LineNo) : State :=
  let reserve := faxReserve (s.lineSettings i).faxReserve
  let c := ((s.line i).counted.getD .f1).cap (s.line i).dp.owed
  (s.updJob i fun j => { j with started := true, reserve := reserve, offered := some c }).faxAsk i
    (.capability c true 2 reserve)

/-- The job in the record starts; a job wait ends (R99, R100). A send job waits for the capability message. -/
def State.startJob (s : State) (i : LineNo) : State :=
  let s1 := s.updFxc i fun x => { x with jobWaitDue := none }
  match (s.line i).fxc.job.bind (·.dir) with
  | some .receive => s1.startReceive i
  | some .send =>
    (s1.updJob i fun j => { j with started := true }).updFxc i
      fun x => { x with wait := .capability (s.now + 10000) }
  | none => s1

/-- A new job record replaces the one held (R98). -/
def State.newJob (s : State) (i : LineNo) (j : FaxJob) : State := s.updFxc i fun x => { x with job := some j }

/-- An answer plan's receive job is created and starts at once (R100). -/
def State.planJob (s : State) (i : LineNo) (policy : Policy) : State :=
  (s.newJob i { dir := some .receive, policy := policy }).startJob i

/-! ## Pages of a send job (R105, R112) -/

/-- Frames of a page of used length `u` (R105). -/
def frameTotal (u : Nat) : Nat := (u + 127) / 128

/-- A partial page of a send job begins: its header is sent, and round 1 holds all its frames (R105). -/
def State.startPart (s : State) (i : LineNo) (p : Nat) : State :=
  match (s.line i).fxc.job with
  | none => s
  | some j =>
    let total := match j.page.bind s.stc.entry with
      | some e => frameTotal e.used
      | none => 0
    let count := min 128 (total - 128 * p)
    let last := decide (total ≤ 128 * (p + 1))
    (s.updFxc i fun x => { x with wait := .none, job := some { j with
        phase := .page, part := p, round := 1, missing := List.range count, frameCount := count, lastPart := last
        partOpen := true, partEnded := false } }).faxSend i (.header j.pageIdx p count last)

/-- An entry that can be sent as a page (R112). -/
def Entry.sendable (e : Entry) : Bool :=
  e.kind == .faxTxPage && !e.open_ && decide (1 ≤ e.used) && decide (e.used ≤ 262144)

/-- A send job begins the page of its current index, or ends PAGE_MISSING (R112). -/
def State.beginSendPage (s : State) (i : LineNo) : State :=
  match (s.line i).fxc.job with
  | none => s
  | some j =>
    match j.pages[j.pageIdx]? with
    | none => s.failJob i .pageMissing
    | some id =>
      if (match s.stc.entry id with
          | some e => e.sendable
          | none => false) then
        ((s.setSlot i 2 (some { id := id, right := .play })).updJob i fun j => { j with
          page := some id, givenUp := 0 }).startPart i 0
      else s.failJob i .pageMissing

/-- The page close is sent after the last partial page: more pages, or last page (R112). -/
def State.sendPageClose (s : State) (i : LineNo) (j : FaxJob) : State :=
  (s.updJob i fun j => { j with phase := .postpage }).faxAsk i
    (.pageClose (decide (j.pageIdx + 1 < j.pages.length)))

/-- What follows the end of a partial page (R104, R108, R112). -/
def State.afterPart (s : State) (i : LineNo) : State :=
  match (s.line i).fxc.job with
  | none => s
  | some j =>
    match j.dir with
    | some .send => if j.lastPart then s.sendPageClose i j else s.startPart i (j.part + 1)
    | _ =>
      s.updJob i fun j => { j with phase := if j.lastPart ∧ j.page.isSome then .postpage else .page }

/-! ## Training checks (R79, R104) -/

/-- A training check at class `c` begins (R104): the pump trains afresh, in RETRAINING after the first accepted check
of the job, the retrains counter rising (R79). -/
def State.startCheck (s : State) (i : LineNo) (c : Cls) (after : AfterCheck) : State :=
  let again := match (s.line i).fxc.job with
    | some j => j.checked
    | none => false
  let s1 := s.updJob i fun j => { j with phase := .train, fk := some c, after := after, bursts := 1 }
  let s2 := s1.updDp i fun d => if again then
      { d.freshTraining with pump := .retraining, lossRun := 0, belowRun := 0, fwdRun := 0, stableRun := 0 }
    else d.freshTraining
  if again then s2.updCnt i fun k => { k with retrains := satAdd k.retrains 1 } else s2

/-- A send job announces the class of the next check and sends its burst (R104). -/
def State.announceCheck (s : State) (i : LineNo) (c : Cls) (after : AfterCheck) : State :=
  ((s.startCheck i c after).updFxc i fun x => { x with wait := .none }).faxSend i (.announce c)

/-- The end of a check, accepted or not (R79, R104): the classes become Fk, the owed cap is cleared, QUAL is raised
where the class differs from the one before. -/
def State.checkEnds (s : State) (i : LineNo) (c : Cls) : State :=
  let old := (s.line i).dp.cur
  let s1 := ((s.setClass i c).updDp i fun d => { d.freshTraining with owed := none }).updJob i
    fun j => { j with cls := some c, fk := some c }
  if old = some c then s1 else s1.raise .qual i

/-- An accepted check moves the job on (table of R104); A becomes `acc` (R79). -/
def State.checkAccepted (s : State) (i : LineNo) (c : Cls) (acc : Nat) : State :=
  let s1 := ((s.checkEnds i c).updDp i fun d => { d.run with acc := acc }).updJob i
    fun j => { j with checked := true, phase := .page, mapAnswer := none }
  match (s.line i).fxc.job with
  | none => s1
  | some j =>
    match j.after, j.dir with
    | .firstPage, some .send => s1.beginSendPage i
    | .firstPage, _ => s1.updJob i fun j => { j with part := 0, round := 1 }
    | .boundary, _ => s1.afterPart i
    | .samePart, _ => s1.updJob i fun j => { j with round := 1 }

/-- The class of the check after a rejected one: one class below Fk, no higher than the cap owed, no higher than the
class a remote's verdict names (R104). -/
def nextCheck (c : Cls) (owed named : Option Cls) : Cls := (c.below.cap owed).cap named

/-- A rejected check (R104): at F1 the F1 failures rise and the second ends the job, a receive job's verdict rejected naming
F1 (log 87); else the pump is ordered to step down and the next check runs lower. -/
def State.checkRejected (s : State) (i : LineNo) (c : Cls) (named : Option Cls) : State :=
  let s1 := s.checkEnds i c
  match (s.line i).fxc.job with
  | none => s1
  | some j =>
    let go (t : State) (n : Cls) : State := match j.dir with
      | some .send => t.announceCheck i n j.after
      | _ => (t.startCheck i n j.after).faxTell i (.verdict (some n))
    if c.idx ≤ 1 then
      let s2 := s1.updJob i fun j => { j with f1fails := j.f1fails + 1 }
      if 2 ≤ j.f1fails + 1 then
        (match j.dir with
          | some .send => s2
          | _ => s2.faxSend i (.verdict (some c))).failJob i .checkFailed
      else go s2 c
    else
      let s2 := s1.stepDown i
      go s2 (nextCheck c (s2.line i).dp.owed (named.map asFax))

/-- The class Fk of the check in progress, no higher than the cap of an order recorded during the check (R64, R76, R79,
log 74). -/
def Line.checkClass (l : Line) : Option Cls := (l.fxc.job.bind (·.fk)).map fun c => c.cap l.dp.owed

/-- The 150th reading of a receive job's check (R79, R104). -/
def State.faxCheckRead (s : State) (i : LineNo) : State :=
  match (s.line i).checkClass with
  | none => s
  | some c =>
    let qt := (s.line i).dp.trainSum / 150
    if c.entry ≤ qt then (s.faxTell i (.verdict none)).checkAccepted i c (8 * qt) else s.checkRejected i c none

/-! ## Partial pages (R106 to R108) -/

/-- Counts frames resent in the job and in the line (R105, R106). -/
def State.countResent (s : State) (i : LineNo) (n : Nat) : State :=
  (s.updJob i fun j => { j with framesResent := min 65535 (j.framesResent + n) }).updCnt i
    fun k => { k with faxResent := satAdd k.faxResent n }

/-- The partial page in progress ends with the frames of `missing` given up, the ones still not received good (R98,
R107). -/
def FaxJob.endPart (j : FaxJob) (missing : List Nat) : FaxJob :=
  { j with partEnded := true, missing := missing, givenUp := j.givenUp + missing.length }

/-- A partial page ends by CONTINUE in a send job: a check at the cap where a step-down is owed, else on (R108). -/
def State.sendBoundary (s : State) (i : LineNo) (missing : List Nat) : State :=
  let s1 := s.updJob i fun j => j.endPart missing
  match (s.line i).dp.owed with
  | some c => s1.announceCheck i c .boundary
  | none => s1.afterPart i

/-- A receive job answers a round with a map that ends the partial page: CONTINUE, or RETRAIN at the cap where a
step-down is owed (R106, R108). -/
def State.receiveBoundary (s : State) (i : LineNo) (missing : List Nat) : State :=
  let s1 := s.updJob i fun j => j.endPart missing
  match (s.line i).dp.owed with
  | some c =>
    let m := FaxMsg.frameMap missing (.retrain c)
    ((s1.startCheck i c .boundary).updJob i fun j => { j with mapAnswer := some m }).faxTell i m
  | none =>
    let m := FaxMsg.frameMap missing .continue
    ((s1.updJob i fun j => { j with mapAnswer := some m }).afterPart i).faxTell i m

/-- A receive job answers RESEND (R106). -/
def State.receiveResend (s : State) (i : LineNo) (missing : List Nat) : State :=
  let m := FaxMsg.frameMap missing .resend
  ((s.countResent i missing.length).updJob i fun j => { j with
    round := j.round + 1, mapAnswer := some m }).faxTell i m

/-- A receive job steps down after a fourth round (R107). -/
def State.receiveRetrain (s : State) (i : LineNo) (missing : List Nat) (cur : Cls) : State :=
  let s1 := s.stepDown i
  let c := cur.below.cap (s1.line i).dp.owed
  let m := FaxMsg.frameMap missing (.retrain c)
  ((s1.startCheck i c .samePart).updJob i fun j => { j with round := 1, mapAnswer := some m }).faxTell i m

/-- The class above F1 at which a STEP_DOWN policy retrains, if it does (R107). -/
def Line.policyStep (l : Line) (j : FaxJob) : Option Cls :=
  match j.policy, l.dp.cur with
  | .stepDown, some c => if 1 < c.idx then some c else none
  | _, _ => none

/-- A round end is judged by the missing list, the round and the policy (R106, R107). -/
def State.judgeRound (s : State) (i : LineNo) (j : FaxJob) : State :=
  if j.missing.isEmpty then s.receiveBoundary i []
  else if j.round < 4 then s.receiveResend i j.missing
  else
    match (s.line i).policyStep j with
    | some c => s.receiveRetrain i j.missing c
    | none => s.receiveBoundary i j.missing

/-- A send job retrains for a map: the pump is ordered to step down, the rounds restart at 1 (R107). A map that lists no
frame ends the partial page at the check (log 23). -/
def State.sendRetrain (s : State) (i : LineNo) (missing : List Nat) (cur : Cls) (named : Option Cls) : State :=
  let s1 := s.stepDown i
  let c := nextCheck cur (s1.line i).dp.owed (named.map asFax)
  if missing.isEmpty then (s1.updJob i fun j => j.endPart []).announceCheck i c .boundary
  else (s1.updJob i fun j => { j with round := 1, missing := missing }).announceCheck i c .samePart

/-- A send job follows a frame map (R105, R107). A RESEND map of the fourth round counts no frames resent (log 78). -/
def State.followMap (s : State) (i : LineNo) (j : FaxJob) (missing : List Nat) (a : MapAction) : State :=
  let cur := (s.line i).dp.cur.getD .f1
  match a with
  | .continue => s.sendBoundary i missing
  | .retrain c => s.sendRetrain i missing cur (some c)
  | .resend =>
    if j.round < 4 then
      ((s.countResent i missing.length).updJob i fun j => { j with
        round := j.round + 1, missing := missing }).updFxc i fun x => { x with wait := .none }
    else
      match (s.line i).policyStep j with
      | some c => s.sendRetrain i missing c none
      | none => s.sendBoundary i missing

/-! ## Storing received pages (R109 to R111) -/

/-- The segment covers cells up to `16 p + 15`, extended by 16 cells where it must and can be (R110). -/
def Stc.cover (t : Stc) (id p : Nat) : Option Stc :=
  match t.entry id with
  | none => none
  | some e =>
    if e.kind.voice then none
    else if 16 * p + 16 ≤ e.extent then some t
    else if e.low = t.ff ∧ 16 ≤ t.freeSpan then some (t.updEntry id fun e => { e with extent := e.extent + 16 })
    else none

/-- Zeros over frame positions 0 to `c - 1` of partial page `p`, and the used length (R110). -/
def Stc.zeroPart (t : Stc) (id p c : Nat) : Stc :=
  match t.entry id with
  | none => t
  | some e =>
    let t1 := (List.range ((c + 7) / 8)).foldl (fun t k =>
      t.zero (t.addr id e (p * 16384 + k * 1024)) (min 1024 (c * 128 - k * 1024))) t
    t1.updEntry id fun e => { e with used := max e.used (min e.capacity (p * 16384 + c * 128)) }

/-- Takes a header for partial page `p` into a page entry (R106, R110), or ends the job STORE_FULL. -/
def State.takePart (s : State) (i : LineNo) (id p c : Nat) (last : Bool) : State :=
  match s.stc.cover id p with
  | none => s.failJob i .storeFull
  | some t =>
    (({ s with stc := t.zeroPart id p c }).updJob i fun j => { j with
      part := p, round := 1, missing := List.range c, frameCount := c, lastPart := last
      partOpen := true, partEnded := false, mapAnswer := none }).senderWait i

/-- A page entry is allocated and attached at the first header of a page, or the job ends (R109). -/
def State.beginReceivePage (s : State) (i : LineNo) (j : FaxJob) (c : Nat) (last : Bool) : State :=
  let form := j.agreed.getD ⟨.normal, 0⟩
  match s.stc.alloc .faxRxPage j.reserve fun e => { e with
      originLine := some i, ordinal := s.callOrdinal i, number := s.callerNumber i
      fax := some { form := form, missing := 0 } } with
  | .error .storeFull => s.failJob i .storeFull
  | .error _ => s.failJob i .directoryFull
  | .ok (t, id) =>
    ((({ s with stc := t }).setSlot i 2 (some { id := id, right := .record })).updJob i fun j => { j with
      page := some id, givenUp := 0, closeAnswered := false, anyPage := true
      pageIdx := if j.anyPage then min 255 (j.pageIdx + 1) else j.pageIdx }).takePart i id 0 c last

/-- The sender has gone on after a round's answer, so that its next round end is no repetition (log 22); a partial page
that has ended keeps its answer. -/
def FaxJob.goesOn (j : FaxJob) : FaxJob := if j.partEnded then j else { j with mapAnswer := none }

/-- A receive job takes a header in PAGE (R106, R109): the first of a page, a continuation, the next partial page, or
none of these. Where no page has begun, one that names another partial page than 0 is ignored (log 94). -/
def State.takeHeader (s : State) (i : LineNo) (j : FaxJob) (p c : Nat) (last : Bool) : State :=
  match j.page with
  | none => if p = 0 then s.beginReceivePage i j c last else s
  | some id =>
    if p = j.part then (s.updJob i FaxJob.goesOn).senderWait i
    else if p = j.part + 1 then
      (if j.partEnded then s else s.updJob i fun j => j.endPart j.missing).takePart i id p c last
    else s

/-- A good frame in the missing list is written and leaves the list (R106, R110). -/
def State.storeFrame (s : State) (i : LineNo) (j : FaxJob) (n : Nat) (b : List Byte) : State :=
  match j.page with
  | none => s
  | some id =>
    match s.stc.entry id with
    | none => s
    | some e =>
      ({ s with stc := s.stc.writeBytes (s.stc.addr id e (j.part * 16384 + n * 128)) (b.take 128) }).updJob i
        fun j => { j with missing := j.missing.filter fun x => x != n }

/-- The page in progress is complete (R111): closed, listed, counted, confirmed; the next page or RELEASE follows. The
missing list empties with the page (log 83). -/
def State.completePage (s : State) (i : LineNo) (j : FaxJob) (id : Nat) (more : Bool) : State :=
  let missing := j.pageMissing
  let s1 := (s.closePage i j id missing).setSlot i 2 none
  let s2 := s1.updFxc i fun x => { x with
    faxp := some { id := id, missing := missing }
    job := x.job.map fun j => { j with
      pagesDone := min 255 (j.pagesDone + 1), phase := if more then .page else .release
      part := if more then 0 else j.part, round := if more then 1 else j.round
      missing := [], partOpen := false, partEnded := false, givenUp := 0, closeAnswered := true
      mapAnswer := none } }
  let s3 := s2.updCnt i fun k => { k with faxReceived := satAdd k.faxReceived 1 }
  (s3.raise .faxp i).faxTell i .pageConfirmation

/-! ## Reading pages to send (R112) -/

/-- One frame read from the store: 128 bytes, zeros beyond the used length, zeros and a count where the read meets a
parity error (R112, R131). -/
def State.readFrame (s : State) (i : LineNo) (j : FaxJob) (n : Nat) : State × List Byte :=
  match j.page with
  | none => (s, List.replicate 128 0)
  | some id =>
    match s.stc.entry id with
    | none => (s, List.replicate 128 0)
    | some e =>
      let off := j.part * 16384 + n * 128
      let len := min 128 (e.used - off)
      if s.stc.badPayload id e off len then
        ((({ s with stc := s.stc.damage id }).updCnt i fun k => { k with parity := satAdd k.parity 1 }),
          List.replicate 128 0)
      else (s, s.stc.readPayload id e off len ++ List.replicate (128 - len) 0)

/-- The frames of the round, in ascending number (R105). -/
def State.readRound (s : State) (i : LineNo) (j : FaxJob) : List Nat → State × List (Nat × List Byte)
  | [] => (s, [])
  | n :: r =>
    let f := s.readFrame i j n
    let rest := f.1.readRound i j r
    (rest.1, (n, f.2) :: rest.2)

/-- A repeated message is answered again with the same answer, and nothing else changes (R102); a receive job waits on
the sender afresh after it, as after each such message it sends. -/
def State.answerAgain (s : State) (i : LineNo) (j : FaxJob) (k : FaxKind) : State :=
  let m : Option FaxMsg := match k with
    | .capability => j.choiceSent
    | .choice => j.choiceAnswer.map .confirmation
    | .roundEnd => j.mapAnswer
    | .pageClose => if j.closeAnswered then some .pageConfirmation else none
    | .confirmation | .retrainAnnouncement | .verdict | .header | .frame | .frameMap | .pageConfirmation => none
  match m with
  | some m => if j.dir = some .receive then s.faxTell i m else s.faxSend i m
  | none => s

/-- The call reaches CONNECTED FAX with no plan's hand-over: a prepared job starts, or the job wait begins (R100). -/
def State.faxConnected (s : State) (i : LineNo) : State :=
  if (s.line i).jobLive then s.startJob i
  else s.updFxc i fun x => { x with jobWaitDue := some (s.now + 10000) }

end Sys2Proof.Machine
end

