-- ==== Sys2Proof/Machine/PlanOps.lean ====
section
/-! DEFINITION. Connection of a call (R24, R26), voice operations at their grant and end (R138, R144), and the course of
an answer plan (R148 to R158). -/

namespace Sys2Proof.Machine

open Sys2Proof

/-! ## Connection (R24, R26, R67, R82, R100) -/

/-- The pump an admission asks for: classes of one family, the whole ladder where the call names none. -/
def Conn.ask (f : Family) (c : Option Conn) : Conn :=
  match c with
  | some x => ⟨x.maxc.asFamily f, x.floor.asFamily f⟩
  | none => ⟨Cls.ofIdx f 7, Cls.ofIdx f 1⟩

/-- The connection admission of a kind (table of R24). -/
def connAsk (k : CallKind) (c : Option Conn) : Ask :=
  match k with
  | .voice => { acts := [.voiceBase], pump := none }
  | .data => { acts := [.blockLink], pump := some (Conn.ask .data c) }
  | .fax => { acts := [.faxFraming], pump := some (Conn.ask .fax c) }

/-- The Call Controller enters CONNECTED (R24, R26): connect time recorded, an incoming call counted as answered, CALL
raised. -/
def State.ccConnected (s : State) (i : LineNo) : State :=
  let s1 := s.updCc i fun c => { c with
    state := .connected, connectAt := some s.now, settleDue := none, answerDue := none }
  let s2 := s1.updCnt i fun k => { k with
    answered := if (s.line i).cc.origin = some .incoming then satAdd k.answered 1 else k.answered }
  s2.raise .call i

/-- The plan records the outcome FAX and raises PLAN; its receive job starts (R153, R157). -/
def State.planFaxStarts (s : State) (i : LineNo) : State :=
  let policy := match (s.line i).apc.profile with
    | some p => p.faxPolicy
    | none => .stepDown
  let s1 := (s.planJob i policy).planOutcome i { outcome := .fax, id := none }
  s1.updApc i fun a => { a with handedOver := true }

/-- What starts in CONNECTED, by the kind (R67, R82, R100, R157). -/
def State.connectedStarts (s : State) (i : LineNo) : State :=
  let c := (s.line i).cc
  let floor (d : Cls) : Cls := match c.conn with
    | some x => x.floor
    | none => d
  match c.kind with
  | some .data =>
    let s1 := (s.startTraining i .data (floor .d1)).linkWaits i
    if (s.line i).apc.plan = .dataHandoff then
      (s1.planOutcome i { outcome := .data, id := none }).planInactive i
    else s1
  | some .fax =>
    let s1 := s.startTraining i .fax (floor .f1)
    if (s.line i).apc.plan = .faxHandoff then s1.planFaxStarts i else s1.faxConnected i
  | _ => s

/-- CONNECTED with a call's kind (R24, R26). -/
def State.enterConnected (s : State) (i : LineNo) : State := (s.ccConnected i).connectedStarts i

/-- The Call Controller asks the connection admission; call-progress units end in it (R24, R26). -/
def State.askConnection (s : State) (i : LineNo) : State :=
  match (s.line i).cc.kind with
  | none => s
  | some k =>
    let r := s.request i [.callProgress] (connAsk k (s.line i).cc.conn) .ccConnection
    match r.2 with
    | some _ => r.1.enterConnected i
    | none => r.1

/-! ## The profile in use (R148) -/

/-- The profile with every field in its range (table of R148). -/
def Profile.used (p : Profile) : Profile :=
  { p with
    rings := clamp 1 15 p.rings, priorityRings := clamp 1 15 p.priorityRings
    greeting := p.greeting.filter fun g => decide (g ≤ 95)
    altGreeting := p.altGreeting.filter fun g => decide (g ≤ 95)
    repeats := clamp 1 4 p.repeats, gap := min 5000 p.gap, mailboxWait := min 10 p.mailboxWait
    mailbox := min 9 p.mailbox, recordLimit := clamp 1 480 p.recordLimit, silence := clamp 1 30 p.silence
    threshold := min 2047 p.threshold }

/-- The profile in use of a line's plan. -/
def Line.profile (l : Line) : Profile := l.apc.profile.getD {}

/-! ## End of a plan (R156) -/

/-- The plan enters ENDING with its outcome: PLAN and PLAN_DONE are raised (R156). -/
def State.planEnding (s : State) (i : LineNo) (r : PlanResult) : State :=
  ((s.planOutcome i r).updApc i fun a => { a with plan := .ending }).raiseCause i .planDone

/-- The plan ends NOT_RECORDED (R151, R153, R155). -/
def State.planNotRecorded (s : State) (i : LineNo) : State := s.planEnding i { outcome := .notRecorded, id := none }

/-- The plan's recording has ended: the message is settled and the plan ends (R156). -/
def State.planRecorded (s : State) (i : LineNo) : State :=
  let r := s.settleMessage i
  r.1.planEnding i r.2

/-! ## Voice operations (R138, R144) -/

/-- The admission of an operation in WAITING is granted (R138, R145, R158): it waits for its frame boundary, or ends
STOPPED where a stop was requested. -/
def State.opGranted (s : State) (i : LineNo) : State :=
  match (s.line i).vc.op with
  | none => s
  | some o =>
    if o.stopReq then
      let s1 := s.finishOp i .stopped
      if o.host then s1 else s1.dropMessage o.id
    else s.updVc i fun v => { v with op := some { o with granted := true } }

/-! ## The record step and the mailbox step (R154, R155) -/

/-- The record step (R155): the entry is allocated and stamped, the tone and the plan's recording start; the record
admission names the listener and the play as ending where they are still held. -/
def State.recordStep (s : State) (i : LineNo) : State :=
  let p := (s.line i).profile
  match s.stc.alloc .voiceMessage p.recordLimit fun e => { e with
      mailbox := (s.line i).apc.mailbox, originLine := some i, ordinal := s.callOrdinal i
      number := s.callerNumber i } with
  | .error _ => s.planNotRecorded i
  | .ok (t, id) =>
    let s1 := ({ s with stc := t }).setSlot i 1 (some { id := id, right := .record })
    let s2 := s1.updApc i fun a => { a with
      plan := .recording, message := some id, recordToneDue := some (s.now + 300), mailboxDue := none }
    let o : VoiceOp :=
      { kind := .recd, host := false, slot := 1, id := id, limit := p.recordLimit, silence := p.silence
        threshold := p.threshold }
    let s3 := s2.updVc i fun v => { v with op := some o }
    let r := s3.request i [.listener, .voicePlay] { acts := [.voiceRecord], pump := none } .planRecord
    match r.2 with
    | some _ => r.1.opGranted i
    | none => r.1

/-- The mailbox is chosen and the record step follows (R154). -/
def State.chooseMailbox (s : State) (i : LineNo) (m : Nat) : State :=
  (s.updApc i fun a => { a with mailbox := some m, mailboxDue := none }).recordStep i

/-- The first 0-9 of a digit queue and what stands behind it; star and hash before it are discarded (R154). -/
def headDigit : List Dtmf → Option (Nat × List Dtmf)
  | [] => none
  | .num d :: r => some (d.val, r)
  | .star :: r => headDigit r
  | .hash :: r => headDigit r

/-- A plan in MAILBOX_WAIT looks at the digit queue (R154). -/
def State.mailboxLook (s : State) (i : LineNo) : State :=
  if (s.line i).apc.plan = .mailboxWait then
    match headDigit (s.line i).tu.digits with
    | some (d, r) => (s.updTu i fun t => { t with digits := r }).chooseMailbox i d
    | none => s.updTu i fun t => { t with digits := [] }
  else s

/-- The mailbox step (R154). -/
def State.mailboxStep (s : State) (i : LineNo) : State :=
  let p := (s.line i).profile
  if p.mailboxWait = 0 then s.chooseMailbox i p.mailbox
  else
    (s.updApc i fun a => { a with
      plan := .mailboxWait, mailbox := none, mailboxDue := some (s.now + p.mailboxWait * 1000) }).mailboxLook i

/-- The greeting begins: a play of slot 0 whose admission is held (R152). -/
def State.enterGreeting (s : State) (i : LineNo) (id : Nat) : State :=
  let p := (s.line i).profile
  let o : VoiceOp :=
    { kind := .play, host := false, slot := 0, id := id, repeats := p.repeats, gap := p.gap, stopOnDigit := true
      granted := true }
  (s.updApc i fun a => { a with plan := .greeting }).updVc i fun v => { v with op := some o }

/-- The greeting has ended (R152): the mailbox step follows, and the play's units are released unless a record step that
followed at once has named them (R155). -/
def State.greetingEnds (s : State) (i : LineNo) (r : VoiceOutcome) : State :=
  let s1 := s.closeOp i r
  (if (s.line i).apc.plan = .greeting then s1.mailboxStep i else s1).endActs i [.voicePlay]

/-- A running operation ends (R138, R144): the host's with VOIC, the greeting into the mailbox step, the plan's
recording into its settling. -/
def State.opEnds (s : State) (i : LineNo) (r : VoiceOutcome) : State :=
  match (s.line i).vc.op with
  | none => s
  | some o =>
    match o.host, o.kind with
    | true, _ => s.finishOp i r
    | false, .play => s.greetingEnds i r
    | false, .recd => (s.finishOp i r).planRecorded i

/-! ## Answering (R151, R157) -/

/-- The Call Controller enters ANSWERING (R26): seize order, 500 ms settle, the caller-identification window closes
(R27). -/
def State.enterAnswering (s : State) (i : LineNo) (k : CallKind) (c : Option Conn) : State :=
  ((s.closeClid i).seize i).updCc i fun x => { x with
    state := .answering, kind := some k, conn := c, settleDue := some (s.now + 500) }

/-- The greeting of a voice answer: the id chosen, and whether it can be played (R151). -/
def State.greetingFor (s : State) (i : LineNo) (p : Profile) : Option Nat × Bool :=
  let id := if (s.line i).apc.callerClass = some .priority ∧ p.altGreeting.isSome then p.altGreeting else p.greeting
  match id.bind s.stc.entry with
  | some e => (id, e.kind == .greeting && !e.open_ && decide (1 ≤ e.used))
  | none => (id, false)

/-- The answer order of a plan in VOICE or AUTO mode (R151). -/
def State.answerVoice (s : State) (i : LineNo) (p : Profile) : State :=
  let g := s.greetingFor i p
  let use := if g.2 then g.1 else none
  let s1 := s.updApc i fun a => { a with plan := .answering, profile := some p, greeting := use, mailbox := none }
  let s2 := (s1.setSlot i 0 (use.map fun id => { id := id, right := .play })).setSlot i 1 none
  let s3 := s2.updCnt i fun k => { k with
    greetingsSkipped := if g.1.isSome ∧ use.isNone then satAdd k.greetingsSkipped 1 else k.greetingsSkipped }
  s3.enterAnswering i .voice none

/-- The answer order of a plan in FAX or DATA mode (R157). -/
def State.answerModem (s : State) (i : LineNo) (p : Profile) (st : PlanState) (k : CallKind) (c : Conn) : State :=
  let s1 := s.updApc i fun a => { a with
    plan := st, profile := some p, greeting := none, mailbox := none, handedOver := false }
  ((s1.setSlot i 0 none).setSlot i 1 none).enterAnswering i k (some c)

/-- The answer order, by the mode read at the entry into RINGING (R148, R151, R157). -/
def State.answerOrder (s : State) (i : LineNo) : State :=
  let p := (s.lineSettings i).profile.used
  match (s.line i).apc.mode with
  | .off => s
  | .voice | .auto => s.answerVoice i p
  | .fax => s.answerModem i p .faxHandoff .fax p.fax
  | .data => s.answerModem i p .dataHandoff .data p.data

/-- The three results of an answer decision (R150). -/
inductive Decision where
  | answer | refuse | wait
  deriving DecidableEq, Repr

/-- The answer decision on a class and a ring count (table of R150). -/
def decideAnswer (p : Profile) (c : Option CallerClass) (rings : Nat) : Decision :=
  let threshold := if c = some .priority then clamp 1 15 p.priorityRings else clamp 1 15 p.rings
  if c = some .barred then .refuse
  else if rings < threshold then .wait
  else if (c = some .unknown ∨ c = none) ∧ p.withheldIgnore then .refuse
  else .answer

/-- A plan in WAIT_RINGS makes its answer decision while the call is in RINGING (R150). -/
def State.answerDecision (s : State) (i : LineNo) : State :=
  if (s.line i).apc.plan = .waitRings ∧ (s.line i).cc.state = .ringing then
    match decideAnswer (s.lineSettings i).profile (s.line i).apc.callerClass (s.line i).lif.ringCount with
    | .answer => s.answerOrder i
    | .refuse => s.updApc i fun a => { a with plan := .inactive }
    | .wait => s
  else s

/-- The plan's answer admission (R151). -/
def Line.answerAsk (l : Line) : Ask :=
  { acts := [.voiceBase] ++ (if l.apc.greeting.isSome then [.voicePlay] else [])
      ++ (if l.apc.mode = .auto ∨ l.profile.faxListen then [.listener] else [])
    pump := none }

/-- A plan's voice answer is granted: CONNECTED VOICE, then the greeting or the mailbox step (R151). -/
def State.planAnswered (s : State) (i : LineNo) : State :=
  let s1 := s.ccConnected i
  match (s.line i).apc.greeting with
  | some id => s1.enterGreeting i id
  | none => s1.mailboxStep i

/-- The plan asks its answer admission at the end of the settle (R151). -/
def State.planAsks (s : State) (i : LineNo) : State :=
  let r := s.request i [] (s.line i).answerAsk .planAnswer
  match r.2 with
  | some _ => r.1.planAnswered i
  | none => r.1

/-! ## Fax hand-over (R153) -/

/-- A plan's fax admission is granted: the pump trains in the FAX family and the receive job starts (R153). -/
def State.planFaxGranted (s : State) (i : LineNo) : State :=
  (s.startTraining i .fax (s.line i).profile.fax.floor).planFaxStarts i

/-- The plan enters FAX_HANDOFF at the second burst (R153): a greeting stops, STOPPED its last result (log 79), the
mailbox wait ends, the fax admission is asked. -/
def State.faxHandoff (s : State) (i : LineNo) : State :=
  let p := (s.line i).profile
  let s1 := (s.closeOp i .stopped).updApc i fun a => { a with plan := .faxHandoff, mailboxDue := none }
  let r := s1.request i [.voiceBase, .voicePlay, .listener] { acts := [.faxFraming], pump := some (Conn.ask .fax (some p.fax)) } .planFax
  match r.2 with
  | some _ => r.1.planFaxGranted i
  | none => r.1

/-- The fax admission has failed: the plan goes on as a voice call without its listener (R153). -/
def State.planFaxFailed (s : State) (i : LineNo) : State :=
  let s1 := s.updApc i fun a => { a with plan := .answering }
  let r := s1.request i [] { acts := [.voiceBase], pump := none } .planVoice
  match r.2 with
  | some _ => r.1.mailboxStep i
  | none => r.1

end Sys2Proof.Machine
end

