-- ==== Sys2Proof/Machine/Settle.lean ====
section
/-! DEFINITION. The hand-out of released units (R60 to R63) with what each requester does at a grant or a failure
(R61), and the frame of a step: what happens to a running part. -/

namespace Sys2Proof.Machine

open Sys2Proof

/-- What the requester of a granted admission does (R24, R26, R138, R151, R153, R155). -/
def State.grantTo (s : State) (i : LineNo) (r : Requester) : State :=
  match r with
  | .ccConnection => s.enterConnected i
  | .vcHost | .planRecord => s.opGranted i
  | .planAnswer => s.planAnswered i
  | .planFax => s.planFaxGranted i
  | .planVoice => s.mailboxStep i

/-- A grant at a hand-out (R60): the admission leaves the list, its units are added, the requester is told. -/
def State.grant (s : State) (p : Pending) (acts : List Activity) : State :=
  ((s.dropPending p.line).addActs p.line acts).grantTo p.line p.requester

/-- A voice operation's pending admission fails (R138, R145): NO_CAPACITY, or STOPPED where a stop was requested. -/
def State.opFails (s : State) (i : LineNo) : State :=
  match (s.line i).vc.op with
  | some o => s.finishOp i (if o.stopReq then .stopped else .noCapacity)
  | none => s

/-- The record admission of a plan has failed (R155, R158): the empty entry is closed and deleted; a plan still in
RECORDING ends NOT_RECORDED. -/
def State.planRecordFails (s : State) (i : LineNo) : State :=
  match (s.line i).vc.op with
  | none => s
  | some o =>
    let s1 := (s.opFails i).dropMessage o.id
    if (s.line i).apc.plan = .recording then s1.planNotRecorded i else s1

/-- What the requester of a failed admission does (table of R61). -/
def State.failTo (s : State) (i : LineNo) (r : Requester) : State :=
  match r with
  | .ccConnection => s.raiseCause i .noCapacity
  | .vcHost => s.opFails i
  | .planAnswer | .planVoice => s.planNotRecorded i
  | .planFax => s.planFaxFailed i
  | .planRecord => s.planRecordFails i

/-- No release waits for its hand-out. -/
def State.settled (s : State) : State := { s with bm := { s.bm with due := false, offer := false } }

/-- The end of a hand-out (R60, R62): a reclaim is considered, and released units are offered to the call queue. -/
def State.handOutEnds (s : State) : State :=
  let s1 := s.considerReclaim
  (if s.bm.offer then s1.walkQueue else s1).settled

/-- Hands out released units (R60): the head of the pending list is granted while it fits, and each grant is followed
by the walk from the new head. -/
def settleN : Nat → State → State
  | 0, s => s.settled
  | n + 1, s =>
    if s.bm.due then
      match s.pendingHead with
      | none => s.handOutEnds
      | some p =>
        match p.ask.fit s.free with
        | none => s.handOutEnds
        | some acts => settleN n (s.grant p acts)
    else s.settled

/-- The hand-outs of a step (log 16). Four lines have at most one pending admission each, and one line's admissions
follow one another only along its plan, so 32 rounds are more than a step can need. -/
def State.settle (s : State) : State := settleN 32 s

/-- What an event does on a running part: its effect, and then the hand-out of the units it released. An event that
reaches a part held in reset or loading changes nothing (log 3). -/
def react (s : State) (f : State → State) : Host.Outcome State Fault Refusal :=
  .next (if s.phase = .running then (f s).settle else s)

/-- The answer to a request: the state after it, the reply status and the reply's fields (R165, R166). -/
structure Answer where
  state : State
  status : Status
  fields : List Byte := []

/-- A refusal leaves the state as it is, and its reply carries no fields (R162). -/
def refuse (s : State) (st : Status) : Answer := { state := s, status := st }

/-- A reply OK with fields. -/
def okWith (s : State) (f : List Byte) : Answer := { state := s, status := .ok, fields := f }

/-- A request that names a line: refused BAD_ARGUMENT outside lines 0 to 3. -/
def onLine (s : State) (line : Nat) (f : LineNo → Answer) : Answer :=
  match lineOf line with
  | some i => f i
  | none => refuse s .badArgument

end Sys2Proof.Machine
end

