-- ==== Sys2Proof/Machine/CallOps.lean ====
section
/-! DEFINITION. Rings (R25), dial lists (R21, R22), call progress (R23, R24) and caller identification (R27 to R29, R50,
R51). -/

namespace Sys2Proof.Machine

open Sys2Proof

/-! ## Rings -/

/-- The Call Controller enters RINGING (R25, R149): ordinal and counters rise, the plan takes the ordinal and the mode. -/
def State.enterRinging (s : State) (i : LineNo) : State :=
  let n := (s.ct.ordinal + 1) % 4294967296
  let mode := (s.lineSettings i).profile.mode
  let s1 := (({ s with ct := { s.ct with ordinal := n } }).updCc i fun c => { c with
    state := .ringing, origin := some .incoming, outcome := .none, caller := none, ignore := false
    connectAt := none, causes := [] }).updTu i fun t => { t with digits := [] }
  let s2 := s1.updApc i fun a => { a with
    ordinal := some n, callerClass := none, mode := mode
    plan := if mode = .off then .inactive else .waitRings, handedOver := false }
  s2.updCnt i fun k => { k with callsIn := satAdd k.callsIn 1 }

/-- A ring handed to the Call Controller (R25): IDLE goes to RINGING, RING is raised, the plan decides (R150). -/
def State.ring (s : State) (i : LineNo) : State :=
  let s1 := if (s.line i).cc.state = .idle then s.enterRinging i else s
  (s1.raise .ring i).answerDecision i

/-- A ring heard off-hook in SEIZED (R20, R46): GLARE; the released units are handed out before the group call's record
returns to the queue. -/
def State.glare (s : State) (i : LineNo) : State :=
  if (s.line i).cc.state = .seized then ((s.progressFails i .glare).settle).glareReturn i else s

/-- A RINGING line is abandoned (R25, R149): ABANDONED, CALL, IDLE, and the dispatch event of the line (R43). -/
def State.abandoned (s : State) (i : LineNo) : State :=
  if (s.line i).cc.state = .ringing then
    let s1 := (s.closeClid i).updCc i fun c => { c with outcome := .abandoned }
    let s2 := (s1.raise .call i).updApc i fun a => { a with plan := .inactive }
    (s2.toIdle i).lineEvent i
  else s

/-! ## Dialling -/

/-- The Call Controller enters PROGRESS from DIALLING (R22, R23). -/
def State.enterProgress (s : State) (i : LineNo) : State :=
  let wait := clamp 10 90 (s.lineSettings i).answerWait
  if (s.line i).cc.state ≠ .dialling then s
  else (s.updCc i fun c => { c with
    state := .progress, elem := .none, answerDue := some (s.now + wait * 1000), busyCycles := 0
    ringbackHeard := false, ringbackDue := none, ringbackHeld := false, speechRun := 0 }).updTu i Tu.cpStops

/-- Breaks of a pulse digit (R4). -/
def breaksOf (d : Fin 10) : Nat := if d = 0 then 10 else d.val

/-- Begins one element of a dial list; absent where it ends at once (R22). -/
def State.beginElem (s : State) (i : LineNo) (e : DialElem) : State × Bool :=
  let stage (t : State) (g : ElemStage) : State × Bool := (t.updCc i fun c => { c with elem := g }, true)
  match e with
  | .method m => (s.updCc i fun c => { c with method := m }, false)
  | .pause n => stage s (.pause (s.now + n * 100))
  | .awaitTone => stage s (.await (s.now + 5000))
  | .flash =>
    let r := s.flashOrder i
    if r.2 then stage r.1 .flash else (r.1, false)
  | .digit d =>
    match (s.line i).cc.method, d with
    | .pulse, .num n =>
      let r := s.breakOrder i (breaksOf n)
      if r.2 then stage r.1 .breaks else (r.1, false)
    | .pulse, _ => (s, false)
    | .tone, _ => stage s (.toneDigit (s.now + 160))

/-- Carries the rest of a dial list on until an element takes time; after the last comes PROGRESS (R22). -/
def State.dialFrom (s : State) (i : LineNo) : List DialElem → State
  | [] => s.enterProgress i
  | e :: r =>
    let b := s.beginElem i e
    if b.2 then b.1 else (b.1.updCc i fun c => { c with pos := c.pos + 1 }).dialFrom i r

/-- The element being carried out ends, and the next begins (R22). -/
def State.elemEnds (s : State) (i : LineNo) : State :=
  let s1 := s.updCc i fun c => { c with pos := c.pos + 1, elem := .none }
  s1.dialFrom i ((s1.line i).cc.dial.drop (s1.line i).cc.pos)

/-- Dial tone ends SEIZED into DIALLING with the first element (R20); the record ASSIGNED to the line is freed (R42). -/
def State.beginDialling (s : State) (i : LineNo) : State :=
  let s1 := (s.updCc i fun c => { c with state := .dialling, dialToneDue := none, pos := 0 }).freeAssigned i
  s1.dialFrom i (s1.line i).cc.dial

/-! ## Call progress (R23, R24) -/

/-- Progress events are taken: PROGRESS with no pending admission (R24). -/
def State.listening (s : State) (i : LineNo) : Bool := (s.line i).cc.state == .progress && !s.hasPending i

/-- The plan's or the host's recording in RECORDING, where far-end busy tone is classed (R144). -/
def Line.recording (l : Line) : Bool :=
  match l.vc.op with
  | some o => o.phase == .recording
  | none => false

/-- The call-progress tone detector runs: in PROGRESS, and in a connected voice call (R23, R24, R144). -/
def State.toneWatched (s : State) (i : LineNo) : Bool :=
  s.listening i || ((s.line i).cc.state == .connected && (s.line i).holds .voiceBase)

/-- PROGRESS is decided CONNECTED (R24): wait and detectors stop, the connection admission is asked. -/
def State.progressConnects (s : State) (i : LineNo) : State :=
  ((s.updCc i fun c => { c with
    outcome := .connected, answerDue := none, ringbackDue := none, ringbackHeld := false }).updTu i
    Tu.cpStops).askConnection i

/-- The busy cycle count returns to 0; the busy start of a recording becomes absent (R23, R144). -/
def State.noBusy (s : State) (i : LineNo) : State :=
  (s.updCc i fun c => { c with busyCycles := 0 }).updVc i fun v => { v with
    op := v.op.map fun o => { o with busyStart := none } }

/-- The third busy cycle of a recording (R144): trimmed to the busy start, ended HANGUP. One that a digit has already
ended, and that only writes out its frame, is no operation to it. -/
def State.busyHangup (s : State) (i : LineNo) : State :=
  match (s.line i).vc.op with
  | none => s
  | some o =>
    if o.digitStop then s
    else ((s.trim o.id (o.busyStart.getD o.startLen)).updCc i fun c => { c with busyCycles := 0 }).opEnds i .hangup

/-- One busy cycle is classed (R23, R24, R144). -/
def State.busyCycle (s : State) (i : LineNo) : State :=
  let n := (s.line i).cc.busyCycles + 1
  if s.listening i then
    if 3 ≤ n then s.progressFails i .busy else s.updCc i fun c => { c with busyCycles := n }
  else if (s.line i).recording then
    if 3 ≤ n then s.busyHangup i else s.updCc i fun c => { c with busyCycles := n }
  else s

/-- The start of a tone in a recording whose cycle count is 0 marks the busy start: the used length at the start of the
frame, two samples of it to a byte written since (R144). -/
def State.markBusyStart (s : State) (i : LineNo) : State :=
  match (s.line i).vc.op with
  | some o =>
    if o.phase = .recording ∧ (s.line i).cc.busyCycles = 0 then
      let used := match s.stc.entry o.id with
        | some e => e.used - o.frameFill / 2
        | none => o.startLen
      s.updVc i fun v => { v with op := some { o with busyStart := some used } }
    else s
  | none => s

/-- A tone starts (R23): the detector marks it, for the frame in progress too, and a running ringback-absence timer is
held. -/
def State.toneStarts (s : State) (i : LineNo) : State :=
  let s1 := (s.updTu i fun t => { t with cp := .tone s.now, toneInFrame := true }).updCc i fun c => { c with
    ringbackHeld := c.ringbackHeld || c.ringbackDue.isSome, ringbackDue := none }
  s1.markBusyStart i

/-- A held ringback-absence timer restarts from the end of the tone (R23). -/
def State.toneEnded (s : State) (i : LineNo) (cp : CpTone) : State :=
  (s.updTu i fun t => { t with cp := cp }).updCc i fun c => { c with
    ringbackDue := if c.ringbackHeld then some (s.now + 6000) else c.ringbackDue, ringbackHeld := false }

/-- Ringback is classed at the end of its tone (R23). -/
def State.ringback (s : State) (i : LineNo) : State :=
  let s1 := (s.toneEnded i .quiet).noBusy i
  if s.listening i then
    s1.updCc i fun c => { c with ringbackHeard := true, ringbackDue := some (s.now + 6000) }
  else s1

/-- The level of a frame: the sum of the absolute values of its samples over 80 (R23, R143). -/
def frameLevel (l : List Int) : Nat := (l.map Int.natAbs).sum / 80

/-- The speech threshold in use (R23). -/
def State.speechThreshold (s : State) : Nat := min 2047 s.sl.live.part.speech

/-! ## Caller identification (R27 to R29, R50, R51) -/

/-- What a caller message's parameters have given so far. -/
structure ClidRead where
  number : Option (List Byte) := none
  name : Option (List Byte) := none
  withheld : Bool := false
  deriving DecidableEq, Repr

/-- Reads the parameters (R28); absent where they overrun the length or hold a character that is not allowed. `fuel`
bounds the number of parameters by the number of bytes. -/
def readParams : Nat → List Byte → ClidRead → Option ClidRead
  | _, [], r => some r
  | 0, _ :: _, _ => none
  | _ + 1, [_], _ => none
  | n + 1, k :: len :: rest, r =>
    if rest.length < len.toNat then none
    else
      let c := rest.take len.toNat
      let more := rest.drop len.toNat
      if k = 2 ∧ r.number = none then
        if c.all isDigit then readParams n more { r with number := some c } else none
      else if k = 7 ∧ r.name = none then
        if c.all isPrintable then readParams n more { r with name := some c } else none
      else if k = 4 then readParams n more { r with withheld := true }
      else readParams n more r

/-- What a complete message is (R28): bad, of another kind, or a caller record. -/
inductive ClidMessage where
  | bad
  | other
  | caller (c : Caller)
  deriving DecidableEq, Repr

/-- The caller record from what was read (R28). -/
def ClidRead.caller (r : ClidRead) : Caller :=
  { number := if r.withheld then none
      else match r.number with
        | some (d :: ds) => some ((d :: ds).take 20)
        | _ => none
    name := r.name.map fun n => n.take 15 }

/-- Judges a complete message (R28). -/
def judgeClid (b : List Byte) : ClidMessage :=
  if byteSum b % 256 ≠ 0 then .bad
  else
    match b with
    | k :: p :: rest =>
      if k ≠ 128 then .other
      else if rest.length ≠ p.toNat + 1 then .bad
      else
        match readParams rest.length (rest.take p.toNat) {} with
        | some r => .caller r.caller
        | none => .bad
    | _ => .bad

/-- The age of an entry against the present call ordinal (R50). -/
def Ct.age (t : Ct) (e : CtEntry) : Nat := (t.ordinal + 4294967296 - e.lastOrdinal) % 4294967296

/-- The position of a number. -/
def Ct.find (t : Ct) (n : List Byte) : Option Nat := t.table.findIdx? fun e => match e with
  | some x => x.number == n
  | none => false

/-- The LEARNED entries with their positions, in position order. -/
def Ct.learned (t : Ct) : List (Nat × Nat) :=
  t.table.zipIdx.filterMap fun x => match x.1 with
    | some e => if e.cls = .learned then some (x.2, t.age e) else none
    | none => none

/-- The position of the oldest LEARNED entry, the lowest of equal ages (R50). -/
def Ct.oldest (t : Ct) : Option Nat :=
  (t.learned.foldl (fun best x => match best with
    | none => some x
    | some b => if b.2 < x.2 then some x else some b) none).map (·.1)

/-- The position a new number takes: the lowest free one, else that of the oldest LEARNED entry (R50, R52). -/
def Ct.place (t : Ct) : Option Nat :=
  match t.table.findIdx? (·.isNone) with
  | some k => some k
  | none => t.oldest

/-- Writes a position. -/
def Ct.put (t : Ct) (k : Nat) (e : Option CtEntry) : Ct := { t with table := t.table.set k e }

/-- The Caller Table's lookup of a number (R50): the table after it, the class given, whether learning was dropped. The
ordinal written is the part-wide count as it stands at the lookup (log 91). -/
def Ct.lookup (t : Ct) (n : List Byte) : Ct × CallerClass × Bool :=
  match t.find n with
  | some k =>
    match (t.table[k]?).join with
    | some e => (t.put k (some { e with count := min 255 (e.count + 1), lastOrdinal := t.ordinal }), e.cls, false)
    | none => (t, .unknown, false)
  | none =>
    match t.place with
    | some k =>
      (t.put k (some { number := n, cls := .learned, count := 1, lastOrdinal := t.ordinal, label := none }),
        .learned, false)
    | none => (t, .unknown, true)

/-- A good caller record (R29, R50, R51): stored, looked up, CLID raised, a PRIORITY caller's precedence raised, and the
plan's decision taken. A second good record of one call replaces record and class and keeps a raise (log 71). -/
def State.callerKnown (s : State) (i : LineNo) (c : Caller) : State :=
  let r : Ct × CallerClass × Bool := match c.number with
    | some n => s.ct.lookup n
    | none => (s.ct, .unknown, false)
  let s1 : State := { s with
    ct := r.1
    cnt := { s.cnt with learningDropped := if r.2.2 then satAdd s.cnt.learningDropped 1 else s.cnt.learningDropped } }
  let s2 := (s1.updCc i fun x => { x with caller := some c }).updApc i fun a => { a with callerClass := some r.2.1 }
  let s3 := s2.upd i fun l => { l with precRaised := l.precRaised || r.2.1 == .priority }
  (s3.raise .clid i).answerDecision i

/-- A caller record failing its check is counted (R27, R28). -/
def State.countClidBad (s : State) : State := { s with cnt := { s.cnt with clidBad := satAdd s.cnt.clidBad 1 } }

/-- A complete message in an open window (R28). One that is counted or ignored leaves an earlier record of the call, and its
class, as they are (log 92). -/
def State.clidMessage (s : State) (i : LineNo) (b : List Byte) : State :=
  match (s.line i).tu.clid with
  | none => s
  | some w =>
    let s1 := s.updTu i fun t => { t with clid := some { w with begun := false } }
    match judgeClid b with
    | .bad => s1.countClidBad
    | .other => s1
    | .caller c => s1.callerKnown i c

/-- The window opens at the end of the first burst in RINGING where its units are free (R27). -/
def State.openClid (s : State) (i : LineNo) : State :=
  if (s.line i).cc.state = .ringing ∧ Activity.clid.cost ≤ s.free then
    (s.addActs i [.clid]).updTu i fun t => { t with clid := some { due := s.now + 4000 } }
  else s

end Sys2Proof.Machine
end

