-- ==== Sys2Proof/Machine/Line.lean ====
section
/-! DEFINITION. Meanings of the line interface commands (chapter 1). -/

namespace Sys2Proof.Machine

open Sys2Proof

/-! ## Hook control -/

/-- The flash ends (R3): OFF_HOOK, 200 ms of blanking, flash complete; a FLASH element ends (R22). -/
def State.flashDone (s : State) (i : LineNo) : State :=
  let s1 := s.updLif i fun l => { l with hook := .offHook, flashDue := none, blankDue := some (s.now + 200) }
  if (s.line i).cc.elem = .flash then s1.elemEnds i else s1

/-- FLASH_COMPLETE (R3). -/
def execFlashComplete (i : LineNo) (s : State) : Host.Outcome State Fault Refusal :=
  react s fun s => onExpiry (s.line i).lif.flashDue s fun s => s.flashDone i

/-- A break ends (R4): the make begins, the breaks remaining fall by one, the blanking restarts. -/
def State.breakDone (s : State) (i : LineNo) : State :=
  s.updLif i fun l => { l with
    hook := .offHook, breakDue := none, breaksLeft := l.breaksLeft - 1, makeDue := some (s.now + 40)
    blankDue := some (s.now + 200) }

/-- BREAK_END (R4). -/
def execBreakEnd (i : LineNo) (s : State) : Host.Outcome State Fault Refusal :=
  react s fun s => onExpiry (s.line i).lif.breakDue s fun s => s.breakDone i

/-- A make ends (R4): the next break begins, or the train is complete and the 700 ms pause starts (R22). -/
def State.makeDone (s : State) (i : LineNo) : State :=
  if 0 < (s.line i).lif.breaksLeft then
    s.updLif i fun l => { l with
      hook := .breaking, makeDue := none, breakDue := some (s.now + 60), loop := .blanked, absenceDue := none }
  else
    let s1 := s.updLif i fun l => { l with makeDue := none }
    if (s.line i).cc.elem = .breaks then s1.updCc i fun c => { c with elem := .pulsePause (s.now + 700) } else s1

/-- MAKE_END (R4). -/
def execMakeEnd (i : LineNo) (s : State) : Host.Outcome State Fault Refusal :=
  react s fun s => onExpiry (s.line i).lif.makeDue s fun s => s.makeDone i

/-! ## Ring detector -/

/-- The burst minimum in use (R5). -/
def State.burstMinimum (s : State) : Nat := clamp 100 500 s.sl.live.part.burstMin

/-- The abandonment timer held (R7). -/
def Abandon.hold (a : Abandon) (now : Nat) : Abandon :=
  match a with
  | .running d => .held (d - now)
  | .stopped => .stopped
  | .held n => .held n

/-- The abandonment timer resumed (R7). -/
def Abandon.resume (a : Abandon) (now : Nat) : Abandon :=
  match a with
  | .held n => .running (now + n)
  | .stopped => .stopped
  | .running d => .running d

/-- Ring voltage appears at a QUIET detector (R5, R7, R27). -/
def State.ringOnset (s : State) (i : LineNo) : State :=
  let m := s.burstMinimum
  (s.updLif i fun l => { l with
    ring := .candidate, burstDue := some (s.now + m), burstCounted := false, firstBurst := false
    abandon := l.abandon.hold s.now }).closeClid i

/-- RING_VOLTAGE_ONSET (R5). -/
def execRingVoltageOnset (i : LineNo) (s : State) : Host.Outcome State Fault Refusal :=
  react s fun s => if (s.line i).lif.ring = .quiet then s.ringOnset i else s

/-- A burst is counted as a ring (R6, first case): ON_HOOK in IDLE or RINGING. -/
def State.burstCounts (s : State) (i : LineNo) : Bool :=
  (s.line i).lif.hook == .onHook && ((s.line i).cc.state == .idle || (s.line i).cc.state == .ringing)

/-- A burst qualifies (R6, R8, R13): counted and handed on as a ring, handed on as a ring heard off-hook, or neither;
in every case a good supervision result (log 14). -/
def State.burst (s : State) (i : LineNo) : State :=
  let s1 := s.updLif i fun l => { l with ring := .burst, burstDue := none }
  let s2 :=
    if s.burstCounts i then
      (s1.updLif i fun l => { l with
        ringCount := min 255 (l.ringCount + 1), abandon := .stopped, burstCounted := true
        firstBurst := (s.line i).cc.state == .idle }).ring i
    else if (s.line i).lif.hook = .onHook then s1
    else s1.glare i
  s2.superviseLine i true

/-- BURST_QUALIFIED (R6). -/
def execBurstQualified (i : LineNo) (s : State) : Host.Outcome State Fault Refusal :=
  react s fun s => onExpiry (s.line i).lif.burstDue s fun s => s.burst i

/-- A measurement of the line voltage is applied (R12, R13). -/
def State.measure (s : State) (i : LineNo) (volts : Nat) : State :=
  s.superviseLine i (decide (s.threshold ≤ volts))

/-- Ring voltage ends before the burst minimum (R5, R7, R12). -/
def State.candidateEnds (s : State) (i : LineNo) (volts : Nat) : State :=
  let s1 := s.updLif i fun l => { l with
    ring := .quiet, burstDue := none, abandon := l.abandon.resume s.now, deferred := false }
  if (s.line i).lif.deferred then s1.measure i volts else s1

/-- A qualified burst ends (R5, R7, R12, R27): the abandonment timer of a counted burst starts while the line has stayed
ON_HOOK outside CLEARING (log 31); the caller-identification window opens after the first burst. A check deferred while
the detector was already in BURST is dropped with nothing measured, and the interval timer stays stopped (log 69). -/
def State.burstEnds (s : State) (i : LineNo) : State :=
  let l := (s.line i).lif
  let s1 := s.updLif i fun l => { l with
    ring := .quiet, deferred := false, firstBurst := false, burstCounted := false
    abandon := if l.burstCounted ∧ s.burstCounts i then .running (s.now + 8000) else l.abandon }
  if l.firstBurst then s1.openClid i else s1

/-- RING_VOLTAGE_END (R5). -/
def execRingVoltageEnd (i : LineNo) (volts : Nat) (s : State) : Host.Outcome State Fault Refusal :=
  react s fun s =>
    match (s.line i).lif.ring with
    | .quiet => s
    | .candidate => s.candidateEnds i volts
    | .burst => s.burstEnds i

/-- The abandonment timer expires (R7, R8). -/
def State.abandonExpires (s : State) (i : LineNo) : State :=
  (s.updLif i fun l => { l with abandon := .stopped, ringCount := 0 }).abandoned i

/-- RING_ABANDONED (R7). -/
def execRingAbandoned (i : LineNo) (s : State) : Host.Outcome State Fault Refusal :=
  react s fun s =>
    match (s.line i).lif.abandon with
    | .running d => (s.reach d).abandonExpires i
    | .stopped => s
    | .held _ => s

/-! ## Loop current -/

/-- The blanking timer expires (R9): OFF_HOOK the detector takes the sensor as it stands. -/
def State.blankingDone (s : State) (i : LineNo) (current : Bool) : State :=
  s.updLif i fun l =>
    if l.hook = .offHook then
      (if current then { l with blankDue := none, loop := .present }
       else { l with blankDue := none, loop := .absent, absenceDue := some (s.now + 400) })
    else { l with blankDue := none }

/-- BLANKING_END (R9). -/
def execBlankingEnd (i : LineNo) (current : Bool) (s : State) : Host.Outcome State Fault Refusal :=
  react s fun s => onExpiry (s.line i).lif.blankDue s fun s => s.blankingDone i current

/-- LOOP_CURRENT_ABSENT (R10). -/
def execLoopCurrentAbsent (i : LineNo) (s : State) : Host.Outcome State Fault Refusal :=
  react s fun s =>
    if (s.line i).lif.loop = .present then
      s.updLif i fun l => { l with loop := .absent, absenceDue := some (s.now + 400) }
    else s

/-- LOOP_CURRENT_RETURN (R10). -/
def execLoopCurrentReturn (i : LineNo) (s : State) : Host.Outcome State Fault Refusal :=
  react s fun s =>
    if (s.line i).lif.loop = .absent ∨ (s.line i).lif.loop = .lost then
      s.updLif i fun l => { l with loop := .present, absenceDue := none }
    else s

/-- The absence timer expires (R10). -/
def State.loopLost (s : State) (i : LineNo) : State :=
  (s.updLif i fun l => { l with loop := .lost, absenceDue := none }).raiseCause i .loopLost

/-- LOOP_LOST (R10). -/
def execLoopLost (i : LineNo) (s : State) : Host.Outcome State Fault Refusal :=
  react s fun s => onExpiry (s.line i).lif.absenceDue s fun s => s.loopLost i

/-! ## Supervision -/

/-- The interval timer expires (R12): a measurement, or a deferred check while ring voltage is present. -/
def State.checkLine (s : State) (i : LineNo) (volts : Nat) : State :=
  let s1 := s.updLif i fun l => { l with intervalDue := none }
  if (s.line i).lif.ring = .quiet then s1.measure i volts else s1.updLif i fun l => { l with deferred := true }

/-- SUPERVISION_CHECK (R12). -/
def execSupervisionCheck (i : LineNo) (volts : Nat) (s : State) : Host.Outcome State Fault Refusal :=
  react s fun s => onExpiry (s.line i).lif.intervalDue s fun s => s.checkLine i volts

end Sys2Proof.Machine
end

