-- ==== Sys2Proof/Machine/Call.lean ====
section
/-! DEFINITION. Meanings of the call events (chapter 2), and how its requests are taken. -/

namespace Sys2Proof.Machine

open Sys2Proof

/-! ## Seizure and dialling (R20, R22) -/

/-- Dial tone qualifies (R20, R22): in SEIZED dialling begins, in DIALLING an AWAIT_TONE element ends. -/
def State.dialTone (s : State) (i : LineNo) : State :=
  match (s.line i).cc.state, (s.line i).cc.elem with
  | .seized, _ => s.beginDialling i
  | .dialling, .await _ => s.elemEnds i
  | _, _ => s

/-- DIAL_TONE_QUALIFIED (R20). -/
def execDialToneQualified (i : LineNo) (s : State) : Host.Outcome State Fault Refusal :=
  react s fun s => s.dialTone i

/-- The dial-tone wait expires (R20, R13): a bad supervision result, NO_DIAL_TONE. -/
def State.noDialTone (s : State) (i : LineNo) : State := (s.superviseLine i false).progressFails i .noDialTone

/-- DIAL_TONE_WAIT_EXPIRY (R20). -/
def execDialToneWaitExpiry (i : LineNo) (s : State) : Host.Outcome State Fault Refusal :=
  react s fun s => onExpiry (s.line i).cc.dialToneDue s fun s => s.noDialTone i

/-- The wait of an AWAIT_TONE element, while it runs. -/
def ElemStage.awaitDue : ElemStage → Option Nat
  | .await d => some d
  | .none | .toneDigit _ | .breaks | .pulsePause _ | .pause _ | .flash => Option.none

/-- The end of a tone digit, while one is being sent. -/
def ElemStage.digitDue : ElemStage → Option Nat
  | .toneDigit d => some d
  | .none | .await _ | .breaks | .pulsePause _ | .pause _ | .flash => Option.none

/-- The end of the pause after a pulse digit, while it runs. -/
def ElemStage.pulseDue : ElemStage → Option Nat
  | .pulsePause d => some d
  | .none | .await _ | .breaks | .toneDigit _ | .pause _ | .flash => Option.none

/-- The end of a PAUSE element, while it runs. -/
def ElemStage.pauseDue : ElemStage → Option Nat
  | .pause d => some d
  | .none | .await _ | .breaks | .toneDigit _ | .pulsePause _ | .flash => Option.none

/-- AWAIT_TONE_EXPIRY (R22). -/
def execAwaitToneExpiry (i : LineNo) (s : State) : Host.Outcome State Fault Refusal :=
  react s fun s => onExpiry (s.line i).cc.elem.awaitDue s fun s => s.progressFails i .noDialTone

/-- DTMF_DIGIT_SENT (R22). -/
def execDtmfDigitSent (i : LineNo) (s : State) : Host.Outcome State Fault Refusal :=
  react s fun s => onExpiry (s.line i).cc.elem.digitDue s fun s => s.elemEnds i

/-- INTER_DIGIT_PAUSE_END (R22). -/
def execInterDigitPauseEnd (i : LineNo) (s : State) : Host.Outcome State Fault Refusal :=
  react s fun s => onExpiry (s.line i).cc.elem.pulseDue s fun s => s.elemEnds i

/-- PAUSE_END (R22). -/
def execPauseEnd (i : LineNo) (s : State) : Host.Outcome State Fault Refusal :=
  react s fun s => onExpiry (s.line i).cc.elem.pauseDue s fun s => s.elemEnds i

/-! ## Call progress (R23, R24) -/

/-- A tone starts (R23): it ends a classed silence, one of 200 ms or more being a busy cycle, and is marked where the
detector still runs. -/
def State.cpStart (s : State) (i : LineNo) : State :=
  match (s.line i).tu.cp with
  | .quiet => s.toneStarts i
  | .silence t =>
    let s1 := (if t + 200 ≤ s.now then s.busyCycle i else s.noBusy i).updTu i fun x => { x with cp := .quiet }
    if s1.toneWatched i then s1.toneStarts i else s1
  | .tone _ => s
  | .over => s

/-- CP_TONE_START (R23). -/
def execCpToneStart (i : LineNo) (s : State) : Host.Outcome State Fault Refusal :=
  react s fun s => if s.toneWatched i then s.cpStart i else s

/-- A tone ends (R23): too short or too long, the first part of a possible busy cycle, or ringback. -/
def State.cpEnd (s : State) (i : LineNo) : State :=
  match (s.line i).tu.cp with
  | .tone t =>
    let len := s.now - t
    if len < 200 then (s.toneEnded i .quiet).noBusy i
    else if len ≤ 700 then s.toneEnded i (.silence s.now)
    else if len ≤ 2500 then s.ringback i
    else (s.toneEnded i .quiet).noBusy i
  | .over => s.toneEnded i .quiet
  | .quiet => s
  | .silence _ => s

/-- CP_TONE_END (R23). -/
def execCpToneEnd (i : LineNo) (s : State) : Host.Outcome State Fault Refusal :=
  react s fun s => if s.toneWatched i then s.cpEnd i else s

/-- When a silence reaches 700 ms, and when a tone reaches 2500 ms (R23). -/
def CpTone.silenceDue : CpTone → Option Nat
  | .silence t => some (t + 700)
  | .quiet | .tone _ | .over => Option.none

def CpTone.toneLimitDue : CpTone → Option Nat
  | .tone t => some (t + 2500)
  | .quiet | .silence _ | .over => Option.none

/-- The silence reaches 700 ms (R23): the busy cycle is classed. -/
def State.cpSilent (s : State) (i : LineNo) : State := (s.updTu i fun t => { t with cp := .quiet }).busyCycle i

/-- CP_SILENCE_LIMIT (R23). -/
def execCpSilenceLimit (i : LineNo) (s : State) : Host.Outcome State Fault Refusal :=
  react s fun s =>
    if s.toneWatched i then onExpiry (s.line i).tu.cp.silenceDue s fun s => s.cpSilent i else s

/-- CP_TONE_LIMIT (R23). -/
def execCpToneLimit (i : LineNo) (s : State) : Host.Outcome State Fault Refusal :=
  react s fun s =>
    if s.toneWatched i then
      onExpiry (s.line i).tu.cp.toneLimitDue s fun s => (s.updTu i fun t => { t with cp := .over }).noBusy i
    else s

/-- The call-progress detector reports tone. -/
def CpTone.present : CpTone → Bool
  | .tone _ => true
  | .over => true
  | .quiet => false
  | .silence _ => false

/-- The detector has reported tone in the frame that ends: at its end, or earlier in it (R23, log 70). -/
def Tu.toneHeard (t : Tu) : Bool := t.toneInFrame || t.cp.present

/-- A frame of a VOICE call in PROGRESS ends (R23, R24): it counts toward the speech run or resets it. A tone that is
still present goes on into the next frame. -/
def State.speechFrame (s : State) (i : LineNo) (samples : List Int) : State :=
  let s0 := s.updTu i fun t => { t with toneInFrame := t.cp.present }
  if s.speechThreshold ≤ frameLevel samples ∧ (s.line i).tu.toneHeard = false then
    let n := (s.line i).cc.speechRun + 1
    let s1 := s0.updCc i fun c => { c with speechRun := n }
    if 10 ≤ n then s1.progressConnects i else s1
  else s0.updCc i fun c => { c with speechRun := 0 }

/-- PROGRESS_FRAME_LEVEL (R23). -/
def execProgressFrameLevel (i : LineNo) (samples : List Int) (s : State) : Host.Outcome State Fault Refusal :=
  react s fun s =>
    if s.listening i ∧ (s.line i).cc.kind = some .voice then s.speechFrame i samples else s

/-- The kind an answer tone belongs to. -/
def answerKind : Family → CallKind
  | .data => .data
  | .fax => .fax

/-- ANSWER_TONE_DETECTED (R24): a tone of the other kind is ignored. -/
def execAnswerToneDetected (i : LineNo) (tone : Family) (s : State) : Host.Outcome State Fault Refusal :=
  react s fun s =>
    if s.listening i ∧ (s.line i).cc.kind = some (answerKind tone) then s.progressConnects i else s

/-- ANSWER_WAIT_EXPIRY (R24). -/
def execAnswerWaitExpiry (i : LineNo) (s : State) : Host.Outcome State Fault Refusal :=
  react s fun s => onExpiry (s.line i).cc.answerDue s fun s => s.progressFails i .noAnswer

/-- The ringback-absence timer expires (R24): it decides a VOICE call that has heard ringback. -/
def State.ringbackGone (s : State) (i : LineNo) : State :=
  let s1 := s.updCc i fun c => { c with ringbackDue := none }
  if (s.line i).cc.state = .progress ∧ (s.line i).cc.kind = some .voice ∧ (s.line i).cc.ringbackHeard then
    s1.progressConnects i
  else s1

/-- RINGBACK_ABSENCE_EXPIRY (R24). -/
def execRingbackAbsenceExpiry (i : LineNo) (s : State) : Host.Outcome State Fault Refusal :=
  react s fun s => onExpiry (s.line i).cc.ringbackDue s fun s => s.ringbackGone i

/-! ## Answer, caller identification, digits -/

/-- The settle of ANSWERING ends (R26, R151): the plan asks its answer admission, or the Call Controller the connection admission. -/
def State.settleDone (s : State) (i : LineNo) : State :=
  let s1 := s.updCc i fun c => { c with settleDue := none }
  if (s.line i).cc.state ≠ .answering then s1
  else if (s.line i).apc.plan = .answering ∧ (s.line i).cc.kind = some .voice then s1.planAsks i
  else s1.askConnection i

/-- SETTLE_END (R26). -/
def execSettleEnd (i : LineNo) (s : State) : Host.Outcome State Fault Refusal :=
  react s fun s => onExpiry (s.line i).cc.settleDue s fun s => s.settleDone i

/-- CLID_WINDOW_TIMEOUT (R27). -/
def execClidWindowTimeout (i : LineNo) (s : State) : Host.Outcome State Fault Refusal :=
  react s fun s => onExpiry ((s.line i).tu.clid.map (·.due)) s fun s => s.closeClid i

/-- CALLER_ID_BYTE_RECEIVED (R27). -/
def execCallerIdByteReceived (i : LineNo) (s : State) : Host.Outcome State Fault Refusal :=
  react s fun s => s.updTu i fun t => { t with clid := t.clid.map fun w => { w with begun := true } }

/-- CALLER_MESSAGE_RECEIVED (R28). -/
def execCallerMessageReceived (i : LineNo) (bytes : List Byte) (s : State) : Host.Outcome State Fault Refusal :=
  react s fun s => s.clidMessage i bytes

/-- The DTMF detector runs (R30): the voice call base is held and no digit is being sent. -/
def Line.detectsDigits (l : Line) : Bool := l.holds .voiceBase && l.tu.toneDue.isNone

/-- A declared digit is counted and offered to the digit queue (R30, R31). -/
def State.queueDigit (s : State) (i : LineNo) (d : Dtmf) : State :=
  if (s.line i).tu.digits.length < 16 then
    ((s.updTu i fun t => { t with digits := t.digits ++ [d] }).updCnt i fun k => { k with
      digits := satAdd k.digits 1 }).raise .dgts i
  else
    s.updCnt i fun k => { k with digits := satAdd k.digits 1, digitsDropped := satAdd k.digitsDropped 1 }

/-- Stop-on-digit (R144): a play ends at once, a recording at the end of the frame. -/
def State.digitStops (s : State) (i : LineNo) : State :=
  match (s.line i).vc.op with
  | none => s
  | some o =>
    if o.stopOnDigit then
      match o.phase with
      | .playing | .gap | .paused => s.opEnds i .digit
      | .recording => s.updVc i fun v => { v with op := some { o with digitStop := true } }
      | .waiting => s
    else s

/-- DTMF_DIGIT_DECLARED (R30, R31, R144, R154). -/
def execDtmfDigitDeclared (i : LineNo) (d : Dtmf) (s : State) : Host.Outcome State Fault Refusal :=
  react s fun s =>
    if (s.line i).detectsDigits then ((s.queueDigit i d).digitStops i).mailboxLook i else s

/-- One digit of a TONE sending ends (R32). -/
def State.toneDigitDone (s : State) (i : LineNo) : State :=
  s.updTu i fun t => { t with
    toneList := t.toneList.drop 1
    toneDue := if (t.toneList.drop 1).isEmpty then none else some (s.now + 160) }

/-- TONE_DIGIT_END (R32). -/
def execToneDigitEnd (i : LineNo) (s : State) : Host.Outcome State Fault Refusal :=
  react s fun s => onExpiry (s.line i).tu.toneDue s fun s => s.toneDigitDone i

/-! ## End of a call -/

/-- TX and the unacknowledged list are empty (R35, R96). -/
def Blc.drained (b : Blc) : Bool := b.tx.isEmpty && b.unacked.isEmpty

/-- DRAIN_END (R35). -/
def execDrainEnd (i : LineNo) (s : State) : Host.Outcome State Fault Refusal :=
  react s fun s =>
    if (s.line i).cc.drainDue.isSome ∧ (s.line i).blc.drained then s.startClearing i else s

/-- DRAIN_WAIT_EXPIRY (R35). -/
def execDrainWaitExpiry (i : LineNo) (s : State) : Host.Outcome State Fault Refusal :=
  react s fun s => onExpiry (s.line i).cc.drainDue s fun s => s.startClearing i

/-- The guard expires (R36, R8): IDLE, ring count 0, and the dispatch event of the line (R43). -/
def State.guardDone (s : State) (i : LineNo) : State :=
  let s1 := (s.updCc i fun c => { c with guardDue := none }).updLif i fun l => { l with ringCount := 0 }
  if (s.line i).cc.state = .clearing then (s1.toIdle i).lineEvent i else s1

/-- GUARD_EXPIRY (R36). -/
def execGuardExpiry (i : LineNo) (s : State) : Host.Outcome State Fault Refusal :=
  react s fun s => onExpiry (s.line i).cc.guardDue s fun s => s.guardDone i

/-! ## Requests -/

/-- The reply fields of CALL (R162). -/
def callFields (line entry : Option Nat) (c : Option Conn) (wait : Nat) : List Byte :=
  be1? line ++ be1? entry ++ beConn c ++ be2 wait

/-- CALL naming a line (R19). -/
def takeCall (s : State) (line kind maxc floor : Nat) (dial : List (Nat × Nat)) : Answer :=
  onLine s line fun i =>
    let m := (s.lineSettings i).dialMethod
    match CallKind.of kind, dialListOf (some m) dial with
    | some k, some d =>
      if (s.line i).lif.service = .outOfService then refuse s .outOfService
      else if (s.line i).cc.state ≠ .idle then refuse s .wrongState
      else if s.free < Activity.callProgress.cost then refuse s .noCapacity
      else
        let c := connOf k maxc floor
        { state := s.enterSeized i k d m c, status := .accepted
          fields := callFields (some i.val) none c 0 }
    | _, _ => refuse s .badArgument

/-- ANSR (R26). -/
def takeAnsr (s : State) (line kind maxc floor : Nat) : Answer :=
  onLine s line fun i =>
    match CallKind.of kind with
    | none => refuse s .badArgument
    | some k =>
      if (s.line i).cc.state = .ringing ∧ (s.line i).cc.ignore = false then
        let c := connOf k maxc floor
        let s1 := s.updApc i fun a => { a with plan := .inactive }
        okWith (s1.enterAnswering i k c) (beConn c)
      else refuse s .wrongState

/-- DIGR (R31): every digit of the queue, which is emptied. -/
def takeDigr (s : State) (line : Nat) : Answer :=
  onLine s line fun i =>
    okWith (s.updTu i fun t => { t with digits := [] })
      (beStr ((s.line i).tu.digits.map fun d => BitVec.ofNat 8 d.code))

/-- A call is CONNECTED VOICE. -/
def Cc.connectedVoice (c : Cc) : Bool := c.state == .connected && c.kind == some .voice

/-- The digits of a TONE list; absent where a character is no DTMF digit. -/
def dtmfList : List Byte → Option (List Dtmf)
  | [] => some []
  | b :: r =>
    match dtmfOf b.toNat, dtmfList r with
    | some d, some l => some (d :: l)
    | _, _ => none

/-- TONE (R32). -/
def takeTone (s : State) (line : Nat) (digits : List Byte) : Answer :=
  onLine s line fun i =>
    match dtmfList digits with
    | none => refuse s .badArgument
    | some l =>
      if l.isEmpty ∨ 32 < l.length then refuse s .badArgument
      else if (s.line i).cc.connectedVoice = false then refuse s .wrongState
      else if (s.line i).planActive ∨ (s.line i).vc.op.isSome ∨ (s.line i).tu.toneDue.isSome then refuse s .busy
      else okWith (s.updTu i fun t => { t with toneList := l, toneDue := some (s.now + 160) }) []

/-- A drain wait begins (R35): HOST_RELEASE joins the set, the wait ending at once where nothing is held. -/
def State.startDrain (s : State) (i : LineNo) : State :=
  let s1 := (s.joinCause i .hostRelease).updCc i fun c => { c with drainDue := some (s.now + 10000) }
  if (s.line i).blc.drained then s1.startClearing i else s1

/-- RELS on a line (table of R35). -/
def State.rels (s : State) (i : LineNo) (drain : Bool) : Answer :=
  let c := (s.line i).cc
  match c.state with
  | .idle | .clearing => refuse s .wrongState
  | .ringing =>
    okWith ((s.updCc i fun c => { c with ignore := true }).updApc i fun a => { a with plan := .inactive }) []
  | .answering | .seized | .dialling | .progress => okWith (s.raiseCause i .hostRelease) []
  | .connected =>
    if c.kind = some .data ∧ drain then
      okWith (if c.drainDue.isSome then s else s.startDrain i) []
    else okWith (s.raiseCause i .hostRelease) []

/-- RELS (R35). -/
def takeRels (s : State) (line drain : Nat) : Answer :=
  onLine s line fun i =>
    match flagOf drain with
    | some d => s.rels i d
    | none => refuse s .badArgument

end Sys2Proof.Machine
end

