-- ==== Sys2Proof/Machine/Group.lean ====
section
/-! DEFINITION. Meanings of the group, queue, caller table and budget events (chapters 3 and 4), and how their requests
are taken. -/

namespace Sys2Proof.Machine

open Sys2Proof

/-- A request with the part-wide line number: refused BAD_ARGUMENT with another (R166). -/
def onPart (s : State) (line : Nat) (a : Answer) : Answer := if line = 15 then a else refuse s .badArgument

/-! ## Group calls (R40 to R45) -/

/-- The lowest-numbered FREE entry record (R40, R42). -/
def State.freeRec (s : State) : Option Nat := s.gd.recs.findIdx? fun r => r.st == .free

/-- A group call is dispatched at its taking (R40, R42): to a FREE record where there is one, with record number 8
where there is none. -/
def State.dispatchNew (s : State) (c : GroupCall) (i : LineNo) : Answer :=
  let fields (k : Nat) : List Byte := callFields (some i.val) (some k) c.conn c.wait
  match s.freeRec with
  | some k =>
    { state := (s.setRec k { st := .assigned i, call := c, expiry := s.now + c.wait * 1000 }).dispatchTo c i k
      status := .accepted, fields := fields k }
  | none => { state := s.dispatchTo c i 8, status := .accepted, fields := fields 8 }

/-- A group call is queued (R40). -/
def State.queueCall (s : State) (c : GroupCall) (k : Nat) : Answer :=
  let s1 := s.setRec k { st := .queued, call := c, expiry := s.now + c.wait * 1000 }
  { state := { s1 with gd := { s1.gd with queue := s1.gd.queue ++ [k] } }
    status := .queued, fields := callFields none (some k) c.conn c.wait }

/-- A group call whose form is good, in the order of R40. -/
def State.groupCall (s : State) (c : GroupCall) : Answer :=
  if s.gd.groupState.get c.group = .empty then refuse s .noLine
  else
    match s.chooseLine c.group with
    | some i => s.dispatchNew c i
    | none =>
      if c.wait = 0 then refuse s .noLine
      else
        match s.freeRec with
        | some k => s.queueCall c k
        | none => refuse s .queueFull

/-- CALL naming a group (R40, R41). -/
def takeCallGroup (s : State) (line group kind maxc floor wait hostTag : Nat) (dial : List (Nat × Nat)) : Answer :=
  onPart s line <|
    match lineOf group, CallKind.of kind, dialListOf none dial with
    | some g, some k, some d =>
      s.groupCall
        { group := g, kind := k, dial := d, conn := connOf k maxc floor, wait := min 600 wait, tag := hostTag }
    | _, _, _ => refuse s .badArgument

/-- A queued entry reaches its expiry time (R44). -/
def State.entryExpires (s : State) (k : Nat) (r : EntryRec) : State :=
  let s1 : State := { s with gd := { s.gd with queue := s.gd.queue.filter fun x => x != k } }
  (s1.setRec k {}).recordEvent { kind := .expired, entry := k, tag := r.call.tag, line := none }

/-- QUEUE_ENTRY_EXPIRY (R44). -/
def execQueueEntryExpiry (entry : Fin 8) (s : State) : Host.Outcome State Fault Refusal :=
  react s fun s =>
    match s.queuedRec entry with
    | some r => (s.reach r.expiry).entryExpires entry r
    | none => s

/-- CNCL (R45). -/
def takeCncl (s : State) (line entry : Nat) : Answer :=
  onPart s line <|
    if 8 ≤ entry then refuse s .badArgument
    else
      match s.queuedRec entry with
      | some _ =>
        let s1 : State := { s with gd := { s.gd with queue := s.gd.queue.filter fun x => x != entry } }
        okWith (s1.setRec entry {}) []
      | none => refuse s .notFound

/-! ## Caller table (R52, R53) -/

/-- A number as CTAD takes it: 1 to 20 digits. -/
def goodNumber (n : List Byte) : Bool := !n.isEmpty && decide (n.length ≤ 20) && n.all isDigit

/-- A label as CTAD takes it: at most 12 printable characters. -/
def goodLabel (l : List Byte) : Bool := decide (l.length ≤ 12) && l.all isPrintable

/-- A label, absent where it has no characters. -/
def labelOf (l : List Byte) : Option (List Byte) := if l.isEmpty then none else some l

/-- Adds or sets an entry of good form (table of R52); absent where the table is full. -/
def Ct.addEntry (t : Ct) (n : List Byte) (c : CallerClass) (l : List Byte) : Option (Ct × Nat) :=
  match t.find n with
  | some k =>
    match (t.table[k]?).join with
    | some e => some (t.put k (some { e with cls := c, label := labelOf l }), k)
    | none => none
  | none =>
    t.place.map fun k =>
      (t.put k (some { number := n, cls := c, count := 0, lastOrdinal := 0, label := labelOf l }), k)

/-- CTAD (R52). -/
def takeCtad (s : State) (line : Nat) (number : List Byte) (cls : Nat) (label : List Byte) : Answer :=
  onPart s line <|
    match CallerClass.ofEntry cls with
    | some c =>
      if goodNumber number ∧ goodLabel label then
        match s.ct.addEntry number c label with
        | some (t, k) => okWith { s with ct := t } (be1 k)
        | none => refuse s .directoryFull
      else refuse s .badArgument
    | none => refuse s .badArgument

/-- A used position of the Caller Table. -/
def Ct.used (t : Ct) (k : Nat) : Option CtEntry := (t.table[k]?).join

/-- CTDL (R53). -/
def takeCtdl (s : State) (line position : Nat) : Answer :=
  onPart s line <|
    if Config.tableSize ≤ position then refuse s .badArgument
    else
      match s.ct.used position with
      | some _ => okWith { s with ct := s.ct.put position none } []
      | none => refuse s .notFound

/-- The used entries from a position upward, with their positions. -/
def Ct.from (t : Ct) (start : Nat) : List (Nat × CtEntry) :=
  t.table.zipIdx.filterMap fun x => match x.1 with
    | some e => if start ≤ x.2 then some (x.2, e) else none
    | none => none

/-- What follows a report of at most `n` items: the number after the last one, or the end of the table where no used
item lies beyond it (R53, R126). -/
def nextAfter {α : Type} (n stop : Nat) (l : List (Nat × α)) : Nat :=
  if l.length ≤ n then stop
  else match (l.take n).getLast? with
    | some x => x.1 + 1
    | none => stop

/-- The fields of an entry in CTRD (R162). -/
def CtEntry.bytes (k : Nat) (e : CtEntry) : List Byte :=
  be1 k ++ beStr e.number ++ be1 e.cls.code ++ be1 e.count ++ be4 e.lastOrdinal ++ beStr? e.label

/-- CTRD (R53). -/
def takeCtrd (s : State) (line start : Nat) : Answer :=
  onPart s line <|
    if Config.tableSize ≤ start then refuse s .badArgument
    else
      let l := s.ct.from start
      okWith s (be4 s.ct.ordinal ++ be1 (l.take 8).length ++ ((l.take 8).flatMap fun x => CtEntry.bytes x.1 x.2)
        ++ be1 (nextAfter 8 Config.tableSize l))

/-! ## Budget (R61, R65) -/

/-- A pending admission fails (R61): it leaves the list, its requester acts, and a made-for line becomes absent. -/
def State.pendingFails (s : State) (p : Pending) : State :=
  ((s.reach p.due).dropPending p.line).failTo p.line p.requester

/-- PENDING_TIMER_EXPIRY (R61). -/
def execPendingTimerExpiry (i : LineNo) (s : State) : Host.Outcome State Fault Refusal :=
  react s fun s =>
    match s.bm.plist.find? fun p => p.line == i with
    | some p => s.pendingFails p
    | none => s

/-- The fields of BUDG (R65, R162). -/
def State.budgFields (s : State) : List Byte :=
  let head := be1 Config.capacity ++ be1 s.free
    ++ (lineNos.flatMap fun i => be1 (s.holding i) ++ be1 (s.precedence i))
  let pend := be1 s.handOutOrder.length
    ++ (s.handOutOrder.flatMap fun p => be1 p.line.val ++ be1 p.requirement ++ be2 (min 2000 (s.now - p.joined)))
  let recl := match s.bm.reclaim with
    | some r => be1 r.victim.val ++ be1 r.clsAt.code ++ be1? (r.madeFor.map (·.val)) ++ be4 (s.now - r.time)
    | none => be1 255 ++ be1 255 ++ be1 255 ++ be4 0
  head ++ pend ++ recl

/-- BUDG (R65). -/
def takeBudg (s : State) (line : Nat) : Answer := onPart s line (okWith s s.budgFields)

end Sys2Proof.Machine
end

