-- ==== Sys2Proof/Machine/Pump.lean ====
section
/-! DEFINITION. Meanings of the data pump events (chapter 5). -/

namespace Sys2Proof.Machine

open Sys2Proof

/-- A quality reading in its range (R69). -/
def clampQuality (q : Int) : Nat := (max 0 (min 100 q)).toNat

/-- A training reading (R70). -/
def Dp.addTraining (d : Dp) (q : Nat) : Dp := { d with trainSum := d.trainSum + q, trainCount := d.trainCount + 1 }

/-- A reading in a training of a data call (R70). -/
def State.dataTrainingReading (s : State) (i : LineNo) (q : Nat) : State :=
  if (s.line i).dp.trainCount < 150 then
    let s1 := s.updDp i fun d => d.addTraining q
    if 150 ≤ (s1.line i).dp.trainCount then s1.trainingRead i else s1
  else s

/-- A receive job is in a training check (R104). -/
def Line.receiveChecks (l : Line) : Bool :=
  match l.runningJob with
  | some j => j.dir == some .receive && j.phase == .train
  | none => false

/-- A reading in a training check of a receive job (R79). -/
def State.faxTrainingReading (s : State) (i : LineNo) (q : Nat) : State :=
  if (s.line i).receiveChecks ∧ (s.line i).dp.trainCount < 150 then
    let s1 := s.updDp i fun d => d.addTraining q
    if 150 ≤ (s1.line i).dp.trainCount then s1.faxCheckRead i else s1
  else s

/-- The stable run after a RUNNING frame of either family: 1000 frames clear the retrain count (R72). -/
def Dp.countStable (d : Dp) : Dp :=
  if d.stableRun + 1 < 1000 then { d with stableRun := d.stableRun + 1 } else { d with stableRun := 0, retrainCount := 0 }

/-- A running reading's effect on the accumulator and the stable run (R69, R72, log 18). -/
def Dp.readRunning (d : Dp) (q : Nat) : Dp := { d.countStable with acc := d.acc - d.acc / 8 + q }

/-- A run counter after a frame in which its condition holds or fails (R72). -/
def runAfter (n : Nat) (b : Bool) : Nat := if b then n + 1 else 0

/-- The fallback condition (R72). -/
def Dp.belowHold (d : Dp) : Bool :=
  match d.cur with
  | some c => decide (d.acc / 8 < c.hold) && decide (1 < c.idx)
  | none => false

/-- The class a fall-forward would reach where its condition holds (R72). -/
def Dp.forwardTo (d : Dp) : Option Cls :=
  match d.cur.bind Cls.next?, d.agreedMax with
  | some n, some m => if n.entry + 4 ≤ d.acc / 8 ∧ n.idx ≤ m.idx then some n else none
  | _, _ => none

/-- The three run counters after a frame (R72). -/
def Dp.countRuns (d : Dp) (q : Nat) : Dp :=
  { d with
    lossRun := runAfter d.lossRun (decide (q < 8)), belowRun := runAfter d.belowRun d.belowHold
    fwdRun := runAfter d.fwdRun d.forwardTo.isSome }

/-- The three tests of a data pump in order: the first that is met acts (R72). -/
def State.runningTests (s : State) (i : LineNo) : State :=
  let d := (s.line i).dp
  if 50 ≤ d.lossRun then s.enterRetraining i
  else if 20 ≤ d.belowRun then
    match d.cur with
    | some c => s.enterRateChange i false c.below
    | none => s
  else if 300 ≤ d.fwdRun then
    match d.cur, d.forwardTo with
    | some c, some n => (s.askForward i c n).1
    | _, _ => s
  else s

/-- The end of a frame in RUNNING with its reading (R69, R72, R79). A fax pump that is sending a round takes no reading, and
its frame is counted in the stable run alone (log 90). -/
def State.runningReading (s : State) (i : LineNo) (q : Nat) : State :=
  let s1 := s.updDp i fun d => d.readRunning q
  if (s.line i).dp.family = some .data then (s1.updDp i fun d => d.countRuns q).runningTests i
  else if (s.line i).sendsRound then s.updDp i Dp.countStable else s1

/-- QUALITY_READING (R69). -/
def execQualityReading (i : LineNo) (q : Int) (s : State) : Host.Outcome State Fault Refusal :=
  react s fun s =>
    match (s.line i).dp.pump, (s.line i).dp.family with
    | .training, some .data => s.dataTrainingReading i (clampQuality q)
    | .retraining, some .data => s.dataTrainingReading i (clampQuality q)
    | .training, some .fax => s.faxTrainingReading i (clampQuality q)
    | .retraining, some .fax => s.faxTrainingReading i (clampQuality q)
    | .running, _ => s.runningReading i (clampQuality q)
    | _, _ => s

/-- A training of a data call is in progress. -/
def Dp.dataTraining (d : Dp) : Bool := d.family == some .data && (d.pump == .training || d.pump == .retraining)

/-- The remote's offer is kept, and completes a training that waits for it (R70). -/
def State.takeOffer (s : State) (i : LineNo) (c : Cls) : State :=
  let s1 := s.updDp i fun d => { d with offer := some (Cls.ofIdx .data c.idx) }
  if (s.line i).dp.pick.isSome then s1.completeTraining i else s1

/-- REMOTE_OFFER_RECEIVED (R70). -/
def execRemoteOfferReceived (i : LineNo) (c : Cls) (s : State) : Host.Outcome State Fault Refusal :=
  react s fun s => if (s.line i).dp.dataTraining then s.takeOffer i c else s

/-- OFFER_WAIT_EXPIRY (R70). -/
def execOfferWaitExpiry (i : LineNo) (s : State) : Host.Outcome State Fault Refusal :=
  react s fun s => onExpiry (s.line i).dp.offerDue s fun s => s.trainingFails i

/-! ## Rate changes (R74) -/

/-- The moment the exchange of a rate change began, while one is in progress. -/
def Dp.exchange (d : Dp) : Option Nat := d.rc.bind (·.begun)

/-- The remote has confirmed the rate change. -/
def Dp.confirmed (d : Dp) : Bool :=
  match d.rc with
  | some r => r.confirmed
  | none => false

/-- The remote's confirmation (R74). -/
def State.confirm (s : State) (i : LineNo) (begun : Nat) : State :=
  let s1 := s.updDp i fun d => { d with rc := d.rc.map fun r => { r with confirmed := true } }
  if begun + 250 ≤ s.now then s1.completeRateChange i else s1

/-- RATE_CHANGE_CONFIRMATION (R74). -/
def execRateChangeConfirmation (i : LineNo) (s : State) : Host.Outcome State Fault Refusal :=
  react s fun s =>
    match (s.line i).dp.exchange with
    | some b => s.confirm i b
    | none => s

/-- RATE_CHANGE_RESYNC_END (R74). -/
def execRateChangeResyncEnd (i : LineNo) (s : State) : Host.Outcome State Fault Refusal :=
  react s fun s =>
    onExpiry ((s.line i).dp.exchange.map (· + 250)) s fun s =>
      if (s.line i).dp.confirmed then s.completeRateChange i else s

/-- RATE_CHANGE_CONFIRMATION_TIMEOUT (R74). -/
def execRateChangeConfirmationTimeout (i : LineNo) (s : State) : Host.Outcome State Fault Refusal :=
  react s fun s =>
    if (s.line i).dp.confirmed then s
    else onExpiry ((s.line i).dp.exchange.map (· + 1000)) s fun s => s.enterRetraining i

/-! ## The remote's requests (R78) -/

/-- A request is declined to the remote. -/
def State.decline (s : State) (i : LineNo) : State := s.updDp i fun d => { d with signal := some .declined }

/-- The next class up, where the agreed maximum allows it (R78). -/
def Dp.mayRise (d : Dp) (c : Cls) : Bool :=
  match d.cur.bind Cls.next?, d.agreedMax with
  | some n, some m => n == c && decide (c.idx ≤ m.idx)
  | _, _ => false

/-- A remote rate request in RUNNING (table of R78). -/
def State.remoteRate (s : State) (i : LineNo) (c cur : Cls) : State :=
  if c.idx < cur.idx then s.enterRateChange i false c
  else if (s.line i).dp.mayRise c then
    let r := s.askForward i cur c
    if r.2 then r.1 else r.1.decline i
  else s.decline i

/-- REMOTE_RATE_REQUEST (R78). -/
def execRemoteRateRequest (i : LineNo) (c : Cls) (s : State) : Host.Outcome State Fault Refusal :=
  react s fun s =>
    let d := (s.line i).dp
    match d.family, d.pump, d.cur with
    | some .data, .running, some cur => s.remoteRate i (Cls.ofIdx .data c.idx) cur
    | some .data, _, _ => s.decline i
    | _, _, _ => s

/-- REMOTE_RETRAIN_REQUEST (R78). -/
def execRemoteRetrainRequest (i : LineNo) (s : State) : Host.Outcome State Fault Refusal :=
  react s fun s =>
    let d := (s.line i).dp
    if d.family = some .data ∧ (d.pump = .running ∨ d.pump = .rateChange) then s.enterRetraining i else s

end Sys2Proof.Machine
end

