-- ==== Sys2Proof/Machine/Link.lean ====
section
/-! DEFINITION. Meanings of the block link events (chapter 6), the taking of DATA_IN and FLOW, and the forming of
DATA_OUT. -/

namespace Sys2Proof.Machine

open Sys2Proof

/-! ## Setup (R83) -/

/-- The largest step of the ladder 32, 64, 128, 256 at or below a size, 32 below the ladder (R83). -/
def blockStep (n : Nat) : Nat := if n < 64 then 32 else if n < 128 then 64 else if n < 256 then 128 else 256

/-- The block size at the start of EC mode (R93). -/
def startBlock (cur : Option Cls) (maxBlock : Nat) : Nat :=
  min maxBlock (match cur with
    | some c => if 3 ≤ c.idx then 128 else 64
    | none => 64)

/-- Setup ends in EC mode (R83), in UP, or in SUSPENDED with the pump out of RUNNING (R82, log 76). The own window that enters
the agreement is the live setting at this moment (log 96). -/
def State.setupEc (s : State) (i : LineNo) (window size : Nat) : State :=
  let own := s.ownWindow i
  let cur := (s.line i).dp.cur
  ((s.updBlc i fun b => { b.resetAdaptation with
    link := if (s.line i).dp.pump = .running then .up else .suspended
    mode := some .ec, tryDue := none, setupOwed := true
    window := min own (clamp 1 15 window), maxBlock := blockStep size, block := startBlock cur (blockStep size)
    vs := 0, vr := 0 }).raise .link i).startTx i

/-- SETUP_MESSAGE_RECEIVED (R83). -/
def execSetupMessageReceived (i : LineNo) (window size : Nat) (s : State) : Host.Outcome State Fault Refusal :=
  react s fun s =>
    match (s.line i).blc.link, (s.line i).blc.mode with
    | .setup, _ => s.setupEc i window size
    | .up, some .ec => (s.updBlc i fun b => { b with setupOwed := true }).startTx i
    | .suspended, some .ec => s.updBlc i fun b => { b with setupOwed := true }
    | _, _ => s

/-- Setup ends in PLAIN mode (R83, R95). -/
def State.setupPlain (s : State) (i : LineNo) : State :=
  ((s.updBlc i fun b => { b with
    link := .up, mode := some .plain, tryDue := none, setupOwed := false }).raise .link i).startTx i

/-- SETUP_TRY_EXPIRY (R83). -/
def execSetupTryExpiry (i : LineNo) (s : State) : Host.Outcome State Fault Refusal :=
  react s fun s =>
    onExpiry (s.line i).blc.tryDue s fun s =>
      if (s.line i).blc.tryNo < 3 then s.startTry i ((s.line i).blc.tryNo + 1) else s.setupPlain i

/-! ## Transmitter and sender (R87 to R90) -/

/-- The message in transmission has ended (R87, R74). -/
def State.transmitted (s : State) (i : LineNo) : State :=
  let s1 := s.updBlc i fun b => { b with transmitting := none }
  match (s.line i).dp.rc with
  | some r => if r.begun = none then s1.beginExchange i else s1
  | none => s1.startTx i

/-- MESSAGE_TRANSMITTED (R87). -/
def execMessageTransmitted (i : LineNo) (s : State) : Host.Outcome State Fault Refusal :=
  react s fun s => if (s.line i).blc.transmitting.isSome then s.transmitted i else s

/-- The link is one of messages: in SETUP, or in EC mode in UP or SUSPENDED (R83, R86; the other states: log 93). -/
def Line.takesMessages (l : Line) : Bool :=
  l.blc.link == .setup || (l.blc.mode == some .ec && (l.blc.link == .up || l.blc.link == .suspended))

/-- A bad message is counted (R86). -/
def State.countBadCheck (s : State) (i : LineNo) : State :=
  s.updCnt i fun k => { k with badChecks := satAdd k.badChecks 1 }

/-- BAD_MESSAGE_RECEIVED (R86). -/
def execBadMessageReceived (i : LineNo) (s : State) : Host.Outcome State Fault Refusal :=
  react s fun s => if (s.line i).takesMessages then s.countBadCheck i else s

/-- The oldest number (R89). -/
def Blc.oldest (b : Blc) : Nat :=
  match b.unacked with
  | k :: _ => k.seq
  | [] => b.vs

/-- How many blocks a number acknowledges (R89). -/
def Blc.acked (b : Blc) (n : Nat) : Nat := (n + 128 - b.oldest) % 128

/-- The clean run after the removal of blocks (R89, R93). -/
def Blc.cleanBlocks (b : Blc) : List Block → Blc
  | [] => b
  | k :: r => (if k.sends = 1 then b.cleanBlock else b).cleanBlocks r

/-- Removes every block before `n`; a resend pointer at a removed block moves to the oldest left (R89). -/
def Blc.removeAcked (b : Blc) (n : Nat) : Blc :=
  let k := b.acked n
  let left := b.unacked.drop k
  let b1 := { b with
    unacked := left
    resend := match b.resend with
      | some p => if left.any fun x => x.seq == p then some p else (left.head?).map fun x : Block => x.seq
      | none => none }
  b1.cleanBlocks (b.unacked.take k)

/-- What the message does by its kind (table of R89). -/
def Blc.bySup (b : Blc) (kind : SupKind) (n : Nat) : Blc :=
  let back := if (b.find n).isSome then some n else b.resend
  match kind with
  | .ack => if b.peerNotReady then { b with peerNotReady := false, resend := back } else b
  | .rej => { b with peerNotReady := false, resend := back }
  | .rnr => { b with peerNotReady := true }

/-- An accepted supervisory message (R89): the retry timer restarts at an advance and at a release, and runs only while
the list is not empty, the peer is ready and the pump is RUNNING (R90). -/
def State.takeSup (s : State) (i : LineNo) (kind : SupKind) (n : Nat) : State :=
  let running := (s.line i).dp.pump == .running
  let s1 := s.updBlc i fun b =>
    let b1 := (b.removeAcked n).bySup kind n
    { b1 with retryDue :=
        if b1.unacked.isEmpty ∨ b1.peerNotReady ∨ running = false then none
        else if 0 < b.acked n ∨ b.peerNotReady then some (s.now + 1500)
        else b.retryDue }
  s1.startTx i

/-- SUPERVISORY_MESSAGE_RECEIVED (R89). The number is taken modulo 128 (log 82). -/
def execSupervisoryMessageReceived (i : LineNo) (kind : SupKind) (n : Nat) (s : State) :
    Host.Outcome State Fault Refusal :=
  react s fun s =>
    let b := (s.line i).blc
    if b.mode = some .ec ∧ (b.link = .up ∨ b.link = .suspended) ∧ b.acked (n % 128) ≤ b.unacked.length then
      s.takeSup i kind (n % 128)
    else s

/-- The retry timer expires (R90). -/
def State.retryExpires (s : State) (i : LineNo) : State :=
  match (s.line i).blc.unacked with
  | [] => s.updBlc i fun b => { b with retryDue := none }
  | k :: r =>
    let s1 := s.updBlc i fun b => { b with
      unacked := { k with retries := k.retries + 1 } :: r, resend := some k.seq, retryDue := some (s.now + 1500) }
    if 11 ≤ k.retries + 1 then s1.raiseCause i .linkFailed else s1.startTx i

/-- RETRY_TIMER_EXPIRY (R90). -/
def execRetryTimerExpiry (i : LineNo) (s : State) : Host.Outcome State Fault Refusal :=
  react s fun s => onExpiry (s.line i).blc.retryDue s fun s => s.retryExpires i

/-! ## Receiver (R91, R92, R95) -/

/-- A message goes to the supervisory slot, and the transmitter may take it at once (R91). -/
def State.answerBlock (s : State) (i : LineNo) (k : SupKind) : State :=
  (s.updBlc i fun b => b.place { kind := k, n := b.vr }).startTx i

/-- An in-order block that fits RX (R91). -/
def State.appendBlock (s : State) (i : LineNo) (p : List Byte) : State :=
  ((s.updBlc i fun b => { b with
    rx := b.rx ++ p, vr := (b.vr + 1) % 128, rejOut := false }).updCnt i fun k => { k with
      blocksGood := satAdd k.blocksGood 1 }).answerBlock i .ack

/-- A good data block (table of R91). -/
def State.takeBlock (s : State) (i : LineNo) (seq : Nat) (p : List Byte) : State :=
  let b := (s.line i).blc
  let d := (seq + 128 - b.vr) % 128
  if b.notReady then s.answerBlock i .rnr
  else if d = 0 then
    if b.rx.length + p.length ≤ Config.bufferSize then s.appendBlock i p
    else (s.updBlc i fun b => { b with notReady := true }).answerBlock i .rnr
  else if d ≤ 15 then
    if b.rejOut then s else (s.updBlc i fun b => { b with rejOut := true }).answerBlock i .rej
  else s.answerBlock i .ack

/-- DATA_BLOCK_RECEIVED (R86, R91): in EC mode a block of a bad payload length is counted, and a good one is taken in UP. In
SETUP a block is discarded without counting (R83). The number is taken modulo 128 (log 82). -/
def execDataBlockReceived (i : LineNo) (seq : Nat) (payload : List Byte) (s : State) :
    Host.Outcome State Fault Refusal :=
  react s fun s =>
    let b := (s.line i).blc
    if b.mode = some .ec ∧ (b.link = .up ∨ b.link = .suspended) then
      if payload.isEmpty ∨ b.maxBlock < payload.length then s.countBadCheck i
      else if b.link = .up then s.takeBlock i (seq % 128) payload else s
    else s

/-- A byte received in PLAIN mode (R95). -/
def State.plainByte (s : State) (i : LineNo) (x : Byte) : State :=
  if (s.line i).blc.rx.length < Config.bufferSize then s.updBlc i fun b => { b with rx := b.rx ++ [x] }
  else s.updCnt i fun k => { k with rxOverrun := satAdd k.rxOverrun 1 }

/-- PLAIN_BYTE_RECEIVED (R95): taken while SUSPENDED as in UP (log 95). -/
def execPlainByteReceived (i : LineNo) (b : Byte) (s : State) : Host.Outcome State Fault Refusal :=
  react s fun s =>
    if (s.line i).blc.mode = some .plain ∧ ((s.line i).blc.link = .up ∨ (s.line i).blc.link = .suspended) then
      s.plainByte i b
    else s

/-! ## The host's side (R84, R85, R92) -/

/-- A call is CONNECTED DATA. -/
def Cc.connectedData (c : Cc) : Bool := c.state == .connected && c.kind == some .data

/-- DATA_IN bytes are taken into TX, those beyond its free space dropped and counted (R84). -/
def State.takeData (s : State) (i : LineNo) (bytes : List Byte) : State :=
  let room := Config.bufferSize - (s.line i).blc.tx.length
  let s1 := (s.updBlc i fun b => { b with tx := b.tx ++ bytes.take room }).updCnt i fun k => { k with
    txOverrun := satAdd k.txOverrun (bytes.length - room) }
  (s1.txRose i).startTx i

/-- FLOW (R85): HOLD 0 sets the host hold flag, RESUME 1 clears it. -/
def takeFlow (s : State) (line value : Nat) : Answer :=
  onLine s line fun i =>
    match flagOf value with
    | some v => okWith (s.updBlc i fun b => { b with hold := !v }) []
    | none => refuse s .badArgument

/-- A line has a DATA_OUT ready (R85). -/
def Line.dataReady (l : Line) : Bool := !l.blc.rx.isEmpty && !l.blc.hold

/-- The not ready test, made as bytes leave RX (R92). -/
def State.notReadyTest (s : State) (i : LineNo) : State :=
  let b := (s.line i).blc
  if b.notReady ∧ b.rx.length + 1024 ≤ Config.bufferSize then
    (s.updBlc i fun b => { b with notReady := false }).answerBlock i .ack
  else s

/-- The bytes of the next DATA_OUT of a line leave RX (R85). -/
def State.formDataOut (s : State) (i : LineNo) : State × List Byte :=
  let bytes := (s.line i).blc.rx.take 256
  ((s.updBlc i fun b => { b with rx := b.rx.drop 256 }).notReadyTest i, bytes)

end Sys2Proof.Machine
end

