-- ==== Sys2Proof/Machine/Fax.lean ====
section
/-! DEFINITION. Meanings of the fax events (chapter 7), and how the fax requests are taken. -/

namespace Sys2Proof.Machine

open Sys2Proof

/-! ## Requests (R99 to R101) -/

/-- The call states in which a job may be prepared or started, CONNECTED starting it at once (R99). -/
def Cc.faxCall (c : Cc) : Bool :=
  c.kind == some .fax
    && (c.state == .seized || c.state == .dialling || c.state == .progress || c.state == .answering
      || c.state == .connected)

/-- A job is prepared, or started where the call is CONNECTED FAX (R99, R100). -/
def State.acceptJob (s : State) (i : LineNo) (j : FaxJob) : Answer :=
  let s1 := s.newJob i j
  { state := if (s.line i).cc.state = .connected then s1.startJob i else s1, status := .accepted }

/-- The checks of FAXS and FAXR on the line (R99, R100). In the FAX_HANDOFF of a plan's voice call they are refused BUSY
(R153, log 80). -/
def State.jobRefusal (s : State) (i : LineNo) : Option Status :=
  if (s.line i).apc.plan = .faxHandoff ∧ (s.line i).cc.connectedVoice then some .busy
  else if (s.line i).cc.faxCall = false then some .wrongState
  else if (s.line i).jobLive ∨ (s.line i).planActive then some .busy
  else none

/-- The checks of FAXS on its pages, each over the whole list in turn (R99). -/
def State.pagesRefusal (s : State) (pages : List Nat) : Option Status :=
  let es := pages.map s.stc.entry
  if es.any Option.isNone then some .notFound
  else if es.any fun e => match e with
      | some e => e.kind != .faxTxPage || e.used == 0 || decide (262144 < e.used)
      | none => true then some .badArgument
  else if es.any fun e => match e with
      | some e => e.open_
      | none => true then some .wrongState
  else none

/-- FAXS (R99). -/
def takeFaxs (s : State) (line : Nat) (pages : List Nat) (resolution width policy : Nat) : Answer :=
  onLine s line fun i =>
    match Resolution.of resolution, Policy.of policy with
    | some r, some p =>
      if pages.isEmpty ∨ 16 < pages.length ∨ (pages.any fun x => decide (Config.dirSize ≤ x)) ∨ 2 < width then
        refuse s .badArgument
      else
        match s.jobRefusal i, s.pagesRefusal pages with
        | some st, _ => refuse s st
        | none, some st => refuse s st
        | none, none => s.acceptJob i { dir := some .send, pages := pages, policy := p, wanted := ⟨r, width⟩ }
    | _, _ => refuse s .badArgument

/-- FAXR (R100). -/
def takeFaxr (s : State) (line policy : Nat) : Answer :=
  onLine s line fun i =>
    match Policy.of policy with
    | some p =>
      match s.jobRefusal i with
      | some st => refuse s st
      | none => s.acceptJob i { dir := some .receive, policy := p }
    | none => refuse s .badArgument

/-- The fields of FXST (R101, R162). -/
def FaxJob.fields (j : FaxJob) : List Byte :=
  be1? (j.dir.map FaxDir.code) ++ be1 j.phase.code ++ be1 j.pages.length ++ (j.pages.flatMap be1)
    ++ be1 j.policy.code ++ be1? (j.agreed.map (·.resolution.code)) ++ be1? (j.agreed.map (·.width))
    ++ be2? j.remoteReserve ++ be1? (j.cls.map Cls.code) ++ be1 j.f1fails ++ be1 j.pageIdx ++ be1 j.part
    ++ be1 j.round ++ be1 j.missing.length ++ (j.missing.flatMap be1) ++ be1 j.pagesDone ++ be2 j.framesResent
    ++ be1 j.received.length ++ (j.received.flatMap fun p => be1 p.id ++ be2 p.missing)
    ++ be1? (j.outcome.map FaxOutcome.code)

/-- FXST (R101). -/
def takeFxst (s : State) (line : Nat) : Answer :=
  onLine s line fun i =>
    match (s.line i).fxc.job with
    | some j => okWith s j.fields
    | none => refuse s .notFound

/-- FXAB (R101): a started job sends the release message once; the job ends ABORTED and HOST_RELEASE is raised. -/
def takeFxab (s : State) (line : Nat) : Answer :=
  onLine s line fun i =>
    if (s.line i).jobLive then
      let s1 := if (s.line i).jobRunning then s.faxSend i .release else s
      okWith ((s1.endJob i .aborted).raiseCause i .hostRelease) []
    else refuse s .wrongState

/-! ## Waits (R100, R102, R113) -/

/-- The job wait expires (R100): a NO_JOB record, FAXJ, FAX_FAILED. Its policy is STEP_DOWN (log 77). -/
def State.noJob (s : State) (i : LineNo) : State := (s.newJob i {}).failJob i .noJob

/-- FAX_JOB_WAIT_EXPIRY (R100). -/
def execFaxJobWaitExpiry (i : LineNo) (s : State) : Host.Outcome State Fault Refusal :=
  react s fun s => onExpiry (s.line i).fxc.jobWaitDue s fun s => s.noJob i

/-- A wait for an answer expires (R102): the message is sent again, a burst at the same class, or after the third wait
the job ends NO_RESPONSE. -/
def State.answerMissing (s : State) (i : LineNo) (m : FaxMsg) (tries : Nat) : State :=
  if 3 ≤ tries then s.failJob i .noResponse
  else
    match m with
    | .burst _ => (s.updJob i fun j => { j with bursts := tries + 1 }).updFxc i fun x => { x with
        wait := .none, sent := some m }
    | _ => s.updFxc i fun x => { x with wait := .answer m (tries + 1) (s.now + 3000), sent := some m }

/-- FAX_ANSWER_WAIT_EXPIRY (R102). -/
def execFaxAnswerWaitExpiry (i : LineNo) (s : State) : Host.Outcome State Fault Refusal :=
  react s fun s =>
    match (s.line i).fxc.wait with
    | .answer m t d => (s.reach d).answerMissing i m t
    | .none => s
    | .capability _ => s
    | .sender _ => s
    | .release _ => s

/-- A receive job's wait on the sender expires (R102, R113): DONE in RELEASE, NO_RESPONSE elsewhere. -/
def State.senderMissing (s : State) (i : LineNo) : State :=
  match (s.line i).runningJob with
  | some j => if j.phase = .release then s.doneJob i else s.failJob i .noResponse
  | none => s

/-- FAX_SENDER_WAIT_EXPIRY (R102). -/
def execFaxSenderWaitExpiry (i : LineNo) (s : State) : Host.Outcome State Fault Refusal :=
  react s fun s =>
    match (s.line i).fxc.wait with
    | .capability d => (s.reach d).failJob i .noResponse
    | .sender d => (s.reach d).senderMissing i
    | .none => s
    | .answer _ _ _ => s
    | .release _ => s

/-- RELEASE_WAIT_EXPIRY (R113). -/
def execReleaseWaitExpiry (i : LineNo) (s : State) : Host.Outcome State Fault Refusal :=
  react s fun s =>
    match (s.line i).fxc.wait with
    | .release d => (s.reach d).doneJob i
    | .none => s
    | .answer _ _ _ => s
    | .capability _ => s
    | .sender _ => s

/-! ## Set-up (R102, R103) -/

/-- An event at a running fax job of a direction. -/
def State.atJob (s : State) (i : LineNo) (d : FaxDir) (f : FaxJob → State) : State :=
  match (s.line i).runningJob with
  | some j => if j.dir = some d then f j else s
  | none => s

/-- A message of a kind is awaited as an answer (R102). -/
def FaxWait.awaits (w : FaxWait) (p : FaxMsg → Bool) : Bool :=
  match w with
  | .answer m _ _ => p m
  | .none => false
  | .capability _ => false
  | .sender _ => false
  | .release _ => false

/-- An unreadable message is discarded (R102); in PAGE it shows that the sender has gone on after a round's answer (log
22). -/
def State.unreadable (s : State) (i : LineNo) : State :=
  match (s.line i).runningJob with
  | some j => if j.phase = .page then s.updJob i FaxJob.goesOn else s
  | none => s

/-- BAD_FAX_MESSAGE_RECEIVED (R102): discarded, ignored, or answered again. -/
def execBadFaxMessageReceived (i : LineNo) (m : StrayFax) (s : State) : Host.Outcome State Fault Refusal :=
  react s fun s =>
    match m with
    | .unreadable => s.unreadable i
    | .outOfPhase k =>
      match (s.line i).runningJob with
      | some j => s.answerAgain i j k
      | none => s

/-- A send job takes the capability message (R103). -/
def State.takeCapability (s : State) (i : LineNo) (j : FaxJob) (highest : Cls) (fine : Bool) (widest reserve : Nat) :
    State :=
  let s1 := (s.updJob i fun j => { j with remoteReserve := some reserve }).updFxc i fun x => { x with wait := .none }
  if (j.wanted.resolution = .fine ∧ fine = false) ∨ widest < j.wanted.width then s1.failJob i .incompatible
  else
    let c := (((s.line i).counted.getD .f1).cap (some (asFax highest))).cap (s.line i).dp.owed
    let m := FaxMsg.choice c j.wanted
    (s1.updJob i fun j => { j with phase := .negotiate, fk := some c, choiceSent := some m }).faxAsk i m

/-- CAPABILITY_RECEIVED (R103). -/
def execCapabilityReceived (i : LineNo) (highest : Cls) (fine : Bool) (widest reserve : Nat) (s : State) :
    Host.Outcome State Fault Refusal :=
  react s fun s => s.atJob i .send fun j =>
    if j.phase = .setup then s.takeCapability i j highest fine widest reserve else s.answerAgain i j .capability

/-- A receive job takes the choice (R103). -/
def State.takeChoice (s : State) (i : LineNo) (c : Cls) (resolution width : Nat) : State :=
  let s1 := s.updJob i fun j => { j with phase := .negotiate }
  match Resolution.of resolution with
  | none => (s1.faxSend i (.confirmation false)).failJob i .incompatible
  | some r =>
    if 2 < width then (s1.faxSend i (.confirmation false)).failJob i .incompatible
    else
      let offered := ((s.line i).fxc.job.bind (·.offered)).map asFax
      ((s1.updJob i fun j => { j with
        agreed := some ⟨r, width⟩, choiceAnswer := some true }).startCheck i (((asFax c).cap offered).cap (s.line i).counted) .firstPage).faxTell i
        (.confirmation true)

/-- CHOICE_RECEIVED (R103). -/
def execChoiceReceived (i : LineNo) (c : Cls) (resolution width : Nat) (s : State) :
    Host.Outcome State Fault Refusal :=
  react s fun s => s.atJob i .receive fun j =>
    if j.phase = .setup then s.takeChoice i c resolution width else s.answerAgain i j .choice

/-- A send job takes the confirmation (R103): the first burst follows at the chosen class. -/
def State.takeConfirmation (s : State) (i : LineNo) (j : FaxJob) (accepted : Bool) : State :=
  let s1 := s.updFxc i fun x => { x with wait := .none }
  if accepted then
    let c := j.fk.getD .f1
    ((s1.updJob i fun j => { j with agreed := some j.wanted }).startCheck i c .firstPage).faxSend i (.burst c)
  else s1.failJob i .incompatible

/-- CONFIRMATION_RECEIVED (R103). -/
def execConfirmationReceived (i : LineNo) (accepted : Bool) (s : State) : Host.Outcome State Fault Refusal :=
  react s fun s => s.atJob i .send fun j =>
    if j.phase = .negotiate then s.takeConfirmation i j accepted else s

/-! ## Training checks (R79, R104) -/

/-- A receive job takes a retrain announcement (R104): in TRAIN the announced class is the class of the check, no higher
than the one it waits for; in PAGE or POSTPAGE a check begins no higher than the current class and a cap owed. -/
def State.takeAnnouncement (s : State) (i : LineNo) (j : FaxJob) (c : Cls) : State :=
  let l := s.line i
  match j.phase with
  | .train =>
    ((s.updJob i fun j => { j with fk := some (((asFax c).cap j.fk).cap l.counted) }).updDp i Dp.freshTraining).senderWait i
  | .page | .postpage =>
    let after : AfterCheck := if j.partOpen ∧ j.partEnded = false then .samePart else .boundary
    (s.startCheck i ((((asFax c).cap l.dp.cur).cap l.dp.owed).cap l.counted) after).senderWait i
  | .setup | .negotiate | .release | .ended => s

/-- RETRAIN_ANNOUNCEMENT_RECEIVED (R104). -/
def execRetrainAnnouncementReceived (i : LineNo) (c : Cls) (s : State) : Host.Outcome State Fault Refusal :=
  react s fun s => s.atJob i .receive fun j => s.takeAnnouncement i j c

/-- A send job's burst has been sent: the verdict wait begins (R79, R102). -/
def State.burstSent (s : State) (i : LineNo) (j : FaxJob) : State :=
  match j.fk with
  | some c => s.updFxc i fun x => { x with
      sent := some (.burst c), wait := .answer (.burst c) j.bursts (s.now + 3000) }
  | none => s

/-- TRAINING_BURST_SENT (R79). -/
def execTrainingBurstSent (i : LineNo) (s : State) : Host.Outcome State Fault Refusal :=
  react s fun s => s.atJob i .send fun j =>
    if j.phase = .train ∧ (s.line i).fxc.wait = .none then s.burstSent i j else s

/-- A burst. -/
def FaxMsg.isBurst : FaxMsg → Bool
  | .burst _ => true
  | .capability _ _ _ _ | .choice _ _ | .confirmation _ | .announce _ | .verdict _ | .header _ _ _ _ | .roundEnd
  | .frameMap _ _ | .pageClose _ | .pageConfirmation | .release => false

/-- A send job takes the verdict (R104, R79). -/
def State.takeVerdict (s : State) (i : LineNo) (rejected : Option Cls) : State :=
  let s1 := s.updFxc i fun x => { x with wait := .none }
  let c := (s.line i).checkClass.getD .f1
  match rejected with
  | none => s1.checkAccepted i c (8 * c.entry)
  | some n => s1.checkRejected i c (some n)

/-- VERDICT_RECEIVED (R104). -/
def execVerdictReceived (i : LineNo) (rejected : Option Cls) (s : State) : Host.Outcome State Fault Refusal :=
  react s fun s => s.atJob i .send fun _ =>
    if (s.line i).fxc.wait.awaits FaxMsg.isBurst then s.takeVerdict i rejected else s

/-! ## Partial pages and pages (R105 to R112) -/

/-- PARTIAL_PAGE_HEADER_RECEIVED (R106, R109, R110): a partial page beyond 15 ends the job REMOTE_ERROR. -/
def execPartialPageHeaderReceived (i : LineNo) (_page part count : Nat) (last : Bool) (s : State) :
    Host.Outcome State Fault Refusal :=
  react s fun s => s.atJob i .receive fun j =>
    if j.phase ≠ .page then s
    else if 15 < part then s.failJob i .remoteError
    else if count = 0 ∨ 128 < count then s
    else s.takeHeader i j part count last

/-- A frame taken in PAGE (R106): written where its number is in the missing list, else discarded, as is every frame of a
partial page that has ended (log 84). A frame discarded in PAGE is one taken all the same: it restarts the sender wait
(log 88). -/
def State.takeFrame (s : State) (i : LineNo) (j : FaxJob) (n : Nat) (b : List Byte) : State :=
  let s1 := if j.partOpen ∧ j.partEnded = false ∧ j.missing.contains n then s.storeFrame i j n b else s
  (s1.updJob i FaxJob.goesOn).senderWait i

/-- FRAME_RECEIVED (R106). -/
def execFrameReceived (i : LineNo) (n : Nat) (bytes : List Byte) (s : State) : Host.Outcome State Fault Refusal :=
  react s fun s => s.atJob i .receive fun j => if j.phase = .page then s.takeFrame i j n bytes else s

/-- A send job has sent the frames of the round (R105): they are read from the store, and round end follows. -/
def State.roundSent (s : State) (i : LineNo) (j : FaxJob) : State :=
  let r := s.readRound i j j.missing
  (r.1.updFxc i fun x => { x with roundOut := r.2 }).faxAsk i .roundEnd

/-- ROUND_SENT (R105). -/
def execRoundSent (i : LineNo) (s : State) : Host.Outcome State Fault Refusal :=
  react s fun s => s.atJob i .send fun j =>
    if (s.line i).sendsRound then s.roundSent i j else s

/-- Round end (R106, R102): judged in PAGE, or answered again where it repeats one answered; ignored for a partial page that
has ended and whose answer is gone (log 84). -/
def State.takeRoundEnd (s : State) (i : LineNo) (j : FaxJob) : State :=
  match j.mapAnswer with
  | some m => s.faxTell i m
  | none => if j.phase = .page ∧ j.partOpen ∧ j.partEnded = false then s.judgeRound i j else s

/-- ROUND_END_RECEIVED (R106). -/
def execRoundEndReceived (i : LineNo) (s : State) : Host.Outcome State Fault Refusal :=
  react s fun s => s.atJob i .receive fun j => s.takeRoundEnd i j

/-- Frame numbers of a map that belong to the partial page, in ascending order (R105). -/
def FaxJob.mapFrames (j : FaxJob) (missing : List Nat) : List Nat :=
  (List.range j.frameCount).filter fun n => missing.contains n

/-- FRAME_MAP_RECEIVED (R105, R107). -/
def execFrameMapReceived (i : LineNo) (missing : List Nat) (action : MapAction) (s : State) :
    Host.Outcome State Fault Refusal :=
  react s fun s => s.atJob i .send fun j =>
    if (s.line i).fxc.wait.awaits (· == .roundEnd) then s.followMap i j (j.mapFrames missing) action else s

/-- A page close (R111, R102): the page in progress is completed, or a repeated close is answered again. -/
def State.takeClose (s : State) (i : LineNo) (j : FaxJob) (more : Bool) : State :=
  match j.page with
  | some id => if j.phase = .page ∨ j.phase = .postpage then s.completePage i j id more else s
  | none => if j.closeAnswered then s.faxTell i .pageConfirmation else s

/-- PAGE_CLOSE_RECEIVED (R111). -/
def execPageCloseReceived (i : LineNo) (more : Bool) (s : State) : Host.Outcome State Fault Refusal :=
  react s fun s => s.atJob i .receive fun j => s.takeClose i j more

/-- A page close. -/
def FaxMsg.isPageClose : FaxMsg → Bool
  | .pageClose _ => true
  | .capability _ _ _ _ | .choice _ _ | .confirmation _ | .announce _ | .burst _ | .verdict _ | .header _ _ _ _ | .roundEnd
  | .frameMap _ _ | .pageConfirmation | .release => false

/-- A send job takes the page confirmation (R112, R113); the missing list empties with the page (log 83). -/
def State.pageConfirmed (s : State) (i : LineNo) (j : FaxJob) : State :=
  let more := decide (j.pageIdx + 1 < j.pages.length)
  let s1 := s.updFxc i fun x => { x with
    wait := .none, faxp := j.page.map fun id => { id := id, missing := j.givenUp }
    job := x.job.map fun j => { j with
      pagesDone := min 255 (j.pagesDone + 1), pageIdx := min 15 (j.pageIdx + 1), page := none
      missing := [], partOpen := false, givenUp := 0 } }
  let s2 := ((s1.setSlot i 2 none).updCnt i fun k => { k with faxSent := satAdd k.faxSent 1 }).raise .faxp i
  if more then (s2.updJob i fun j => { j with phase := .page }).beginSendPage i
  else
    (s2.updJob i fun j => { j with phase := .release }).updFxc i fun x => { x with
      sent := some .release, wait := .release (s.now + 3000) }

/-- PAGE_CONFIRMATION_RECEIVED (R112). -/
def execPageConfirmationReceived (i : LineNo) (s : State) : Host.Outcome State Fault Refusal :=
  react s fun s => s.atJob i .send fun j =>
    if (s.line i).fxc.wait.awaits FaxMsg.isPageClose then s.pageConfirmed i j else s

/-- A release from the remote (R102, R113): DONE in RELEASE, a receive job answering with its own, else
REMOTE_ENDED. -/
def State.takeRelease (s : State) (i : LineNo) (j : FaxJob) : State :=
  if j.phase = .release then
    (if j.dir = some .receive then s.faxSend i .release else s).doneJob i
  else s.failJob i .remoteEnded

/-- RELEASE_RECEIVED (R113). -/
def execReleaseReceived (i : LineNo) (s : State) : Host.Outcome State Fault Refusal :=
  react s fun s =>
    match (s.line i).runningJob with
    | some j => s.takeRelease i j
    | none => s

end Sys2Proof.Machine
end

