-- ==== Sys2Proof/Machine/Store.lean ====
section
/-! DEFINITION. How the store requests are taken, and compaction (chapter 8). -/

namespace Sys2Proof.Machine

open Sys2Proof

/-! ## Directory requests (R119 to R121) -/

/-- A request on a directory id: BAD_ARGUMENT outside 0 to 95, NOT_FOUND for a free entry. -/
def onEntry (s : State) (id : Nat) (f : Entry → Answer) : Answer :=
  if Config.dirSize ≤ id then refuse s .badArgument
  else
    match s.stc.entry id with
    | some e => f e
    | none => refuse s .notFound

/-- The mailbox of SCRT: 255 none, above 9 used as 9 (R119). -/
def mailboxOf (m : Nat) : Option Nat := if m = 255 then none else some (min 9 m)

/-- SCRT (R119). -/
def takeScrt (s : State) (line kind extent mailbox : Nat) : Answer :=
  onPart s line <|
    match EntryKind.of kind with
    | none => refuse s .badArgument
    | some k =>
      match s.stc.alloc k (max 1 extent) fun e => { e with mailbox := mailboxOf mailbox } with
      | .error st => refuse s st
      | .ok (t, id) =>
        let base := match t.entry id with
          | some e => e.base
          | none => 0
        okWith { s with stc := t } (be1 id ++ be2 base ++ be2 (max 1 extent))

/-- A RECORD slot that holds the entry is in use by a running operation (R120, R122). -/
def State.recordInUse (s : State) (id : Nat) : Bool :=
  s.lines.toList.any fun l => lineNos.any fun k =>
    match l.window.get k with
    | some a => a.id == id && a.right == .record && l.slotInUse k
    | none => false

/-- SCLS (R120). -/
def takeScls (s : State) (line id : Nat) : Answer :=
  onPart s line <| onEntry s id fun e =>
    if e.open_ = false then refuse s .wrongState
    else if s.recordInUse id then refuse s .inUse
    else okWith (s.closeEntry id) (be2 e.closedExtent ++ be4 e.used)

/-- SDEL (R121). -/
def takeSdel (s : State) (line id : Nat) : Answer :=
  onPart s line <| onEntry s id fun e =>
    match s.deleteRefusal id e with
    | some st => refuse s st
    | none => okWith (s.freeEntry id) []

/-! ## Windows (R123) -/

/-- Some slot other than the one named holds the entry with RECORD (R123). -/
def State.recordElsewhere (s : State) (i slot : LineNo) (id : Nat) : Bool :=
  lineNos.any fun j => lineNos.any fun k =>
    !(j == i && k == slot) && (s.line j).window.get k == some { id := id, right := .record }

/-- ATCH (R123). -/
def takeAtch (s : State) (line slot id right : Nat) : Answer :=
  onLine s line fun i =>
    match lineOf slot, Right.of right with
    | some k, some r =>
      if Config.dirSize ≤ id then refuse s .badArgument
      else if (s.line i).slotInUse k then refuse s .inUse
      else
        match s.stc.entry id with
        | none => refuse s .notFound
        | some e =>
          if r = .play ∨ (e.open_ ∧ s.recordElsewhere i k id = false) then
            okWith (s.setSlot i k (some { id := id, right := r })) []
          else refuse s .noRight
    | _, _ => refuse s .badArgument

/-- DTCH (R123). -/
def takeDtch (s : State) (line slot : Nat) : Answer :=
  onLine s line fun i =>
    match lineOf slot with
    | none => refuse s .badArgument
    | some k =>
      if (s.line i).slotInUse k then refuse s .inUse
      else if ((s.line i).window.get k).isNone then refuse s .notFound
      else okWith (s.setSlot i k none) []

/-! ## Host reads and writes (R124 to R126) -/

/-- SWRT (R124): the bytes that fit are appended, voice cells beginning with restart headers. -/
def takeSwrt (s : State) (line id : Nat) (bytes : List Byte) : Answer :=
  onPart s line <|
    if Config.dirSize ≤ id ∨ 1024 < bytes.length then refuse s .badArgument
    else onEntry s id fun e =>
      if e.open_ = false then refuse s .wrongState
      else if s.recordHeld id then refuse s .inUse
      else
        let l := bytes.take (e.capacity - e.used)
        okWith { s with stc := l.foldl (fun t b => t.appendByte id (0, 16) b) s.stc }
          (be2 l.length ++ be4 (e.used + l.length))

/-- SRED (R125, R131). -/
def takeSred (s : State) (line id offset count : Nat) : Answer :=
  onPart s line <| onEntry s id fun e =>
    let n := min (clamp 1 1024 count) (e.used - offset)
    let fields := be1 id ++ be4 offset ++ be2 n ++ s.stc.readPayload id e offset n
    if s.stc.badPayload id e offset n then
      { state := { s with
          stc := s.stc.damage id, cnt := { s.cnt with storeParity := satAdd s.cnt.storeParity 1 } }
        status := .damaged, fields := fields }
    else okWith s fields

/-- The fields of an entry in SLST (R126, R162). -/
def Entry.bytes (id : Nat) (e : Entry) : List Byte :=
  be1 id ++ be1 e.kind.code ++ be1 (if e.open_ then 0 else 1) ++ beFlag e.moving ++ beFlag e.damaged
    ++ be2 e.base ++ be2 e.extent ++ be4 e.used ++ be1? e.mailbox ++ be1? (e.originLine.map (·.val))
    ++ beFlag e.ordinal.isSome ++ be4 (e.ordinal.getD 0) ++ beStr? e.number
    ++ be1? (e.fax.map (·.form.resolution.code)) ++ be1? (e.fax.map (·.form.width)) ++ be2? (e.fax.map (·.missing))

/-- The used entries from an id upward, with their ids. -/
def Stc.from (t : Stc) (start : Nat) : List (Nat × Entry) :=
  t.dir.zipIdx.filterMap fun x => match x.1 with
    | some e => if start ≤ x.2 then some (x.2, e) else none
    | none => none

/-- SLST (R126). -/
def takeSlst (s : State) (line start : Nat) : Answer :=
  onPart s line <|
    if Config.dirSize ≤ start then refuse s .badArgument
    else
      let l := s.stc.from start
      okWith s (be1 (l.take 16).length ++ ((l.take 16).flatMap fun x => Entry.bytes x.1 x.2)
        ++ be1 (nextAfter 16 Config.dirSize l))

/-- The fields of the last pack result, as PACK and SSTA carry them (R128, R162). -/
def packFields (r : Option PackResult) : List Byte :=
  be1? (r.map (·.outcome.code)) ++ be1? (r.map (·.region.code)) ++ be2? (r.map (·.voice)) ++ be2? (r.map (·.fax))

/-- The fields of SSTA (R126, R162). -/
def Stc.fields (t : Stc) : List Byte :=
  let active := t.pack.st ≠ .idle
  let region (r : Region) : Option Nat := if active then some r.code else none
  let moveExtent := t.move.bind fun m => (t.entry m.id).map (·.extent)
  be2 t.size ++ be2 t.fv ++ be2 t.ff ++ be2 t.freeSpan ++ be2 t.voiceHoles ++ be2 t.faxHoles ++ be1 t.used.length
    ++ be1 t.pack.st.code ++ be1? (region t.pack.region) ++ be1? (region t.pack.working)
    ++ be1? (t.move.map (·.id)) ++ be2? (t.move.map (·.old)) ++ be2? (t.move.map (·.new)) ++ be2? moveExtent
    ++ be2? (t.move.map (·.mark)) ++ packFields t.packResult

/-- SSTA (R126). -/
def takeSsta (s : State) (line : Nat) : Answer := onPart s line (okWith s s.stc.fields)

/-! ## Compaction (R127 to R129) -/

/-- Inserts a segment into a list in the walk's order: rising base in the voice region, falling in the fax region. -/
def insertSeg (voice : Bool) (x : Nat × Entry) : List (Nat × Entry) → List (Nat × Entry)
  | [] => [x]
  | y :: r =>
    if (if voice then x.2.base < y.2.base else y.2.base < x.2.base) then x :: y :: r
    else y :: insertSeg voice x r

/-- The segments of a region in the order of the walk (R128). -/
def Stc.walkOrder (t : Stc) (voice : Bool) : List (Nat × Entry) :=
  ((t.from 0).filter fun x => x.2.kind.voice == voice).foldl (fun l x => insertSeg voice x l) []

/-- Where a walk of a region comes to (R128): its end, an OPEN segment, or a segment to move to a new base. -/
inductive WalkEnd where
  | done
  | atOpen
  | move (id new : Nat)
  deriving DecidableEq, Repr

/-- The walk from an expected position (R128). -/
def walkFrom (voice : Bool) (e : Nat) : List (Nat × Entry) → WalkEnd
  | [] => .done
  | x :: r =>
    if x.2.open_ then .atOpen
    else if x.2.base = e then walkFrom voice (if voice then e + x.2.extent else e - x.2.extent) r
    else .move x.1 e

/-- The walk of a region (R128). -/
def Stc.walkRegion (t : Stc) (voice : Bool) : WalkEnd :=
  walkFrom voice (if voice then 0 else t.size - 1) (t.walkOrder voice)

/-- A move begins (R129). -/
def Stc.startMove (t : Stc) (now id new : Nat) : Stc :=
  let old := match t.entry id with
    | some e => e.base
    | none => 0
  { (t.updEntry id fun e => { e with moving := true }) with
    move := some { id := id, old := old, new := new, mark := 0, due := now + 1 } }

/-- The pack ends (R128). -/
def State.packEnds (s : State) (o : PackOutcome) : State :=
  ({ s with stc := { s.stc with
      packResult := some { outcome := o, region := s.stc.pack.region, voice := s.stc.pack.voice, fax := s.stc.pack.fax }
      pack := {} } }).raisePart .pack

/-- The outcome of a pack whose walks have all ended (R128). -/
def Pack.endOutcome (p : Pack) : PackOutcome := if p.atOpen then .partial_ else .done

/-- The walk of the last region requested (R128). -/
def State.walkLast (s : State) (voice : Bool) : State :=
  match s.stc.walkRegion voice with
  | .move id new => { s with stc := s.stc.startMove s.now id new }
  | .atOpen => s.packEnds .partial_
  | .done => s.packEnds s.stc.pack.endOutcome

/-- The walk (R128). -/
def State.packWalk (s : State) : State :=
  match s.stc.pack.working, s.stc.pack.region with
  | .fax, _ => s.walkLast false
  | _, .both =>
    match s.stc.walkRegion true with
    | .move id new => { s with stc := s.stc.startMove s.now id new }
    | .atOpen =>
      ({ s with stc := { s.stc with pack := { s.stc.pack with working := .fax, atOpen := true } } }).walkLast false
    | .done => ({ s with stc := { s.stc with pack := { s.stc.pack with working := .fax } } }).walkLast false
  | _, _ => s.walkLast true

/-- PACK START (R127). -/
def takePackStart (s : State) (line region : Nat) : Answer :=
  onPart s line <|
    match Region.of region with
    | none => refuse s .badArgument
    | some r =>
      if s.stc.pack.st ≠ .idle then refuse s .busy
      else
        let p : Pack := { st := .running, region := r, working := if r = .fax then .fax else .voice }
        { state := ({ s with stc := { s.stc with pack := p } }).packWalk, status := .accepted }

/-- PACK STOP (R127). -/
def takePackStop (s : State) (line : Nat) : Answer :=
  onPart s line <|
    match s.stc.pack.st with
    | .idle => refuse s .wrongState
    | .running => okWith { s with stc := { s.stc with pack := { s.stc.pack with st := .stopping } } } []
    | .stopping => okWith s []

/-- PACK as its record carries it (R127, R162). -/
def takePack (s : State) (line action region : Nat) : Answer :=
  match action with
  | 0 => takePackStart s line region
  | 1 => takePackStop s line
  | _ => refuse s .badArgument

/-- The copy of one cell (R129): the bytes as read with fresh parity, a header read with a parity error written as a
restart header. -/
def Stc.copyCell (t : Stc) (e : Entry) (src dst : Nat) : Stc :=
  let a := src * Config.cellBytes
  let b := dst * Config.cellBytes
  let t1 := { t with
    mem := memCopy t.mem a b Config.cellBytes
    badParity := t.badParity.filter fun x => !(decide (b ≤ x) && decide (x < b + Config.cellBytes)) }
  if e.kind.voice ∧ t.badIn a 4 then t1.writeBytes b (headerBytes 0 16 e.kind) else t1

/-- A move completes (R129, R128): the new base, the cells recovered, and the walk or the end of the pack. -/
def State.moveDone (s : State) (m : Move) (e : Entry) : State :=
  let t := s.stc
  let t1 := { (t.updEntry m.id fun e => { e with base := m.new, moving := false }) with move := none }
  let p := { t.pack with
    voice := if e.kind.voice then t.pack.voice + (t.fv - t1.fv) else t.pack.voice
    fax := if e.kind.voice then t.pack.fax else t.pack.fax + (t1.ff - t.ff) }
  let s1 : State := { s with stc := { t1 with pack := p } }
  if t.pack.st = .stopping then s1.packEnds .stopped else s1.packWalk

/-- One cell of a move is copied and the mark advances (R129, R131). -/
def State.moveCell (s : State) (m : Move) (e : Entry) : State :=
  let src := e.kind.cell m.old m.mark
  let bad := s.stc.badIn (src * Config.cellBytes) Config.cellBytes
  let m1 := { m with mark := m.mark + 1, due := s.now + 1 }
  let t1 := { s.stc.copyCell e src (e.kind.cell m.new m.mark) with move := some m1 }
  let s1 : State := if bad then
      { s with stc := t1.damage m.id, cnt := { s.cnt with storeParity := satAdd s.cnt.storeParity 1 } }
    else { s with stc := t1 }
  if e.extent ≤ m.mark + 1 then s1.moveDone m1 e else s1

/-- MOVE_CELL_COPY (R129). -/
def execMoveCellCopy (s : State) : Host.Outcome State Fault Refusal :=
  react s fun s =>
    match s.stc.move with
    | none => s
    | some m =>
      match s.stc.entry m.id with
      | some e => (s.reach m.due).moveCell m e
      | none => s

end Sys2Proof.Machine
end

