-- ==== Sys2Proof/Machine/Voice.lean ====
section
/-! DEFINITION. The step coder (R134 to R136), meanings of the voice events and how the voice requests are taken
(chapter 9). -/

namespace Sys2Proof.Machine

open Sys2Proof

/-! ## The step coder (R134 to R136) -/

/-- The step S of a step index (R134). -/
def stepSize (stepIndex : Nat) : Nat := (8 + stepIndex % 8) * 2 ^ (stepIndex / 8)

/-- The predicted value held in its range. -/
def clampP (p : Int) : Int := max (-8192) (min 8191 p)

/-- The step index after a magnitude code (R135 step 6). -/
def nextIndex (stepIndex m : Nat) : Nat :=
  if m ≤ 3 then stepIndex - 1 else min 47 (stepIndex + 2 * (m - 3))

/-- One code decoded from a coder state: steps 4 to 6 of R135 (R136). -/
def decodeCode (c : Int × Nat) (code : Nat) : Int × Nat :=
  let m := code % 8
  let r : Int := ((2 * m + 1) * stepSize c.2 / 8 : Nat)
  (clampP (if 8 ≤ code then c.1 - r else c.1 + r), nextIndex c.2 m)

/-- The code of a sample: steps 1 to 3 of R135. -/
def encodeSample (c : Int × Nat) (x : Int) : Nat :=
  let d := x - c.1
  let m := min 7 (4 * d.natAbs / stepSize c.2)
  if d < 0 then 8 + m else m

/-- The two codes of a payload byte, the first in time in the upper bits (R136). -/
def codesOf (b : Byte) : List Nat := [b.toNat / 16, b.toNat % 16]

/-- The payload byte of two codes (R136). -/
def byteOf (first second : Nat) : Byte := BitVec.ofNat 8 (16 * first + second)

/-- Decodes codes in turn: the state after them and the output samples (R136). -/
def decodeCodes (c : Int × Nat) : List Nat → (Int × Nat) × List Int
  | [] => (c, [])
  | k :: r =>
    let c1 := decodeCode c k
    let t := decodeCodes c1 r
    (t.1, c1.1 :: t.2)

/-- The coder state of a line. -/
def Vc.coder (v : Vc) : Int × Nat := (v.predicted, v.stepIndex)

/-- Sets the coder state of a line. -/
def Vc.withCoder (v : Vc) (c : Int × Nat) : Vc := { v with predicted := c.1, stepIndex := c.2 }

/-- The coder state at the start of a recording into an empty segment and of every repeat of a play (R134). -/
def coderStart : Int × Nat := (0, 16)

/-- Silent samples. -/
def silence (n : Nat) : List Int := List.replicate n 0

/-! ## Reading a cell (R131, R137) -/

/-- A parity error met by the line's voice coder (R131, R137): the entry is damaged, the line's count rises. -/
def State.voiceParity (s : State) (i : LineNo) (id : Nat) : State :=
  ({ s with stc := s.stc.damage id }).updCnt i fun c => { c with parity := satAdd c.parity 1 }

/-- A voice cell as read: its header and the payload bytes of the cell of offset `k` below `stop`. -/
structure CellRead where
  bad : Bool
  header : Header
  bytes : List Byte
  deriving DecidableEq, Repr

/-- Reads the cell of offset `k` of an entry up to payload byte `stop` (R129, R137). -/
def Stc.readCell (t : Stc) (id : Nat) (e : Entry) (k stop : Nat) : CellRead :=
  let a := t.cellOf id e k * Config.cellBytes
  let n := min Config.voicePayload (stop - k * Config.voicePayload)
  { bad := t.badIn a (4 + n), header := t.readHeader (t.cellOf id e k), bytes := t.bytes (a + 4) n }

/-- The cell can be decoded: no parity error, and the kind byte of the entry (R116, R137). -/
def CellRead.good (c : CellRead) (e : Entry) : Bool := !c.bad && c.header.kindByte == e.kind.code

/-- The coder state a cell read gives for a recording that goes on behind it (R137). -/
def CellRead.resume (c : CellRead) (e : Entry) : Int × Nat :=
  if c.good e then
    (decodeCodes (c.header.predicted, c.header.stepIndex) (c.bytes.flatMap codesOf)).1
  else coderStart

/-! ## Start of an operation (R138, R142) -/

/-- Changes the voice operation of a line. -/
def State.setOp (s : State) (i : LineNo) (o : VoiceOp) : State := s.updVc i fun v => { v with op := some o }

/-- The most payload a recording may write (R142). -/
def VoiceOp.bound (o : VoiceOp) (e : Entry) : Nat :=
  min (o.startLen + o.limit * Config.voicePayload) (e.extent * Config.voicePayload)

/-- A play begins with its first repeat at its start cell (R138, R140). -/
def State.playStarts (s : State) (i : LineNo) (o : VoiceOp) : State :=
  (s.updVc i fun v => v.withCoder coderStart).setOp i
    { o with phase := .playing, cell := o.startCell, repeatNo := 1, buf := .codes [], frameFill := 0 }

/-- The coder state a recording starts in, the parity error of its read counted (R137). -/
def State.loadCoder (s : State) (i : LineNo) (o : VoiceOp) (e : Entry) : State :=
  if e.used = 0 then s.updVc i fun v => v.withCoder coderStart
  else
    let c := s.stc.readCell o.id e ((e.used - 1) / Config.voicePayload) e.used
    (if c.bad then s.voiceParity i o.id else s).updVc i fun v => v.withCoder (c.resume e)

/-- A tone or a silence of a possible busy cycle is in progress (R144). -/
def CpTone.underWay : CpTone → Bool
  | .tone _ => true
  | .silence _ => true
  | .quiet => false
  | .over => false

/-- A recording begins at the used length of its entry (R137, R142, R144); one that may write nothing ends LIMIT. -/
def State.recordStarts (s : State) (i : LineNo) (o : VoiceOp) (e : Entry) : State :=
  let o1 := { o with
    phase := .recording, startLen := e.used, silenceRun := 0, digitStop := false, frameFill := 0
    busyStart := if (s.line i).tu.cp.underWay then some e.used else none }
  let s1 := ((s.loadCoder i o e).updCc i fun c => { c with busyCycles := 0 }).updVc i fun v => { v with code := none }
  let s2 := s1.setOp i o1
  if o1.bound e ≤ e.used then s2.opEnds i .limit else s2

/-- VOICE_OPERATION_START (R138, R142): a granted operation in WAITING begins; a plan's recording waits for the end of
its record tone too (R155). -/
def execVoiceOperationStart (i : LineNo) (s : State) : Host.Outcome State Fault Refusal :=
  react s fun s =>
    match (s.line i).vc.op with
    | none => s
    | some o =>
      if o.phase = .waiting ∧ o.granted then
        match o.kind with
        | .play => s.playStarts i o
        | .recd =>
          match s.stc.entry o.id with
          | some e => if o.host ∨ (s.line i).apc.recordToneDue = none then s.recordStarts i o e else s
          | none => s
      else s

/-! ## Play (R140, R141) -/

/-- Takes at most `n` samples out of what is left of a cell. -/
def PlayBuf.take (b : PlayBuf) (c : Int × Nat) (n : Nat) : PlayBuf × (Int × Nat) × List Int :=
  match b with
  | .codes l =>
    let d := decodeCodes c (l.take n)
    (.codes (l.drop n), d.1, d.2)
  | .silent k => (.silent (k - n), c, silence (min k n))

/-- The samples left of a cell. -/
def PlayBuf.left : PlayBuf → Nat
  | .codes l => l.length
  | .silent k => k

/-- Puts out at most `n` samples of the cell read (R136, R140). -/
def State.playOut (s : State) (i : LineNo) (o : VoiceOp) (n : Nat) : State :=
  let r := o.buf.take (s.line i).vc.coder n
  (s.updVc i fun v => { v.withCoder r.2.1 with out := r.2.2 }).setOp i
    { o with buf := r.1, frameFill := (o.frameFill + r.2.2.length) % 80 }

/-- A play reads the cell it has reached (R137, R140). -/
def State.playCell (s : State) (i : LineNo) (o : VoiceOp) (e : Entry) : State :=
  let c := s.stc.readCell o.id e o.cell e.used
  let s1 := if c.bad then s.voiceParity i o.id else s
  if c.good e then
    (s1.updVc i fun v => v.withCoder (c.header.predicted, c.header.stepIndex)).setOp i
      { o with cell := o.cell + 1, buf := .codes (c.bytes.flatMap codesOf) }
  else s1.setOp i { o with cell := o.cell + 1, buf := .silent (2 * c.bytes.length) }

/-- The next repeat of a play begins (R134, R140). -/
def State.nextRepeat (s : State) (i : LineNo) (o : VoiceOp) : State :=
  (s.updVc i fun v => v.withCoder coderStart).setOp i
    { o with phase := .playing, repeatNo := o.repeatNo + 1, cell := o.startCell, gapDue := none }

/-- A repeat has reached its end (R140): DONE after the last, else the gap, which a gap of 0 passes at once. -/
def State.repeatEnds (s : State) (i : LineNo) (o : VoiceOp) : State :=
  if o.repeats ≤ o.repeatNo then s.opEnds i .done
  else if o.gap = 0 then s.nextRepeat i o
  else s.setOp i { o with phase := .gap, gapDue := some (s.now + o.gap), gapOut := 8 * o.gap }

/-- A play reaches its next cell (R140): the rest of the cell before it has gone out, and the cell is read, or the
repeat has ended. -/
def State.reachCell (s : State) (i : LineNo) (o : VoiceOp) : State :=
  let s1 := s.playOut i o o.buf.left
  match (s1.line i).vc.op, s1.stc.entry o.id with
  | some o1, some e =>
    if o1.cell * Config.voicePayload < e.used then s1.playCell i o1 e else s1.repeatEnds i o1
  | some o1, none => s1.repeatEnds i o1
  | none, _ => s1

/-- PLAY_CELL_REACHED (R140). -/
def execPlayCellReached (i : LineNo) (s : State) : Host.Outcome State Fault Refusal :=
  react s fun s =>
    match (s.line i).vc.op with
    | some o => if o.phase = .playing then s.reachCell i o else s
    | none => s

/-- The gap timer of a line's operation, while it runs. -/
def Vc.gapDue (v : Vc) : Option Nat := v.op.bind fun o => if o.phase = .gap then o.gapDue else none

/-- The gap of a play ends: what is left of its silence goes out and fills its frame up, then the next repeat begins
(R140). -/
def State.gapEnds (s : State) (i : LineNo) (o : VoiceOp) : State :=
  (s.updVc i fun v => { v with out := silence o.gapOut }).nextRepeat i
    { o with gapOut := 0, frameFill := (o.frameFill + o.gapOut) % 80 }

/-- GAP_END (R140). -/
def execGapEnd (i : LineNo) (s : State) : Host.Outcome State Fault Refusal :=
  react s fun s => onExpiry (s.line i).vc.gapDue s fun s =>
    match (s.line i).vc.op with
    | some o => s.gapEnds i o
    | none => s

/-- A play in PLAYING or GAP becomes PAUSED, the gap timer stopped (R141). The silence left of a gap is what the
remaining gap time holds (log 68). -/
def VoiceOp.pause (o : VoiceOp) (now : Nat) : VoiceOp :=
  { o with
    phase := .paused, pausedPhase := o.phase, pauseReq := false, resumeReq := false
    gapLeft := (o.gapDue.getD now) - now, gapDue := none, gapOut := min o.gapOut (8 * ((o.gapDue.getD now) - now)) }

/-- A PAUSED play goes on in its paused phase (R141). -/
def VoiceOp.resume (o : VoiceOp) (now : Nat) : VoiceOp :=
  { o with
    phase := o.pausedPhase, resumeReq := false
    gapDue := if o.pausedPhase = .gap then some (now + o.gapLeft) else none }

/-- A frame boundary takes a pause requested, or resumes a play (R141). -/
def State.frameBoundary (s : State) (i : LineNo) : State :=
  match (s.line i).vc.op with
  | none => s
  | some o =>
    match o.phase with
    | .playing | .gap => if o.pauseReq then s.setOp i (o.pause s.now) else s
    | .paused => if o.resumeReq then s.setOp i (o.resume s.now) else s
    | .waiting | .recording => s

/-- Puts out silence over the rest of the frame, which counts against the gap (R140, R141). -/
def State.silentOut (s : State) (i : LineNo) (o : VoiceOp) : State :=
  (s.updVc i fun v => { v with out := silence (80 - o.frameFill) }).setOp i
    { o with gapOut := if o.phase = .gap then o.gapOut - (80 - o.frameFill) else o.gapOut }

/-- The next frame of an operation begins with none of its samples taken. -/
def State.frameStarts (s : State) (i : LineNo) : State :=
  s.updVc i fun v => { v with op := v.op.map fun o => { o with frameFill := 0 } }

/-- The frame of a play ends (R140, R141): the samples left of its 80 go to the codec, silence outside PLAYING. -/
def State.playFrame (s : State) (i : LineNo) (o : VoiceOp) : State :=
  match o.phase with
  | .playing => ((s.playOut i o (80 - o.frameFill)).frameStarts i).frameBoundary i
  | .gap | .paused => ((s.silentOut i o).frameStarts i).frameBoundary i
  | .waiting | .recording => s

/-! ## Record (R135 to R137, R142 to R144) -/

/-- A recording while it writes: the store, the coder, the pending code, and whether the bound is reached. -/
structure RecRun where
  stc : Stc
  coder : Int × Nat
  code : Option Nat
  full : Bool
  deriving DecidableEq, Repr

/-- One sample of a recording (R135 to R137, R143): the cell's header is written before its first sample, the byte at its
second code. -/
def recSample (o : VoiceOp) (r : RecRun) (x : Int) : RecRun :=
  if r.full then r
  else
    match r.stc.entry o.id with
    | none => r
    | some e =>
      let k := encodeSample r.coder x
      let c := decodeCode r.coder k
      match r.code with
      | none =>
        let t := if e.used % Config.voicePayload = 0
          then r.stc.writeHeader o.id e (e.used / Config.voicePayload) r.coder.1 r.coder.2 else r.stc
        { r with stc := t, coder := c, code := some k }
      | some k0 =>
        let t := (r.stc.writeByte (r.stc.addr o.id e e.used) (byteOf k0 k)).updEntry o.id fun e =>
          { e with used := e.used + 1 }
        { stc := t, coder := c, code := none, full := decide (o.bound e ≤ e.used + 1) }

/-- The bound of a recording is reached (R142). -/
def State.atBound (s : State) (o : VoiceOp) : Bool :=
  match s.stc.entry o.id with
  | some e => decide (o.bound e ≤ e.used)
  | none => false

/-- The samples of a recording are encoded and written (R143): the state after them, and whether the bound is
reached. -/
def State.recSamples (s : State) (i : LineNo) (o : VoiceOp) (l : List Int) : State × Bool :=
  let v := (s.line i).vc
  let r := l.foldl (recSample o) { stc := s.stc, coder := v.coder, code := v.code, full := s.atBound o }
  (({ s with stc := r.stc }).updVc i fun v => { v.withCoder r.coder with code := r.code }, r.full)

/-- A digit ends a recording at the end of the frame (R144). -/
def State.digitEnd (s : State) (i : LineNo) (o : VoiceOp) : State := (s.digitTrim o).opEnds i .digit

/-- A recording judges the silence of a frame of level `level` (R143). -/
def State.judgeSilence (s : State) (i : LineNo) (o : VoiceOp) (level : Nat) : State :=
  let run := if level < o.threshold then o.silenceRun + 1 else 0
  if o.silence * 100 ≤ run then (s.trim o.id (s.usedOf o.id - run * 40)).opEnds i .silence
  else s.setOp i { o with silenceRun := run, frameFill := 0 }

/-- The frame of a recording ends (R143, R144): the samples of it not yet encoded are encoded, and its level is that of
all 80. A digit declared in the frame comes before the bound, which comes before the silence (log 51). -/
def State.recordFrame (s : State) (i : LineNo) (o : VoiceOp) (samples : List Int) : State :=
  let r := s.recSamples i o (samples.drop o.frameFill)
  if o.digitStop then r.1.digitEnd i o
  else if r.2 then r.1.opEnds i .limit
  else r.1.judgeSilence i o (frameLevel samples)

/-- VOICE_FRAME_END (R143, R141). -/
def execVoiceFrameEnd (i : LineNo) (samples : List Int) (s : State) : Host.Outcome State Fault Refusal :=
  react s fun s =>
    match (s.line i).vc.op with
    | none => s
    | some o => if o.phase = .recording then s.recordFrame i o samples else s.playFrame i o

/-- The next samples of the frame in progress reach a recording (R136, R143, log 24): encoded and kept, an odd last code
pending; at the bound the recording ends LIMIT at once, unless a digit has ended it. -/
def State.limitReached (s : State) (i : LineNo) (o : VoiceOp) (samples : List Int) : State :=
  let l := samples.take (80 - o.frameFill)
  let r := s.recSamples i o l
  if r.2 ∧ ¬ o.digitStop then r.1.opEnds i .limit
  else r.1.setOp i { o with frameFill := o.frameFill + l.length }

/-- RECORDING_LIMIT_REACHED (R143). -/
def execRecordingLimitReached (i : LineNo) (samples : List Int) (s : State) : Host.Outcome State Fault Refusal :=
  react s fun s =>
    match (s.line i).vc.op with
    | none => s
    | some o => if o.phase = .recording then s.limitReached i o samples else s

/-! ## Requests (R139, R141, R142, R145) -/

/-- The checks of PLAY and RECD up to the entry (R139). -/
def voiceCheck (s : State) (line slot flag : Nat) (right : Right)
    (f : LineNo → LineNo → Bool → Nat → Entry → Answer) : Answer :=
  onLine s line fun i =>
    match lineOf slot, flagOf flag with
    | some k, some b =>
      if (s.line i).cc.connectedVoice = false then refuse s .wrongState
      else if (s.line i).planActive ∨ (s.line i).vc.op.isSome ∨ (s.line i).tu.toneDue.isSome ∨ s.hasPending i then
        refuse s .busy
      else
        match (s.line i).window.get k with
        | none => refuse s .notFound
        | some a =>
          if a.right ≠ right then refuse s .noRight
          else
            match s.stc.entry a.id with
            | some e => if e.kind.voice then f i k b a.id e else refuse s .badArgument
            | none => refuse s .badArgument
    | _, _ => refuse s .badArgument

/-- A voice operation of the host is taken in WAITING and asks its admission (R138). -/
def State.startOp (s : State) (i : LineNo) (o : VoiceOp) (a : Activity) : State :=
  let r := (s.setOp i o).request i [] { acts := [a], pump := none } .vcHost
  match r.2 with
  | some _ => r.1.opGranted i
  | none => r.1

/-- The start cell used (R139). -/
def startCellOf (used n : Nat) : Nat := min n ((used - 1) / Config.voicePayload)

/-- PLAY (R139). -/
def takePlay (s : State) (line slot startCell repeats gap stopOnDigit : Nat) : Answer :=
  voiceCheck s line slot stopOnDigit .play fun i k b id e =>
    let o : VoiceOp :=
      { kind := .play, host := true, slot := k, id := id, startCell := startCellOf e.used startCell
        repeats := clamp 1 8 repeats, gap := min 5000 gap, stopOnDigit := b }
    { state := s.startOp i o .voicePlay, status := .accepted
      fields := be2 o.startCell ++ be1 o.repeats ++ be2 o.gap }

/-- RECD (R142). -/
def takeRecd (s : State) (line slot limit silence threshold stopOnDigit : Nat) : Answer :=
  voiceCheck s line slot stopOnDigit .record fun i k b id _ =>
    let o : VoiceOp :=
      { kind := .recd, host := true, slot := k, id := id, limit := clamp 1 480 limit
        silence := clamp 1 30 silence, threshold := min 2047 threshold, stopOnDigit := b }
    { state := s.startOp i o .voiceRecord, status := .accepted
      fields := be2 o.limit ++ be1 o.silence ++ be2 o.threshold }

/-- What PAUS does to an operation (table of R141); absent where the phase refuses it. -/
def VoiceOp.paus (o : VoiceOp) (now : Nat) (on : Bool) : Option VoiceOp :=
  match o.phase, on with
  | .playing, true => some { o with pauseReq := true }
  | .playing, false => some { o with pauseReq := false }
  | .gap, true => some (o.pause now)
  | .gap, false => some o
  | .paused, true => some o
  | .paused, false => some { o with resumeReq := true }
  | .waiting, _ => none
  | .recording, _ => none

/-- PAUS (R141): value ON 0, OFF 1. -/
def takePaus (s : State) (line value : Nat) : Answer :=
  onLine s line fun i =>
    match flagOf value with
    | none => refuse s .badArgument
    | some off =>
      if (s.line i).planActive then refuse s .busy
      else
        match (s.line i).vc.op.bind fun o => o.paus s.now (!off) with
        | some o => okWith (s.setOp i o) []
        | none => refuse s .wrongState

/-- An operation that waits is stopped (R145, R158): at once where its admission is held (log 30), else at the grant or
the failure. -/
def State.stopWaiting (s : State) (i : LineNo) (o : VoiceOp) : State :=
  if o.granted then
    let s1 := s.finishOp i .stopped
    if o.host then s1 else s1.dropMessage o.id
  else s.setOp i { o with stopReq := true }

/-- VSTP (R145). A recording that a digit has ended and that only writes out its frame ends at once, with DIGIT (log
67). -/
def takeVstp (s : State) (line : Nat) : Answer :=
  onLine s line fun i =>
    if (s.line i).planActive then refuse s .busy
    else
      match (s.line i).vc.op with
      | none => refuse s .wrongState
      | some o => okWith (if o.phase = .waiting then s.stopWaiting i o else s.stopOp i .stopped) []

end Sys2Proof.Machine
end

