-- ==== Sys2Proof/Machine/Plan.lean ====
section
/-! DEFINITION. Meanings of the answer plan events, and how TAKE is taken (chapter 10). -/

namespace Sys2Proof.Machine

open Sys2Proof

/-- RECORD_TONE_END (R155). -/
def execRecordToneEnd (i : LineNo) (s : State) : Host.Outcome State Fault Refusal :=
  react s fun s => onExpiry (s.line i).apc.recordToneDue s fun s => s.updApc i fun a => { a with recordToneDue := none }

/-- MAILBOX_WAIT_EXPIRY (R154). -/
def execMailboxWaitExpiry (i : LineNo) (s : State) : Host.Outcome State Fault Refusal :=
  react s fun s => onExpiry (s.line i).apc.mailboxDue s fun s =>
    if (s.line i).apc.plan = .mailboxWait then s.chooseMailbox i (s.line i).profile.mailbox else s

/-- A calling-tone burst is counted and the reset timer restarts; the second hands the call to fax (R153). -/
def State.callingBurst (s : State) (i : LineNo) : State :=
  let n := (s.line i).apc.toneCount + 1
  let s1 := s.updApc i fun a => { a with toneCount := min 2 n, toneReset := some (s.now + 5000) }
  if 2 ≤ n then s1.faxHandoff i else s1

/-- CALLING_TONE_BURST (R153): heard while the line holds the listener, through GREETING and the mailbox step. -/
def execCallingToneBurst (i : LineNo) (s : State) : Host.Outcome State Fault Refusal :=
  react s fun s =>
    match (s.line i).apc.plan with
    | .greeting | .mailboxWait => 
      if (s.line i).holds .listener ∧ (s.line i).cc.connectedVoice then s.callingBurst i else s
    | _ => s

/-- CALLING_TONE_RESET (R153). -/
def execCallingToneReset (i : LineNo) (s : State) : Host.Outcome State Fault Refusal :=
  react s fun s => onExpiry (s.line i).apc.toneReset s fun s =>
    s.updApc i fun a => { a with toneCount := 0, toneReset := none }

/-- The plan's voice operation at a TAKE (R158): a greeting ends and its units are released; a recording under way ends
untrimmed and is settled, giving its result; one that waits is stopped. The last result is STOPPED (log 79). -/
def State.takeOp (s : State) (i : LineNo) : State × Option PlanResult :=
  match (s.line i).vc.op with
  | none => (s, none)
  | some o =>
    match o.kind, o.phase with
    | .play, _ => (s.finishOp i .stopped, none)
    | .recd, .waiting => (s.stopWaiting i o, none)
    | .recd, _ =>
      let r := (s.finishOp i .stopped).settleMessage i
      (r.1, some r.2)

/-- TAKE of a plan that may be taken (R158). -/
def State.planTaken (s : State) (i : LineNo) : State :=
  let r := s.takeOp i
  let s1 := r.1.endActs i [.listener]
  (s1.planOutcome i (r.2.getD { outcome := .taken, id := none })).planInactive i

/-- TAKE (R158). -/
def takeTake (s : State) (line : Nat) : Answer :=
  onLine s line fun i =>
    match (s.line i).apc.plan with
    | .greeting | .mailboxWait | .recording => okWith (s.planTaken i) []
    | .inactive | .waitRings | .answering | .faxHandoff | .dataHandoff | .ending => refuse s .wrongState

end Sys2Proof.Machine
end

