-- ==== Sys2Proof/Machine/SettingsOps.lean ====
section
/-! DEFINITION. The settings image: section contents, building, judging and walking it (R173, R174), and the resets of
every block (R177, with R15, R16, R18, R48, R66, R81, R97, R115, R132, R133, R147, R160, R172). -/

namespace Sys2Proof.Machine

open Sys2Proof

/-! ## Section contents as bytes (R173) -/

/-- Four flags as a byte, bit k for line k (R173). -/
def beBits (f : Four Bool) : List Byte :=
  be1 ((if f.l0 then 1 else 0) + (if f.l1 then 2 else 0) + (if f.l2 then 4 else 0) + (if f.l3 then 8 else 0))

/-- Contents of a PART section. -/
def PartSettings.bytes (p : PartSettings) : List Byte :=
  be2 p.storeSize ++ be4 p.linkRate ++ be1 p.slowInterval ++ be1 p.voltage ++ be2 p.burstMin ++ be2 p.speech

/-- The bytes of an answer profile. -/
def Profile.bytes (p : Profile) : List Byte :=
  be1 p.mode.code ++ be1 p.rings ++ be1 p.priorityRings ++ be1 (if p.withheldIgnore then 1 else 0)
    ++ be1? p.greeting ++ be1? p.altGreeting ++ be1 p.repeats ++ be2 p.gap ++ be1 p.mailboxWait ++ be1 p.mailbox
    ++ be2 p.recordLimit ++ be1 p.silence ++ be2 p.threshold ++ beFlag p.faxListen
    ++ be1 p.data.maxc.code ++ be1 p.data.floor.code ++ be1 p.fax.maxc.code ++ be1 p.fax.floor.code
    ++ be1 p.faxPolicy.code

/-- Contents of a LINE section. -/
def LineSettings.bytes (i : LineNo) (l : LineSettings) : List Byte :=
  be1 i.val ++ be1 l.precedence ++ be1 l.dialMethod.code ++ be1 l.answerWait ++ be1 l.linkWindow ++ be2 l.faxReserve
    ++ l.profile.bytes

/-- Contents of a GROUPS section. -/
def groupBytes (g : Four (Four Bool)) : List Byte := g.toList.flatMap beBits

/-- Contents of a NOTICES section. -/
def noticeBytes (l : List NoticeCfg) : List Byte := l.flatMap fun c => be1 c.level ++ beBits c.masked

/-- Contents of a STATIC_CALLERS section. -/
def callerBytes (l : List StaticCaller) : List Byte :=
  be1 l.length ++ l.flatMap fun c => beStr c.number ++ be1 c.cls.code ++ beStr c.label

/-- The contents of a section of the image as the live copy holds it (R175). -/
def Settings.contents (t : Settings) (code : Nat) (i : LineNo) : List Byte :=
  match code with
  | 1 => t.part.bytes
  | 2 => (t.lines.get i).bytes i
  | 3 => groupBytes t.groups
  | 4 => noticeBytes t.notices
  | _ => callerBytes t.callers

/-! ## Section contents read (R173, R174) -/

/-- The byte at a place of a section's contents. -/
def at1 (c : List Byte) (k : Nat) : Nat := (c.getD k 0).toNat

/-- The two-byte number at a place of a section's contents. -/
def at2 (c : List Byte) (k : Nat) : Nat := at1 c k * 256 + at1 c (k + 1)

/-- A store size as it is used (R174). -/
def storeSizeOf (n : Nat) : Nat := if n < 2048 then 1024 else if n < 4096 then 2048 else 4096

/-- A link rate as it is used (R161, R174). -/
def linkRateOf (n : Nat) : Nat :=
  if n = 230400 then 230400 else if n = 460800 then 460800 else if n = 921600 then 921600 else 115200

/-- A PART section's values as used. -/
def partOf (c : List Byte) : PartSettings :=
  { storeSize := storeSizeOf (at2 c 0), linkRate := linkRateOf (at2 c 2 * 65536 + at2 c 4)
    slowInterval := clamp 5 255 (at1 c 6), voltage := clamp 10 40 (at1 c 7), burstMin := clamp 100 500 (at2 c 8)
    speech := min 2047 (at2 c 10) }

/-- A directory id of a profile: above 95 absent (R148). -/
def greetingIdOf (n : Nat) : Option Nat := if n ≤ 95 then some n else none

/-- The classes of a profile, clamped as for CALL (R148). -/
def profileConn (k : CallKind) (maxc floor : Nat) (d : Conn) : Conn := (connOf k maxc floor).getD d

/-- The profile of a LINE section as used (R148); `c` holds the section's contents. -/
def profileOf (c : List Byte) : Profile :=
  { mode := (Mode.of (at1 c 7)).getD .off, rings := clamp 1 15 (at1 c 8), priorityRings := clamp 1 15 (at1 c 9)
    withheldIgnore := at1 c 10 == 1, greeting := greetingIdOf (at1 c 11), altGreeting := greetingIdOf (at1 c 12)
    repeats := clamp 1 4 (at1 c 13), gap := min 5000 (at2 c 14), mailboxWait := min 10 (at1 c 16)
    mailbox := min 9 (at1 c 17), recordLimit := clamp 1 480 (at2 c 18), silence := clamp 1 30 (at1 c 20)
    threshold := min 2047 (at2 c 21), faxListen := at1 c 23 == 1
    data := profileConn .data (at1 c 24) (at1 c 25) ⟨.d7, .d1⟩
    fax := profileConn .fax (at1 c 26) (at1 c 27) ⟨.f6, .f1⟩
    faxPolicy := (Policy.of (at1 c 28)).getD .stepDown }

/-- The settings of a LINE section as used; an unknown dial method takes its default (log 28). -/
def lineSettingsOf (c : List Byte) : LineSettings :=
  { precedence := min 3 (at1 c 1), dialMethod := (DialMethod.of (at1 c 2)).getD .tone
    answerWait := clamp 10 90 (at1 c 3), linkWindow := clamp 1 15 (at1 c 4), faxReserve := faxReserve (at2 c 5)
    profile := profileOf c }

/-- Every enumerated value of a LINE section is defined (R175). -/
def lineDefined (c : List Byte) : Bool :=
  (DialMethod.of (at1 c 2)).isSome && (Mode.of (at1 c 7)).isSome && decide (at1 c 10 ≤ 1) && decide (at1 c 23 ≤ 1)
    && (Policy.of (at1 c 28)).isSome

/-- Four flags from a byte's low bits. -/
def bitsOf (n : Nat) : Four Bool := ⟨n.testBit 0, n.testBit 1, n.testBit 2, n.testBit 3⟩

/-- The memberships of a GROUPS section. -/
def groupsOf (c : List Byte) : Four (Four Bool) := ⟨bitsOf (at1 c 0), bitsOf (at1 c 1), bitsOf (at1 c 2), bitsOf (at1 c 3)⟩

/-- A mask of a kind as kept: bit 0 alone for a part-wide kind, never set for STRT (R170, R173). -/
def maskOf (k : Notice) (m : Four Bool) : Four Bool :=
  if k = .strt then Four.all false else if k.partWide then { Four.all false with l0 := m.l0 } else m

/-- The levels and masks of a NOTICES section. -/
def noticesOf (c : List Byte) : List NoticeCfg :=
  noticeKinds.map fun k =>
    { level := min 3 (at1 c (2 * k.idx)), masked := maskOf k (bitsOf (at1 c (2 * k.idx + 1))) }

/-- A static caller entry as its section spells it. -/
structure RawCaller where
  number : List Byte
  cls : Nat
  label : List Byte
  deriving DecidableEq, Repr

/-- Reads static caller entries. -/
def rawCallers : Nat → List Byte → Option (List RawCaller × List Byte)
  | 0, l => some ([], l)
  | n + 1, l =>
    match rdStr l with
    | none => none
    | some (num, l1) =>
      match rd1 l1 with
      | none => none
      | some (c, l2) =>
        match rdStr l2 with
        | none => none
        | some (lab, l3) =>
          match rawCallers n l3 with
          | some (r, l4) => some ({ number := num, cls := c, label := lab } :: r, l4)
          | none => none

/-- The entries of a STATIC_CALLERS section, absent where its length differs from its layout's. -/
def callersOf (c : List Byte) : Option (List RawCaller) :=
  match rd1 c with
  | none => none
  | some (n, r) =>
    match rawCallers n r with
    | some (l, rest) => rdEnd l rest
    | none => none

/-- An entry as the live copy keeps it, absent where CTAD would refuse it (R173). -/
def RawCaller.entry (r : RawCaller) : Option StaticCaller :=
  match CallerClass.ofEntry r.cls with
  | some c => if goodNumber r.number ∧ goodLabel r.label then some { number := r.number, cls := c, label := r.label } else none
  | none => none

/-- A section of known code has the length its layout gives (R173). -/
def sectionFits (code : Nat) (c : List Byte) : Bool :=
  match code with
  | 1 => c.length == 12
  | 2 => c.length == 29
  | 3 => c.length == 4
  | 4 => c.length == 38
  | 5 => (callersOf c).isSome
  | _ => false

/-- Applies a section that fits to a settings copy (R173, R174). -/
def Settings.apply (t : Settings) (code : Nat) (c : List Byte) : Settings :=
  match code with
  | 1 => { t with part := partOf c }
  | 2 =>
    match lineOf (at1 c 0) with
    | some i => { t with lines := t.lines.set i (lineSettingsOf c) }
    | none => t
  | 3 => { t with groups := groupsOf c }
  | 4 => { t with notices := noticesOf c }
  | 5 => { t with callers := (((callersOf c).getD []).take 32).filterMap RawCaller.entry }
  | _ => t

/-! ## The image (R174, R176) -/

/-- Walks the sections of an image (R174): one of unknown code or of another length than its layout's is passed over,
one that runs past the end stops the walk. `fuel` bounds the number of sections by the number of bytes. -/
def Settings.walk (t : Settings) : Nat → List Byte → Settings
  | 0, _ => t
  | fuel + 1, l =>
    match rd1 l with
    | none => t
    | some (code, l1) =>
      match rd2 l1 with
      | none => t
      | some (len, l2) =>
        match rdN len l2 with
        | none => t
        | some (c, rest) => (if sectionFits code c then t.apply code c else t).walk fuel rest

/-- The signature K and J, and the version 1 (R174). -/
def imageHead : List Byte := be1 75 ++ be1 74 ++ be1 1

/-- The image length a header gives. -/
def imageLength (b : List Byte) : Nat := at2 b 3

/-- A good image: signature, version, length and sum (R174). -/
def imageGood (b : List Byte) : Bool :=
  b.take 3 == imageHead
    && decide (5 ≤ imageLength b) && decide (imageLength b ≤ 2046) && decide (imageLength b + 2 ≤ b.length)
    && byteSum (b.take (imageLength b)) % 65536 == at2 b (imageLength b)

/-- The settings a good image gives (R174). -/
def imageSettings (b : List Byte) : Settings :=
  ({} : Settings).walk b.length ((b.take (imageLength b)).drop 5)

/-- One section of an image. -/
def sectionBytes (code : Nat) (c : List Byte) : List Byte := be1 code ++ be2 c.length ++ c

/-- The image of a settings copy (R176). -/
def Settings.image (t : Settings) : List Byte :=
  let body := sectionBytes 1 (t.contents 1 0) ++ (lineNos.flatMap fun i => sectionBytes 2 (t.contents 2 i))
    ++ sectionBytes 3 (t.contents 3 0) ++ sectionBytes 4 (t.contents 4 0) ++ sectionBytes 5 (t.contents 5 0)
  let main := imageHead ++ be2 (5 + body.length) ++ body
  main ++ be2 (byteSum main)

/-! ## Soft reset -/

/-- The Line Interface at a soft reset (R15). -/
def State.softLif (s : State) (i : LineNo) : State :=
  let m := s.burstMinimum
  (s.release i).updLif i fun l => { l with
    flashDue := none, breakDue := none, makeDue := none, breaksLeft := 0, blankDue := none, absenceDue := none
    loop := .inactive, ringCount := 0, abandon := .stopped, deferred := false
    burstCounted := false, firstBurst := false
    ring := if l.ring = .quiet then .quiet else .candidate
    burstDue := if l.ring = .quiet then none else some (s.now + m) }

/-- The check that was deferred is taken at a soft reset that leaves the detector QUIET (R15, log 15). -/
def State.softCheck (s : State) (i : LineNo) : State :=
  if (s.line i).lif.deferred ∧ (s.line i).lif.ring = .quiet then
    { (s.applyResult i (decide (s.threshold ≤ Config.lineVoltage s.freeCount))) with freeCount := s.freeCount + 1 }
  else s

/-- The Call Controller and the Tone Unit at a soft reset (R18). -/
def State.softCc (s : State) (i : LineNo) : State :=
  let s1 := s.closeClid i
  let s2 :=
    if (s.line i).cc.state.inCall then s1.ccClears i .reset
    else if (s.line i).cc.state = .ringing then (s1.updCc i fun c => { c with caller := none }).toIdle i
    else s1
  (s2.updCc i fun c => { c with causes := [], elem := .none, drainDue := none }).updTu i fun _ => {}

/-- The activities, pump, link, fax job, window, coder and plan of a line at a soft reset (R66, R81, R97, R115, R132,
R147, R160). -/
def State.softBlocks (s : State) (i : LineNo) : State :=
  let b := (s.line i).blc
  s.upd i fun l => { l with
    acts := [], dp := {}, blc := {}, fxc := {}, window := Four.all none, vc := {}, apc := {}
    cnt := { l.cnt with discarded := satAdd l.cnt.discarded (b.sendBytes + b.rx.length) } }

/-- One line at a soft reset. -/
def State.softLine (s : State) (i : LineNo) : State :=
  (((s.softCheck i).softLif i).softCc i).softBlocks i

/-- The store at a soft reset (R132): the move is abandoned, the pack ends, OPEN entries are closed. -/
def Stc.soft (t : Stc) : Stc :=
  { t with
    dir := t.dir.map fun x => x.map fun e =>
      { e with moving := false, open_ := false, extent := if e.open_ then e.closedExtent else e.extent }
    pack := {}, move := none }

/-- The Group Dispatcher at a soft reset (R48). -/
def Gd.soft (g : Gd) : Gd := { g with recs := List.replicate 8 {}, queue := [] }

/-- The Link Port at a soft reset (R172). -/
def Lp.soft (p : Lp) : Lp := { p with inbound := [], open_ := false, replies := [] }

/-- Every line at a soft reset, in order (R177). -/
def State.softLines (s : State) : State := lineNos.foldl (fun t i => t.softLine i) s

/-- A soft reset (R177): every block acts as its chapter states, the cause becomes HOST_SOFT and STRT is raised. The
reply to RSET follows in the empty reply queue (R172). -/
def State.softReset (s : State) : State :=
  let s1 := s.softLines
  ({ s1 with
    cause := .hostSoft, gd := s1.gd.soft, bm := {}, stc := s1.stc.soft, lp := s1.lp.soft, nu := {} }).raisePart .strt

/-! ## Hard reset -/

/-- What a hard reset leaves in the EEPROM: a write in progress is torn (R176). -/
def Sl.eepromAfter (l : Sl) : Eeprom := if l.saveState = .writing then .torn else l.eeprom

/-- A hard reset begins (R177): every block enters its state after a hard reset and the part is held. The DRAM's bytes
stay, reached by no entry (R133, log 9). -/
def State.hardReset (s : State) (c : ResetCause) : State :=
  { s with
    phase := .held, cause := c, lines := Four.all {}, gd := {}, ct := {}, bm := {}
    stc := { s.stc with dir := List.replicate 96 none, pack := {}, move := none, packResult := none }
    lp := {}, nu := {}, sl := { s.sl with eeprom := s.sl.eepromAfter, saveDue := none }, cnt := {} }

end Sys2Proof.Machine
end

