-- ==== Sys2Proof/Machine/Settings.lean ====
section
/-! DEFINITION. How the requests on notices, settings, resets and counters are taken, and the meanings of the save,
reset and start-up events (R170, chapter 12). -/

namespace Sys2Proof.Machine

open Sys2Proof

/-! ## Notice settings (R170) -/

/-- A setting of NMSK that passes its checks: kind, the lines it names (absent: every line of the kind), masked or not,
level. -/
structure MaskSetting where
  kind : Notice
  sel : Option LineNo
  masked : Bool
  level : Nat
  deriving DecidableEq, Repr

/-- Reads one setting of NMSK; absent where a check fails (R170). -/
def maskSetting (x : List Byte × Nat × Nat × Nat) : Option MaskSetting :=
  match Notice.ofName x.1, flagOf x.2.2.1 with
  | some k, some unmasked =>
    if x.2.1 = 15 then some { kind := k, sel := none, masked := !unmasked, level := min 3 x.2.2.2 }
    else if k.partWide then none
    else (lineOf x.2.1).map fun i => { kind := k, sel := some i, masked := !unmasked, level := min 3 x.2.2.2 }
  | _, _ => none

/-- Reads a list of settings, absent where one fails. -/
def maskSettings : List (List Byte × Nat × Nat × Nat) → Option (List MaskSetting)
  | [] => some []
  | x :: r =>
    match maskSetting x, maskSettings r with
    | some m, some l => some (m :: l)
    | _, _ => none

/-- Applies one setting: the masks named, and the level of the kind; STRT stays unmasked (R170). -/
def MaskSetting.apply (m : MaskSetting) (l : List NoticeCfg) : List NoticeCfg :=
  l.modify m.kind.idx fun c =>
    { level := m.level
      masked := maskOf m.kind (match m.sel with
        | some i => c.masked.set i m.masked
        | none => Four.all m.masked) }

/-- Changes the live settings copy. -/
def State.withLive (s : State) (t : Settings) : State := { s with sl := { s.sl with live := t } }

/-- NMSK (R170). -/
def takeNmsk (s : State) (line : Nat) (settings : List (List Byte × Nat × Nat × Nat)) : Answer :=
  onPart s line <|
    if settings.isEmpty ∨ 19 < settings.length then refuse s .badArgument
    else
      match maskSettings settings with
      | none => refuse s .badArgument
      | some l =>
        okWith (s.withLive { s.sl.live with notices := l.foldl (fun n m => m.apply n) s.sl.live.notices })
          (be1 l.length ++ l.flatMap fun m => be1 m.level)

/-! ## Settings sections (R175) -/

/-- GETP (R175): PART carries the values in effect too; section 6 is SAVE_STATE. A reply above 1100 bytes is sent whole
(log 86). -/
def takeGetp (s : State) (line section_ sline : Nat) : Answer :=
  onPart s line <|
    match section_ with
    | 1 => okWith s (s.sl.live.contents 1 0 ++ be2 s.stc.size ++ be4 s.sl.linkRate)
    | 2 =>
      match lineOf sline with
      | some i => okWith s (s.sl.live.contents 2 i)
      | none => refuse s .badArgument
    | 3 => okWith s (s.sl.live.contents 3 0)
    | 4 => okWith s (s.sl.live.contents 4 0)
    | 5 => okWith s (s.sl.live.contents 5 0)
    | 6 => okWith s (be1 s.sl.saveState.code ++ be1 s.sl.lastSave.code ++ be1 s.sl.source.code
        ++ be1 (if s.sl.present then 0 else 1))
    | _ => refuse s .badArgument

/-- A static caller list that SETP takes: at most 32 entries, each of them one that CTAD would take (R173). -/
def callersTaken (c : List Byte) : Bool :=
  match callersOf c with
  | some l => decide (l.length ≤ 32) && l.all fun r => r.entry.isSome
  | none => false

/-- Every reference and enumerated value of a section is good (R175). -/
def sectionTaken (code : Nat) (c : List Byte) : Bool :=
  match code with
  | 1 => true
  | 2 => (lineOf (at1 c 0)).isSome && lineDefined c
  | 3 => true
  | 4 => true
  | 5 => callersTaken c
  | _ => false

/-- Places a static caller entry in the Caller Table as CTAD does (R175). -/
def Ct.placeStatic (t : Ct) (c : StaticCaller) : Ct :=
  match t.addEntry c.number c.cls c.label with
  | some (t1, _) => t1
  | none => t

/-- The lines that a change of membership adds to some group (R38). -/
def addedLines (old new : Four (Four Bool)) : List LineNo :=
  lineNos.filter fun i => lineNos.any fun g => (new.get g).get i && !(old.get g).get i

/-- A section stored takes effect at the block that owns it (R175, R38, R43): group states are recomputed, and each line
added to a group has its dispatch event; static callers are placed in the Caller Table. -/
def State.settingTakes (s : State) (code : Nat) (old : Settings) : State :=
  match code with
  | 3 => (addedLines old.groups s.sl.live.groups).foldl (fun t i => t.lineEvent i) s.recomputeGroups
  | 5 => { s with ct := s.sl.live.callers.foldl Ct.placeStatic s.ct }
  | _ => s

/-- SETP (R175). Contents that do not fit a known section are MALFORMED ahead of the line byte's check (R162, R166). -/
def takeSetp (s : State) (line section_ : Nat) (contents : List Byte) : Answer :=
  if 1 ≤ section_ ∧ section_ ≤ 5 ∧ sectionFits section_ contents = false then refuse s .malformed
  else
    onPart s line <|
      if sectionTaken section_ contents then
        let old := s.sl.live
        let s1 := s.withLive (old.apply section_ contents)
        okWith (s1.settingTakes section_ old)
          (s1.sl.live.contents section_ ((lineOf (at1 contents 0)).getD 0))
      else refuse s .badArgument

/-! ## Saving (R176) -/

/-- SAVE (R176). -/
def takeSave (s : State) (line : Nat) : Answer :=
  onPart s line <|
    if s.sl.saveState = .writing then refuse s .busy
    else if s.sl.present = false then refuse s .notFound
    else
      okWith { s with sl := { s.sl with
          saveState := .writing, snapshot := some s.sl.live.image, saveDue := some (s.now + 1500) } }
        (be1 s.sl.lastSave.code)

/-- A save ends (R176): the EEPROM holds the snapshot, or is torn. -/
def Sl.saved (l : Sl) (b : List Byte) (r : SaveEnd) : Sl :=
  match r with
  | .matched =>
    { l with saveState := .idle, lastSave := .done, snapshot := none, saveDue := none, eeprom := .image b }
  | .noAcknowledge | .mismatch | .timeout =>
    { l with saveState := .failed, lastSave := .failed, snapshot := none, saveDue := none, eeprom := .torn }

/-- SAVE_END (R176): while a snapshot is being written; the timeout comes 1500 ms after the SAVE. -/
def execSaveEnd (result : SaveEnd) (s : State) : Host.Outcome State Fault Refusal :=
  react s fun s =>
    match s.sl.snapshot with
    | some b =>
      let s1 := if result = .timeout then s.reach (s.sl.saveDue.getD s.now) else s
      { s1 with sl := s1.sl.saved b result }
    | none => s

/-! ## Resets and counters (R177, R179) -/

/-- RSET SOFT (R177, R172): the reply joins the reply queue the reset has emptied. -/
def takeRsetSoft (s : State) (line : Nat) : Answer := onPart s line (okWith s.softReset [])

/-- RSET HARD (R177): the reset itself comes when the reply has been sent. -/
def takeRsetHard (s : State) (line : Nat) : Answer :=
  onPart s line (okWith { s with lp := { s.lp with hardPending := true } } [])

/-- RSET as its record carries it (R162): HARD 0, SOFT 1. -/
def takeRset (s : State) (line kind : Nat) : Answer :=
  match kind with
  | 0 => takeRsetHard s line
  | 1 => takeRsetSoft s line
  | _ => refuse s .badArgument

/-- The counters of a line, in the order of R179. -/
def LineCounters.list (c : LineCounters) : List Nat :=
  [c.callsIn, c.callsOut, c.answered, c.progressFailures, c.digits, c.digitsDropped, c.fallbacks, c.forwards,
   c.forwardsDenied, c.retrains, c.blocksSent, c.blocksGood, c.badChecks, c.resends, c.txOverrun, c.rxOverrun,
   c.discarded, c.faxSent, c.faxReceived, c.faxResent, c.parity, c.greetingsSkipped]

/-- The part-wide counters, in the order of R179. -/
def PartCounters.list (c : PartCounters) : List Nat :=
  [c.clidBad, c.learningDropped, c.eventsLost, c.storeParity, c.overrun, c.badRecords, c.stray]

/-- CNTR (R179). -/
def takeCntr (s : State) (line selector clear : Nat) : Answer :=
  onPart s line <|
    match flagOf clear with
    | none => refuse s .badArgument
    | some b =>
      if selector = 15 then okWith (if b then { s with cnt := {} } else s) (s.cnt.list.flatMap be4)
      else
        match lineOf selector with
        | some i => okWith (if b then s.updCnt i fun _ => {} else s) ((s.line i).cnt.list.flatMap be4)
        | none => refuse s .badArgument

/-- POWER_ON (R177). -/
def execPowerOn (s : State) : Host.Outcome State Fault Refusal := .next (s.hardReset .powerOn)

/-- RESET_PIN (R177). -/
def execResetPin (s : State) : Host.Outcome State Fault Refusal := .next (s.hardReset .resetPin)

/-- CLOCK_LOSS (R177). -/
def execClockLoss (s : State) : Host.Outcome State Fault Refusal := .next (s.hardReset .clockLoss)

/-! ## Start-up (R174, R178) -/

/-- START_UP (R178): loading begins in a part held in hard reset. -/
def execStartUp (s : State) : Host.Outcome State Fault Refusal :=
  .next (if s.phase = .held then { s with phase := .loading } else s)

/-- What the EEPROM gives where it acknowledges: the bytes read, or what the part itself last left there (R176,
log 27). Absent: a torn image. -/
def Eeprom.gives (e : Eeprom) (b : List Byte) : Option (List Byte) :=
  match e with
  | .untouched => some b
  | .image x => some x
  | .torn => none

/-- The live copy, source and presence a load gives (R174). -/
def judgeImage (e : Eeprom) (read : Option (List Byte)) : Settings × Source × Bool :=
  match read with
  | none => ({}, .defaultsAbsent, false)
  | some b =>
    match e.gives b with
    | some x => if imageGood x then (imageSettings x, .loaded, true) else ({}, .defaultsBad, true)
    | none => ({}, .defaultsBad, true)

/-- Places a static caller of the image at the next position (R49): one already placed, or LEARNED, is skipped. -/
def Ct.rebuild (t : Ct) (c : StaticCaller) : Ct :=
  if c.cls = .learned ∨ (t.find c.number).isSome then t
  else
    match t.table.findIdx? (·.isNone) with
    | some k =>
      t.put k (some { number := c.number, cls := c.cls, count := 0, lastOrdinal := 0, label := labelOf c.label })
    | none => t

/-- The Settings Loader at the end of loading (R174). -/
def Sl.loaded (l : Sl) (r : Settings × Source × Bool) : Sl :=
  { l with
    live := r.1, linkRate := r.1.part.linkRate, source := r.2.1, present := r.2.2, saveState := .idle
    lastSave := .none, snapshot := none, saveDue := none }

/-- The blocks take their settings at the apply step (R178, R133, R16, R48, R49). -/
def State.applySettings (s : State) : State :=
  let t := s.sl.live
  let s1 : State := { s with
    stc := { s.stc with size := t.part.storeSize }, ct := t.callers.foldl Ct.rebuild {}
    lines := s.lines.map fun l => { l with lif := { l.lif with intervalDue := some (s.now + 2000) } } }
  { s1 with gd := { s1.gd with
      groupState := ⟨s1.groupStateOf 0, s1.groupStateOf 1, s1.groupStateOf 2, s1.groupStateOf 3⟩ } }

/-- Start-up ends (R178): load, apply, announce. -/
def State.startUpEnds (s : State) (read : Option (List Byte)) : State :=
  let s1 : State := { s with sl := s.sl.loaded (judgeImage s.sl.eeprom read), phase := .running }
  s1.applySettings.raisePart .strt

/-- SETTINGS_LOADED (R174, R178). -/
def execSettingsLoaded (read : Option (List Byte)) (s : State) : Host.Outcome State Fault Refusal :=
  .next (if s.phase = .loading then s.startUpEnds read else s)

end Sys2Proof.Machine
end

