-- ==== Sys2Proof/Machine/RecordOps.lean ====
section
/-! DEFINITION. Requests as their records spell them (R162), and how each is answered (R166). -/

namespace Sys2Proof.Machine

open Sys2Proof

/-! ## The frame of a record (R162) -/

/-- The check byte: the sum from kind to check is 0 modulo 256 (R162). -/
def checkByte (b : List Byte) : Byte := BitVec.ofNat 8 (256 - byteSum b % 256)

/-- The bytes of a record after its lead: kind, line, tag, length, payload, check (R162). -/
def recordBytes (kind line tag : Nat) (payload : List Byte) : List Byte :=
  let b := be1 kind ++ be1 line ++ be1 tag ++ be2 payload.length ++ payload
  b ++ [checkByte b]

/-! ## Names (R162) -/

/-- The name of a request. -/
def Request.name : Request → List Byte
  | .call .. | .callGroup .. => chars 'C' 'A' 'L' 'L'
  | .ansr .. => chars 'A' 'N' 'S' 'R' | .rels .. => chars 'R' 'E' 'L' 'S' | .digr => chars 'D' 'I' 'G' 'R'
  | .tone .. => chars 'T' 'O' 'N' 'E' | .cncl .. => chars 'C' 'N' 'C' 'L' | .ctad .. => chars 'C' 'T' 'A' 'D'
  | .ctdl .. => chars 'C' 'T' 'D' 'L' | .ctrd .. => chars 'C' 'T' 'R' 'D' | .budg => chars 'B' 'U' 'D' 'G'
  | .flow .. => chars 'F' 'L' 'O' 'W' | .faxs .. => chars 'F' 'A' 'X' 'S' | .faxr .. => chars 'F' 'A' 'X' 'R'
  | .fxst => chars 'F' 'X' 'S' 'T' | .fxab => chars 'F' 'X' 'A' 'B' | .scrt .. => chars 'S' 'C' 'R' 'T'
  | .scls .. => chars 'S' 'C' 'L' 'S' | .sdel .. => chars 'S' 'D' 'E' 'L' | .atch .. => chars 'A' 'T' 'C' 'H'
  | .dtch .. => chars 'D' 'T' 'C' 'H' | .swrt .. => chars 'S' 'W' 'R' 'T' | .sred .. => chars 'S' 'R' 'E' 'D'
  | .slst .. => chars 'S' 'L' 'S' 'T' | .ssta => chars 'S' 'S' 'T' 'A' | .pack .. => chars 'P' 'A' 'C' 'K'
  | .play .. => chars 'P' 'L' 'A' 'Y' | .recd .. => chars 'R' 'E' 'C' 'D' | .paus .. => chars 'P' 'A' 'U' 'S'
  | .vstp => chars 'V' 'S' 'T' 'P' | .take => chars 'T' 'A' 'K' 'E' | .nmsk .. => chars 'N' 'M' 'S' 'K'
  | .getp .. => chars 'G' 'E' 'T' 'P' | .setp .. => chars 'S' 'E' 'T' 'P' | .save => chars 'S' 'A' 'V' 'E'
  | .rset .. => chars 'R' 'S' 'E' 'T' | .cntr .. => chars 'C' 'N' 'T' 'R'
  | .malformed n => n
  | .unknown p => (p ++ [0, 0, 0, 0]).take 4

/-! ## Reading the fields of a request (R162, R166) -/

/-- Reads the fields of a request; absent where they are longer or shorter than its form calls for. -/
abbrev Reader := List Byte → Option Request

/-- One byte, then the rest. -/
def p1 (k : Nat → Reader) : Reader := fun l =>
  match rd1 l with
  | some (n, r) => k n r
  | none => none

/-- Two bytes, then the rest. -/
def p2 (k : Nat → Reader) : Reader := fun l =>
  match rd2 l with
  | some (n, r) => k n r
  | none => none

/-- Four bytes, then the rest. -/
def p4 (k : Nat → Reader) : Reader := fun l =>
  match rd4 l with
  | some (n, r) => k n r
  | none => none

/-- A number of bytes, then the rest. -/
def pN (n : Nat) (k : List Byte → Reader) : Reader := fun l =>
  match rdN n l with
  | some (b, r) => k b r
  | none => none

/-- A string, then the rest. -/
def pStr (k : List Byte → Reader) : Reader := p1 fun n => pN n k

/-- The end of the fields. -/
def pEnd (r : Request) : Reader := rdEnd r

/-- Pairs of bytes. -/
def pairsOf : List Byte → List (Nat × Nat)
  | a :: b :: r => (a.toNat, b.toNat) :: pairsOf r
  | _ => []

/-- A dial list: a count, then two bytes per element. -/
def pDial (k : List (Nat × Nat) → Reader) : Reader := p1 fun n => pN (2 * n) fun b => k (pairsOf b)

/-- The settings of NMSK: a four-byte name and three bytes each. -/
def maskFields : Nat → List Byte → List (List Byte × Nat × Nat × Nat)
  | 0, _ => []
  | n + 1, l => (l.take 4, at1 l 4, at1 l 5, at1 l 6) :: maskFields n (l.drop 7)

/-- The fields of CALL: its form for a group with the part-wide line number, else its form for a line. -/
def pCall (line : Nat) : Reader :=
  if line = 15 then
    p1 fun g => p1 fun k => p1 fun m => p1 fun f => p2 fun w => p2 fun t => pDial fun d => pEnd (.callGroup g k m f w t d)
  else p1 fun k => p1 fun m => p1 fun f => pDial fun d => pEnd (.call k m f d)

/-- The fields of each name the part knows, in the order of the table of R162. -/
def readers (line : Nat) : List (List Byte × Reader) :=
  [(chars 'C' 'A' 'L' 'L', pCall line),
   (chars 'A' 'N' 'S' 'R', p1 fun k => p1 fun m => p1 fun f => pEnd (.ansr k m f)),
   (chars 'R' 'E' 'L' 'S', p1 fun d => pEnd (.rels d)),
   (chars 'D' 'I' 'G' 'R', pEnd .digr),
   (chars 'T' 'O' 'N' 'E', pStr fun b => pEnd (.tone b)),
   (chars 'C' 'N' 'C' 'L', p1 fun e => pEnd (.cncl e)),
   (chars 'C' 'T' 'A' 'D', pStr fun n => p1 fun c => pStr fun b => pEnd (.ctad n c b)),
   (chars 'C' 'T' 'D' 'L', p1 fun p => pEnd (.ctdl p)),
   (chars 'C' 'T' 'R' 'D', p1 fun p => pEnd (.ctrd p)),
   (chars 'B' 'U' 'D' 'G', pEnd .budg),
   (chars 'F' 'L' 'O' 'W', p1 fun v => pEnd (.flow v)),
   (chars 'F' 'A' 'X' 'S', pStr fun b => p1 fun r => p1 fun w => p1 fun p => pEnd (.faxs (b.map BitVec.toNat) r w p)),
   (chars 'F' 'A' 'X' 'R', p1 fun p => pEnd (.faxr p)),
   (chars 'F' 'X' 'S' 'T', pEnd .fxst),
   (chars 'F' 'X' 'A' 'B', pEnd .fxab),
   (chars 'S' 'C' 'R' 'T', p1 fun k => p2 fun e => p1 fun m => pEnd (.scrt k e m)),
   (chars 'S' 'C' 'L' 'S', p1 fun i => pEnd (.scls i)),
   (chars 'S' 'D' 'E' 'L', p1 fun i => pEnd (.sdel i)),
   (chars 'A' 'T' 'C' 'H', p1 fun s => p1 fun i => p1 fun r => pEnd (.atch s i r)),
   (chars 'D' 'T' 'C' 'H', p1 fun s => pEnd (.dtch s)),
   (chars 'S' 'W' 'R' 'T', p1 fun i => p2 fun n => pN n fun b => pEnd (.swrt i b)),
   (chars 'S' 'R' 'E' 'D', p1 fun i => p4 fun o => p2 fun n => pEnd (.sred i o n)),
   (chars 'S' 'L' 'S' 'T', p1 fun i => pEnd (.slst i)),
   (chars 'S' 'S' 'T' 'A', pEnd .ssta),
   (chars 'P' 'A' 'C' 'K', p1 fun a => p1 fun r => pEnd (.pack a r)),
   (chars 'P' 'L' 'A' 'Y', p1 fun s => p2 fun c => p1 fun r => p2 fun g => p1 fun d => pEnd (.play s c r g d)),
   (chars 'R' 'E' 'C' 'D', p1 fun s => p2 fun l => p1 fun q => p2 fun t => p1 fun d => pEnd (.recd s l q t d)),
   (chars 'P' 'A' 'U' 'S', p1 fun v => pEnd (.paus v)),
   (chars 'V' 'S' 'T' 'P', pEnd .vstp),
   (chars 'T' 'A' 'K' 'E', pEnd .take),
   (chars 'N' 'M' 'S' 'K', p1 fun n => pN (7 * n) fun b => pEnd (.nmsk (maskFields n b))),
   (chars 'G' 'E' 'T' 'P', p1 fun c => p1 fun i => pEnd (.getp c i)),
   (chars 'S' 'E' 'T' 'P', p1 fun c => fun b => some (.setp c b)),
   (chars 'S' 'A' 'V' 'E', pEnd .save),
   (chars 'R' 'S' 'E' 'T', p1 fun k => pEnd (.rset k)),
   (chars 'C' 'N' 'T' 'R', p1 fun c => p1 fun f => pEnd (.cntr c f))]

/-- The request of a payload (R166): a name that the part does not know, fields that do not fit a known one, or the
request. The contents of SETP are judged by `takeSetp`. -/
def requestOf (line : Nat) (payload : List Byte) : Request :=
  if payload.length < 4 then .unknown payload
  else
    match (readers line).find? fun x => x.1 == payload.take 4 with
    | none => .unknown payload
    | some x =>
      match x.2 (payload.drop 4) with
      | some r => r
      | none => .malformed (payload.take 4)

/-! ## Answering (R165, R166) -/

/-- The answer to a request (R166): each by its own rule. -/
def answerRequest (s : State) (line : Nat) : Request → Answer
  | .call k m f d => takeCall s line k m f d
  | .callGroup g k m f w t d => takeCallGroup s line g k m f w t d
  | .ansr k m f => takeAnsr s line k m f
  | .rels d => takeRels s line d
  | .digr => takeDigr s line
  | .tone d => takeTone s line d
  | .cncl e => takeCncl s line e
  | .ctad n c b => takeCtad s line n c b
  | .ctdl p => takeCtdl s line p
  | .ctrd p => takeCtrd s line p
  | .budg => takeBudg s line
  | .flow v => takeFlow s line v
  | .faxs p r w q => takeFaxs s line p r w q
  | .faxr p => takeFaxr s line p
  | .fxst => takeFxst s line
  | .fxab => takeFxab s line
  | .scrt k e m => takeScrt s line k e m
  | .scls i => takeScls s line i
  | .sdel i => takeSdel s line i
  | .atch k i r => takeAtch s line k i r
  | .dtch k => takeDtch s line k
  | .swrt i b => takeSwrt s line i b
  | .sred i o n => takeSred s line i o n
  | .slst i => takeSlst s line i
  | .ssta => takeSsta s line
  | .pack a r => takePack s line a r
  | .play k c r g d => takePlay s line k c r g d
  | .recd k l q t d => takeRecd s line k l q t d
  | .paus v => takePaus s line v
  | .vstp => takeVstp s line
  | .take => takeTake s line
  | .nmsk l => takeNmsk s line l
  | .getp c i => takeGetp s line c i
  | .setp c b => takeSetp s line c b
  | .save => takeSave s line
  | .rset k => takeRset s line k
  | .cntr c f => takeCntr s line c f
  | .malformed _ => refuse s .malformed
  | .unknown _ => refuse s .unknown

end Sys2Proof.Machine
end

