-- ==== Sys2Proof/Machine/LinkPort.lean ====
section
/-! DEFINITION. The Link Port and the Notice Unit: receiving records (R163, R164), taking them (R165), choosing and
sending records (R168), notices and their contents (R162, R169), link errors (R171). -/

namespace Sys2Proof.Machine

open Sys2Proof

/-! ## Link error counts (R171) -/

/-- A link error count rises by one and LERR is raised; one at its upper end changes nothing. -/
def State.linkError (s : State) (f : PartCounters → PartCounters) : State :=
  if f s.cnt = s.cnt then s else ({ s with cnt := f s.cnt }).raisePart .lerr

/-- A record is discarded for its length, check, kind or gap (R163). -/
def State.badRecord (s : State) : State := s.linkError fun c => { c with badRecords := satAdd c.badRecords 1 }

/-! ## Taking records (R165, R167) -/

/-- A reply joins the tail of the reply queue (R167). -/
def State.addReply (s : State) (r : Reply) : State := { s with lp := { s.lp with replies := s.lp.replies ++ [r] } }

/-- A DATA_IN is taken (R165): to the line's link in a data call, else counted as stray. -/
def State.takeDataIn (s : State) (line : Nat) (bytes : List Byte) : State :=
  match lineOf line with
  | some i =>
    if (s.line i).cc.connectedData then s.takeData i bytes
    else s.linkError fun c => { c with stray := satAdd c.stray 1 }
  | none => s.linkError fun c => { c with stray := satAdd c.stray 1 }

/-- A request is taken (R165, R166): decided in full, its reply placed at the tail. -/
def State.takeRequest (s : State) (line tag : Nat) (r : Request) : State :=
  let a := answerRequest s line r
  a.state.addReply { line := line, tag := tag, name := r.name, status := a.status, fields := a.fields }

/-- A record of the inbound buffer is taken. -/
def State.takeRecord (s : State) (r : Inbound) : State :=
  match r.body with
  | .data b => s.takeDataIn r.line b
  | .request q => s.takeRequest r.line r.tag q

/-- The head record can be taken (R165, R177): taking is OPEN, no RSET HARD has been taken, and a request finds room in
the reply queue. -/
def Lp.canTake (p : Lp) (r : Inbound) : Bool :=
  p.open_ && !p.hardPending &&
    (match r.body with
      | .data _ => true
      | .request _ => decide (p.replies.length < 8))

/-- Takes records from the head while they can be taken, each with the hand-out of the units it releases; at most `n`,
the number in the buffer. -/
def drainN : Nat → State → State
  | 0, s => s
  | n + 1, s =>
    match s.lp.inbound with
    | [] => s
    | r :: rest =>
      if s.lp.canTake r then
        drainN n ((({ s with lp := { s.lp with inbound := rest } }).takeRecord r).settle)
      else s

/-- The records that can be taken are taken (R165). -/
def State.drain (s : State) : State := drainN s.lp.inbound.length s

/-! ## Receiving records (R163, R164) -/

/-- A record is offered to the inbound buffer (R164): joined, or discarded and counted as overrun. -/
def State.offer (s : State) (r : Inbound) : State :=
  if s.lp.inbound.length < 4 then { s with lp := { s.lp with inbound := s.lp.inbound ++ [r] } }
  else s.linkError fun c => { c with overrun := satAdd c.overrun 1 }

/-- BUSY is asserted while the buffer holds four records (R164). -/
def State.busy (s : State) : Bool := decide (4 ≤ s.lp.inbound.length)

/-- The record that whole bytes are, kind to check (R162, R163): absent where it is to be discarded. -/
def recordOf (b : List Byte) : Option Inbound :=
  let payload := (b.drop 5).take (at2 b 3)
  if byteSum b % 256 ≠ 0 then none
  else if at1 b 0 = 1 then some { line := at1 b 1, tag := at1 b 2, body := .request (requestOf (at1 b 1) payload) }
  else if at1 b 0 = 4 then some { line := at1 b 1, tag := at1 b 2, body := .data payload }
  else none

/-- A whole record is judged (R163). -/
def State.judgeRecord (s : State) (b : List Byte) : State :=
  match recordOf b with
  | some r => (s.offer r).drain
  | none => s.badRecord

/-- The receiver goes back to HUNT. -/
def State.hunt (s : State) : State := { s with lp := { s.lp with receiver := .hunt, gapDue := none } }

/-- The receiver collects, its gap timer restarted (R163). -/
def State.collect (s : State) (b : List Byte) : State :=
  { s with lp := { s.lp with receiver := .collect b, gapDue := some (s.now + 100) } }

/-- One byte arrives (R163). -/
def State.receiveByte (s : State) (x : Byte) : State :=
  match s.lp.receiver with
  | .hunt => if x.toNat = 165 then s.collect [] else s
  | .collect l =>
    let b := l ++ [x]
    if b.length = 5 ∧ 1100 < at2 b 3 then s.hunt.badRecord
    else if 6 ≤ b.length ∧ b.length = at2 b 3 + 6 then s.hunt.judgeRecord b
    else s.collect b

/-- Bytes arrive one after another. -/
def State.receiveBytes (s : State) (l : List Byte) : State := l.foldl State.receiveByte s

/-- RECORD_RECEIVED (R163): the lead byte and the bytes of the record. -/
def execRecordReceived (bytes : List Byte) (s : State) : Host.Outcome State Fault Refusal :=
  react s fun s => s.receiveBytes (165 :: bytes)

/-- HOST_LINK_BYTE_RECEIVED (R163). -/
def execHostLinkByteReceived (b : Byte) (s : State) : Host.Outcome State Fault Refusal :=
  react s fun s => s.receiveByte b

/-- INBOUND_GAP_EXPIRY (R163). -/
def execInboundGapExpiry (s : State) : Host.Outcome State Fault Refusal :=
  react s fun s => onExpiry s.lp.gapDue s fun s => s.hunt.badRecord

/-- A record from the host that arrives whole and good: offered to the inbound buffer, and taken as soon as it can be
(R164, R165, log 5). -/
def hostRecord (s : State) (line tag : Nat) (b : InBody) : Host.Outcome State Fault Refusal :=
  react s fun s => (s.offer { line := line, tag := tag, body := b }).drain

/-! ## Notices (R162, R169) -/

/-- A flag is eligible: set and unmasked (R169). STRT is never masked (R170). -/
def State.eligibleNotice (s : State) (k : Notice) (i : LineNo) : Bool :=
  s.flag k i && !(match s.sl.live.notices[k.idx]? with
    | some c => c.masked.get i
    | none => false)

/-- The level of a kind. -/
def State.level (s : State) (k : Notice) : Nat :=
  match s.sl.live.notices[k.idx]? with
  | some c => c.level
  | none => 3

/-- The eligible flags, by the default order and then by line. -/
def State.noticeList (s : State) : List (Notice × LineNo) :=
  noticeKinds.flatMap fun k =>
    ((if k.partWide then [0] else lineNos).filter fun i => s.eligibleNotice k i).map fun i => (k, i)

/-- The flag chosen (R169): the first of the lowest level. -/
def State.chooseNotice (s : State) : Option (Notice × LineNo) :=
  s.noticeList.foldl (fun best x => match best with
    | none => some x
    | some b => if s.level x.1 < s.level b.1 then some x else some b) none

/-- The caller class CLID shows: that given for the call, UNKNOWN for a call without a caller record (R29, R50). -/
def Line.shownClass (l : Line) : CallerClass :=
  match l.cc.caller with
  | some _ => l.apc.callerClass.getD .unknown
  | none => .unknown

/-- The call kind CALL shows: that of a CONNECTED call (R37). -/
def Cc.shownKind (c : Cc) : Option CallKind := if c.state = .connected then c.kind else none

/-- The content of a line's notice as its owner stands (notice table of R162). -/
def Line.notice (l : Line) (t : Stc) (k : Notice) : List Byte :=
  match k with
  | .clrd => be1? (l.cc.endReason.map EndReason.code) ++ be4 l.cc.connSecs
  | .call => be1 l.cc.state.code ++ be1? (l.cc.shownKind.map CallKind.code) ++ be1 l.cc.outcome.code
  | .svce => be1 l.lif.service.code
  | .faxj =>
    be1? (l.fxc.job.bind fun j => j.outcome.map FaxOutcome.code)
      ++ be1 (match l.fxc.job with
        | some j => j.pagesDone
        | none => 0)
  | .plan =>
    be1? (l.apc.planResult.map fun r => r.outcome.code) ++ be1? (l.apc.planResult.bind fun r => r.id)
  | .ring => be1 l.lif.ringCount
  | .clid =>
    beStr? (l.cc.caller.bind (·.number)) ++ beStr? (l.cc.caller.bind (·.name))
      ++ be1 l.shownClass.code
  | .dgts => be1 l.tu.digits.length
  | .voic =>
    be1? (l.vc.lastResult.map fun r => r.outcome.code) ++ be1? (l.vc.lastResult.map (·.id))
      ++ be4 (match l.vc.lastResult.bind fun r => t.entry r.id with
        | some e => e.used
        | none => 0)
  | .faxp => be1? (l.fxc.faxp.map (·.id)) ++ be2? (l.fxc.faxp.map (·.missing))
  | .msgn => be1? (l.apc.lastKept.map (·.1)) ++ be1? (l.apc.lastKept.map (·.2))
  | .link => be1? (l.blc.mode.map LinkMode.code) ++ be1 l.blc.link.code
  | .qual => be1? (l.dp.cur.map Cls.code) ++ be1 (l.dp.acc / 8)
  | .txlv => be1 (if l.blc.txHigh then 1 else 0)
  | .strt | .grup | .cque | .pack | .lerr => []

/-- A queue event in CQUE (R47, R162). -/
def QEvent.bytes (e : QEvent) : List Byte :=
  be1 e.kind.code ++ be1 e.entry ++ be2 e.tag ++ be1? (e.line.map (·.val))

/-- The content of a notice as its owner stands (R162). -/
def State.notice (s : State) (k : Notice) (i : LineNo) : List Byte :=
  match k with
  | .strt => be1 s.cause.code ++ be1 s.sl.source.code ++ be2 s.stc.size
  | .grup => s.gd.groupState.toList.flatMap fun g => be1 g.code
  | .cque => be1 s.nu.queueEvents.length ++ s.nu.queueEvents.flatMap QEvent.bytes
  | .pack => packFields s.stc.packResult
  | .lerr => be4 s.cnt.overrun ++ be4 s.cnt.badRecords ++ be4 s.cnt.stray
  | .clrd | .call | .svce | .faxj | .plan | .ring | .clid | .dgts | .voic | .faxp | .msgn | .link | .qual | .txlv =>
    (s.line i).notice s.stc k

/-- A notice is chosen (R169): its flag is cleared and its content built; CQUE empties the queue-event list (R47). -/
def State.formNotice (s : State) (k : Notice) (i : LineNo) : State × OutRec :=
  let rec1 : OutRec := .notice k (if k.partWide then 15 else i.val) (s.notice k i)
  let s1 := s.setFlag k i false
  (if k = .cque then { s1 with nu := { s1.nu with queueEvents := [] } } else s1, rec1)

/-! ## The outbound frame (R162) -/

/-- The payload of a reply: name, status, fields. -/
def Reply.payload (r : Reply) : List Byte := r.name ++ be1 r.status.code ++ r.fields

/-- The bytes of a record from the part, as they go out: the lead, then kind, line, tag, length, payload and check. A
NOTICE and a DATA_OUT carry tag 0 (R162). -/
def OutRec.wire : OutRec → List Byte
  | .reply r => 165 :: recordBytes 2 r.line r.tag r.payload
  | .notice k line content => 165 :: recordBytes 3 line 0 (k.name ++ content)
  | .dataOut i bytes => 165 :: recordBytes 5 i.val 0 bytes

/-! ## Sending records (R168) -/

/-- The line of the next DATA_OUT: the first ready one from the line after the data pointer on (R168). -/
def State.nextData (s : State) : Option LineNo :=
  (scanAfter s.lp.dataPointer).find? fun i => (s.line i).dataReady

/-- A reply or a notice starts to be sent: the non-data run rises where a DATA_OUT was ready, else goes to 0 (R168). -/
def State.sendOther (s : State) (r : OutRec) (dataWaits : Bool) : State :=
  { s with lp := { s.lp with
      sending := some r, nonDataRun := if dataWaits then min 8 (s.lp.nonDataRun + 1) else 0 } }

/-- A DATA_OUT is formed and starts to be sent (R85, R168). -/
def State.sendData (s : State) (i : LineNo) : State :=
  let r := s.formDataOut i
  { r.1 with lp := { r.1.lp with sending := some (.dataOut i r.2), nonDataRun := 0, dataPointer := i } }

/-- The arbiter's choice behind a DATA_OUT due after eight other records: a reply, a notice, a DATA_OUT (R168). From the
taking of RSET HARD it chooses replies alone (R177). -/
def State.chooseOther (s : State) : State :=
  let data := s.nextData
  match s.lp.replies with
  | r :: rest => ({ s with lp := { s.lp with replies := rest } }).sendOther (.reply r) data.isSome
  | [] =>
    if s.lp.hardPending then s
    else
      match s.chooseNotice with
      | some (k, i) =>
        let n := s.formNotice k i
        n.1.sendOther n.2 data.isSome
      | none =>
        match data with
        | some i => s.sendData i
        | none => s

/-- The outbound arbiter chooses the next record (R168). -/
def State.chooseRecord (s : State) : State :=
  match s.nextData with
  | some i => if s.lp.nonDataRun = 8 ∧ s.lp.hardPending = false then s.sendData i else s.chooseOther
  | none => s.chooseOther

/-- The last byte of a record has been sent (R165, R177): STRT opens the taking of records, the reply to RSET HARD
begins the hard reset. -/
def State.sendEnds (s : State) (r : OutRec) : State :=
  let s1 : State := { s with lp := { s.lp with sending := none } }
  match r with
  | .notice .strt _ _ => { s1 with lp := { s1.lp with open_ := true } }
  | .reply _ => if s.lp.hardPending ∧ s.lp.replies.isEmpty then s1.hardReset .hostHard else s1
  | _ => s1

/-- RECORD_SENT on a running part (R168, log 6): the record being sent ends, records that wait are taken, and the next is
chosen, which may make room for a waiting request. -/
def State.recordSent (s : State) : State :=
  let s1 := match s.lp.sending with
    | some r => (s.sendEnds r).drain
    | none => s
  if s1.phase = .running then s1.chooseRecord.drain else s1

/-- RECORD_SENT (R168). -/
def execRecordSent (s : State) : Host.Outcome State Fault Refusal := react s fun s => s.recordSent

end Sys2Proof.Machine
end

