-- ==== Sys2Proof/Machine/Requests.lean ====
section
/-! DEFINITION. Meanings of the commands that a record of the host carries: each is offered to the inbound buffer, taken
as soon as it can be (R164, R165), and answered by its own rule (`answerRequest`). -/

namespace Sys2Proof.Machine

open Sys2Proof

/-- DATA_IN (R84, R165). -/
def execDataIn (line tag : Nat) (bytes : List Byte) (s : State) : Host.Outcome State Fault Refusal :=
  hostRecord s line tag (.data bytes)

/-- CALL naming a line (R19). -/
def execCall (line tag kind maxc floor : Nat) (dial : List (Nat × Nat)) (s : State) :
    Host.Outcome State Fault Refusal :=
  hostRecord s line tag (.request (.call kind maxc floor dial))

/-- CALL naming a group, with the part-wide line number (R40). -/
def execCallGroup (tag group kind maxc floor wait hostTag : Nat) (dial : List (Nat × Nat)) (s : State) :
    Host.Outcome State Fault Refusal :=
  hostRecord s 15 tag (.request (.callGroup group kind maxc floor wait hostTag dial))

/-- ANSR (R26). -/
def execAnsr (line tag kind maxc floor : Nat) (s : State) : Host.Outcome State Fault Refusal :=
  hostRecord s line tag (.request (.ansr kind maxc floor))

/-- DIGR (R31). -/
def execDigr (line tag : Nat) (s : State) : Host.Outcome State Fault Refusal :=
  hostRecord s line tag (.request (.digr))

/-- TONE (R32). -/
def execTone (line tag : Nat) (digits : List Byte) (s : State) : Host.Outcome State Fault Refusal :=
  hostRecord s line tag (.request (.tone digits))

/-- RELS (R35). -/
def execRels (line tag drain : Nat) (s : State) : Host.Outcome State Fault Refusal :=
  hostRecord s line tag (.request (.rels drain))

/-- CNCL (R45). -/
def execCncl (line tag entry : Nat) (s : State) : Host.Outcome State Fault Refusal :=
  hostRecord s line tag (.request (.cncl entry))

/-- CTAD (R52). -/
def execCtad (line tag : Nat) (number : List Byte) (cls : Nat) (label : List Byte) (s : State) :
    Host.Outcome State Fault Refusal :=
  hostRecord s line tag (.request (.ctad number cls label))

/-- CTDL (R53). -/
def execCtdl (line tag position : Nat) (s : State) : Host.Outcome State Fault Refusal :=
  hostRecord s line tag (.request (.ctdl position))

/-- CTRD (R53). -/
def execCtrd (line tag start : Nat) (s : State) : Host.Outcome State Fault Refusal :=
  hostRecord s line tag (.request (.ctrd start))

/-- BUDG (R65). -/
def execBudg (line tag : Nat) (s : State) : Host.Outcome State Fault Refusal :=
  hostRecord s line tag (.request (.budg))

/-- FLOW (R85). -/
def execFlow (line tag value : Nat) (s : State) : Host.Outcome State Fault Refusal :=
  hostRecord s line tag (.request (.flow value))

/-- FAXS (R99). -/
def execFaxs (line tag : Nat) (pages : List Nat) (resolution width policy : Nat) (s : State) :
    Host.Outcome State Fault Refusal :=
  hostRecord s line tag (.request (.faxs pages resolution width policy))

/-- FAXR (R100). -/
def execFaxr (line tag policy : Nat) (s : State) : Host.Outcome State Fault Refusal :=
  hostRecord s line tag (.request (.faxr policy))

/-- FXST (R101). -/
def execFxst (line tag : Nat) (s : State) : Host.Outcome State Fault Refusal :=
  hostRecord s line tag (.request (.fxst))

/-- FXAB (R101). -/
def execFxab (line tag : Nat) (s : State) : Host.Outcome State Fault Refusal :=
  hostRecord s line tag (.request (.fxab))

/-- SCRT (R119). -/
def execScrt (line tag kind extent mailbox : Nat) (s : State) : Host.Outcome State Fault Refusal :=
  hostRecord s line tag (.request (.scrt kind extent mailbox))

/-- SCLS (R120). -/
def execScls (line tag id : Nat) (s : State) : Host.Outcome State Fault Refusal :=
  hostRecord s line tag (.request (.scls id))

/-- SDEL (R121). -/
def execSdel (line tag id : Nat) (s : State) : Host.Outcome State Fault Refusal :=
  hostRecord s line tag (.request (.sdel id))

/-- ATCH (R123). -/
def execAtch (line tag slot id right : Nat) (s : State) : Host.Outcome State Fault Refusal :=
  hostRecord s line tag (.request (.atch slot id right))

/-- DTCH (R123). -/
def execDtch (line tag slot : Nat) (s : State) : Host.Outcome State Fault Refusal :=
  hostRecord s line tag (.request (.dtch slot))

/-- SWRT (R124). -/
def execSwrt (line tag id : Nat) (bytes : List Byte) (s : State) : Host.Outcome State Fault Refusal :=
  hostRecord s line tag (.request (.swrt id bytes))

/-- SRED (R125). -/
def execSred (line tag id offset count : Nat) (s : State) : Host.Outcome State Fault Refusal :=
  hostRecord s line tag (.request (.sred id offset count))

/-- SLST (R126). -/
def execSlst (line tag start : Nat) (s : State) : Host.Outcome State Fault Refusal :=
  hostRecord s line tag (.request (.slst start))

/-- SSTA (R126). -/
def execSsta (line tag : Nat) (s : State) : Host.Outcome State Fault Refusal :=
  hostRecord s line tag (.request (.ssta))

/-- PACK START (R127). -/
def execPackStart (line tag region : Nat) (s : State) : Host.Outcome State Fault Refusal :=
  hostRecord s line tag (.request (.pack 0 region))

/-- PACK STOP (R127); the region is not read. -/
def execPackStop (line tag : Nat) (s : State) : Host.Outcome State Fault Refusal :=
  hostRecord s line tag (.request (.pack 1 0))

/-- PLAY (R139). -/
def execPlay (line tag slot startCell repeats gap stopOnDigit : Nat) (s : State) : Host.Outcome State Fault Refusal :=
  hostRecord s line tag (.request (.play slot startCell repeats gap stopOnDigit))

/-- RECD (R142). -/
def execRecd (line tag slot limit silence threshold stopOnDigit : Nat) (s : State) : Host.Outcome State Fault Refusal :=
  hostRecord s line tag (.request (.recd slot limit silence threshold stopOnDigit))

/-- PAUS (R141). -/
def execPaus (line tag value : Nat) (s : State) : Host.Outcome State Fault Refusal :=
  hostRecord s line tag (.request (.paus value))

/-- VSTP (R145). -/
def execVstp (line tag : Nat) (s : State) : Host.Outcome State Fault Refusal :=
  hostRecord s line tag (.request (.vstp))

/-- TAKE (R158). -/
def execTake (line tag : Nat) (s : State) : Host.Outcome State Fault Refusal :=
  hostRecord s line tag (.request (.take))

/-- UNKNOWN_REQUEST (R166): a name that the part does not know. -/
def execUnknownRequest (line tag : Nat) (payload : List Byte) (s : State) : Host.Outcome State Fault Refusal :=
  hostRecord s line tag (.request (.unknown payload))

/-- NMSK (R170). -/
def execNmsk (line tag : Nat) (settings : List (List Byte × Nat × Nat × Nat)) (s : State) :
    Host.Outcome State Fault Refusal :=
  hostRecord s line tag (.request (.nmsk settings))

/-- GETP (R175). -/
def execGetp (line tag section_ sline : Nat) (s : State) : Host.Outcome State Fault Refusal :=
  hostRecord s line tag (.request (.getp section_ sline))

/-- SETP (R175). -/
def execSetp (line tag section_ : Nat) (contents : List Byte) (s : State) : Host.Outcome State Fault Refusal :=
  hostRecord s line tag (.request (.setp section_ contents))

/-- SAVE (R176). -/
def execSave (line tag : Nat) (s : State) : Host.Outcome State Fault Refusal :=
  hostRecord s line tag (.request (.save))

/-- RSET SOFT (R172, R177). -/
def execRsetSoft (line tag : Nat) (s : State) : Host.Outcome State Fault Refusal :=
  hostRecord s line tag (.request (.rset 1))

/-- RSET HARD (R177). -/
def execRsetHard (line tag : Nat) (s : State) : Host.Outcome State Fault Refusal :=
  hostRecord s line tag (.request (.rset 0))

/-- CNTR (R179). -/
def execCntr (line tag selector clear : Nat) (s : State) : Host.Outcome State Fault Refusal :=
  hostRecord s line tag (.request (.cntr selector clear))

end Sys2Proof.Machine
end

