-- ==== Sys2Proof/Machine/Dispatch.lean ====
section
/-! DEFINITION. One meaning per command. -/

namespace Sys2Proof.Machine

open Sys2Proof

def exec (i : Instr) (s : State) : Host.Outcome State Fault Refusal :=
  match i with
  | .flashComplete j => Sys2Proof.Machine.execFlashComplete j s
  | .breakEnd j => Sys2Proof.Machine.execBreakEnd j s
  | .makeEnd j => Sys2Proof.Machine.execMakeEnd j s
  | .ringVoltageOnset j => Sys2Proof.Machine.execRingVoltageOnset j s
  | .burstQualified j => Sys2Proof.Machine.execBurstQualified j s
  | .ringVoltageEnd j volts => Sys2Proof.Machine.execRingVoltageEnd j volts s
  | .ringAbandoned j => Sys2Proof.Machine.execRingAbandoned j s
  | .blankingEnd j current => Sys2Proof.Machine.execBlankingEnd j current s
  | .loopCurrentAbsent j => Sys2Proof.Machine.execLoopCurrentAbsent j s
  | .loopCurrentReturn j => Sys2Proof.Machine.execLoopCurrentReturn j s
  | .loopLost j => Sys2Proof.Machine.execLoopLost j s
  | .supervisionCheck j volts => Sys2Proof.Machine.execSupervisionCheck j volts s
  | .call line tag kind maxc floor dial => Sys2Proof.Machine.execCall line tag kind maxc floor dial s
  | .callGroup tag group kind maxc floor wait hostTag dial => Sys2Proof.Machine.execCallGroup tag group kind maxc floor wait hostTag dial s
  | .dialToneQualified j => Sys2Proof.Machine.execDialToneQualified j s
  | .dialToneWaitExpiry j => Sys2Proof.Machine.execDialToneWaitExpiry j s
  | .awaitToneExpiry j => Sys2Proof.Machine.execAwaitToneExpiry j s
  | .dtmfDigitSent j => Sys2Proof.Machine.execDtmfDigitSent j s
  | .interDigitPauseEnd j => Sys2Proof.Machine.execInterDigitPauseEnd j s
  | .pauseEnd j => Sys2Proof.Machine.execPauseEnd j s
  | .cpToneStart j => Sys2Proof.Machine.execCpToneStart j s
  | .cpToneEnd j => Sys2Proof.Machine.execCpToneEnd j s
  | .cpSilenceLimit j => Sys2Proof.Machine.execCpSilenceLimit j s
  | .cpToneLimit j => Sys2Proof.Machine.execCpToneLimit j s
  | .progressFrameLevel j samples => Sys2Proof.Machine.execProgressFrameLevel j samples s
  | .answerToneDetected j tone => Sys2Proof.Machine.execAnswerToneDetected j tone s
  | .answerWaitExpiry j => Sys2Proof.Machine.execAnswerWaitExpiry j s
  | .ringbackAbsenceExpiry j => Sys2Proof.Machine.execRingbackAbsenceExpiry j s
  | .ansr line tag kind maxc floor => Sys2Proof.Machine.execAnsr line tag kind maxc floor s
  | .settleEnd j => Sys2Proof.Machine.execSettleEnd j s
  | .clidWindowTimeout j => Sys2Proof.Machine.execClidWindowTimeout j s
  | .callerMessageReceived j bytes => Sys2Proof.Machine.execCallerMessageReceived j bytes s
  | .dtmfDigitDeclared j d => Sys2Proof.Machine.execDtmfDigitDeclared j d s
  | .digr line tag => Sys2Proof.Machine.execDigr line tag s
  | .tone line tag digits => Sys2Proof.Machine.execTone line tag digits s
  | .toneDigitEnd j => Sys2Proof.Machine.execToneDigitEnd j s
  | .rels line tag drain => Sys2Proof.Machine.execRels line tag drain s
  | .drainEnd j => Sys2Proof.Machine.execDrainEnd j s
  | .drainWaitExpiry j => Sys2Proof.Machine.execDrainWaitExpiry j s
  | .guardExpiry j => Sys2Proof.Machine.execGuardExpiry j s
  | .queueEntryExpiry entry => Sys2Proof.Machine.execQueueEntryExpiry entry s
  | .cncl line tag entry => Sys2Proof.Machine.execCncl line tag entry s
  | .ctad line tag number cls label => Sys2Proof.Machine.execCtad line tag number cls label s
  | .ctdl line tag position => Sys2Proof.Machine.execCtdl line tag position s
  | .ctrd line tag start => Sys2Proof.Machine.execCtrd line tag start s
  | .pendingTimerExpiry j => Sys2Proof.Machine.execPendingTimerExpiry j s
  | .budg line tag => Sys2Proof.Machine.execBudg line tag s
  | .qualityReading j q => Sys2Proof.Machine.execQualityReading j q s
  | .remoteOfferReceived j c => Sys2Proof.Machine.execRemoteOfferReceived j c s
  | .offerWaitExpiry j => Sys2Proof.Machine.execOfferWaitExpiry j s
  | .rateChangeConfirmation j => Sys2Proof.Machine.execRateChangeConfirmation j s
  | .rateChangeResyncEnd j => Sys2Proof.Machine.execRateChangeResyncEnd j s
  | .rateChangeConfirmationTimeout j => Sys2Proof.Machine.execRateChangeConfirmationTimeout j s
  | .remoteRateRequest j c => Sys2Proof.Machine.execRemoteRateRequest j c s
  | .remoteRetrainRequest j => Sys2Proof.Machine.execRemoteRetrainRequest j s
  | .dataIn line tag bytes => Sys2Proof.Machine.execDataIn line tag bytes s
  | .flow line tag value => Sys2Proof.Machine.execFlow line tag value s
  | .setupMessageReceived j window size => Sys2Proof.Machine.execSetupMessageReceived j window size s
  | .setupTryExpiry j => Sys2Proof.Machine.execSetupTryExpiry j s
  | .messageTransmitted j => Sys2Proof.Machine.execMessageTransmitted j s
  | .badMessageReceived j => Sys2Proof.Machine.execBadMessageReceived j s
  | .supervisoryMessageReceived j kind n => Sys2Proof.Machine.execSupervisoryMessageReceived j kind n s
  | .dataBlockReceived j seq payload => Sys2Proof.Machine.execDataBlockReceived j seq payload s
  | .retryTimerExpiry j => Sys2Proof.Machine.execRetryTimerExpiry j s
  | .plainByteReceived j b => Sys2Proof.Machine.execPlainByteReceived j b s
  | .faxs line tag pages resolution width policy => Sys2Proof.Machine.execFaxs line tag pages resolution width policy s
  | .faxr line tag policy => Sys2Proof.Machine.execFaxr line tag policy s
  | .fxst line tag => Sys2Proof.Machine.execFxst line tag s
  | .fxab line tag => Sys2Proof.Machine.execFxab line tag s
  | .faxJobWaitExpiry j => Sys2Proof.Machine.execFaxJobWaitExpiry j s
  | .faxAnswerWaitExpiry j => Sys2Proof.Machine.execFaxAnswerWaitExpiry j s
  | .faxSenderWaitExpiry j => Sys2Proof.Machine.execFaxSenderWaitExpiry j s
  | .badFaxMessageReceived j m => Sys2Proof.Machine.execBadFaxMessageReceived j m s
  | .capabilityReceived j highest fine widest reserve => Sys2Proof.Machine.execCapabilityReceived j highest fine widest reserve s
  | .choiceReceived j c resolution width => Sys2Proof.Machine.execChoiceReceived j c resolution width s
  | .confirmationReceived j accepted => Sys2Proof.Machine.execConfirmationReceived j accepted s
  | .retrainAnnouncementReceived j c => Sys2Proof.Machine.execRetrainAnnouncementReceived j c s
  | .trainingBurstSent j => Sys2Proof.Machine.execTrainingBurstSent j s
  | .verdictReceived j rejected => Sys2Proof.Machine.execVerdictReceived j rejected s
  | .partialPageHeaderReceived j page part count last => Sys2Proof.Machine.execPartialPageHeaderReceived j page part count last s
  | .frameReceived j n bytes => Sys2Proof.Machine.execFrameReceived j n bytes s
  | .roundSent j => Sys2Proof.Machine.execRoundSent j s
  | .roundEndReceived j => Sys2Proof.Machine.execRoundEndReceived j s
  | .frameMapReceived j missing action => Sys2Proof.Machine.execFrameMapReceived j missing action s
  | .pageCloseReceived j more => Sys2Proof.Machine.execPageCloseReceived j more s
  | .pageConfirmationReceived j => Sys2Proof.Machine.execPageConfirmationReceived j s
  | .releaseReceived j => Sys2Proof.Machine.execReleaseReceived j s
  | .releaseWaitExpiry j => Sys2Proof.Machine.execReleaseWaitExpiry j s
  | .scrt line tag kind extent mailbox => Sys2Proof.Machine.execScrt line tag kind extent mailbox s
  | .scls line tag id => Sys2Proof.Machine.execScls line tag id s
  | .sdel line tag id => Sys2Proof.Machine.execSdel line tag id s
  | .atch line tag slot id right => Sys2Proof.Machine.execAtch line tag slot id right s
  | .dtch line tag slot => Sys2Proof.Machine.execDtch line tag slot s
  | .swrt line tag id bytes => Sys2Proof.Machine.execSwrt line tag id bytes s
  | .sred line tag id offset count => Sys2Proof.Machine.execSred line tag id offset count s
  | .slst line tag start => Sys2Proof.Machine.execSlst line tag start s
  | .ssta line tag => Sys2Proof.Machine.execSsta line tag s
  | .packStart line tag region => Sys2Proof.Machine.execPackStart line tag region s
  | .packStop line tag => Sys2Proof.Machine.execPackStop line tag s
  | .moveCellCopy => Sys2Proof.Machine.execMoveCellCopy s
  | .play line tag slot startCell repeats gap stopOnDigit => Sys2Proof.Machine.execPlay line tag slot startCell repeats gap stopOnDigit s
  | .recd line tag slot limit silence threshold stopOnDigit => Sys2Proof.Machine.execRecd line tag slot limit silence threshold stopOnDigit s
  | .paus line tag value => Sys2Proof.Machine.execPaus line tag value s
  | .vstp line tag => Sys2Proof.Machine.execVstp line tag s
  | .voiceOperationStart j => Sys2Proof.Machine.execVoiceOperationStart j s
  | .playCellReached j => Sys2Proof.Machine.execPlayCellReached j s
  | .gapEnd j => Sys2Proof.Machine.execGapEnd j s
  | .voiceFrameEnd j samples => Sys2Proof.Machine.execVoiceFrameEnd j samples s
  | .recordToneEnd j => Sys2Proof.Machine.execRecordToneEnd j s
  | .mailboxWaitExpiry j => Sys2Proof.Machine.execMailboxWaitExpiry j s
  | .callingToneBurst j => Sys2Proof.Machine.execCallingToneBurst j s
  | .callingToneReset j => Sys2Proof.Machine.execCallingToneReset j s
  | .take line tag => Sys2Proof.Machine.execTake line tag s
  | .recordReceived bytes => Sys2Proof.Machine.execRecordReceived bytes s
  | .inboundGapExpiry => Sys2Proof.Machine.execInboundGapExpiry s
  | .unknownRequest line tag payload => Sys2Proof.Machine.execUnknownRequest line tag payload s
  | .recordSent => Sys2Proof.Machine.execRecordSent s
  | .nmsk line tag settings => Sys2Proof.Machine.execNmsk line tag settings s
  | .getp line tag section_ sline => Sys2Proof.Machine.execGetp line tag section_ sline s
  | .setp line tag section_ contents => Sys2Proof.Machine.execSetp line tag section_ contents s
  | .save line tag => Sys2Proof.Machine.execSave line tag s
  | .saveEnd result => Sys2Proof.Machine.execSaveEnd result s
  | .rsetSoft line tag => Sys2Proof.Machine.execRsetSoft line tag s
  | .rsetHard line tag => Sys2Proof.Machine.execRsetHard line tag s
  | .cntr line tag selector clear => Sys2Proof.Machine.execCntr line tag selector clear s
  | .powerOn => Sys2Proof.Machine.execPowerOn s
  | .resetPin => Sys2Proof.Machine.execResetPin s
  | .clockLoss => Sys2Proof.Machine.execClockLoss s
  | .startUp => Sys2Proof.Machine.execStartUp s
  | .settingsLoaded read => Sys2Proof.Machine.execSettingsLoaded read s
  | .recordingLimitReached j samples => Sys2Proof.Machine.execRecordingLimitReached j samples s
  | .hostLinkByteReceived b => Sys2Proof.Machine.execHostLinkByteReceived b s
  | .callerIdByteReceived j => Sys2Proof.Machine.execCallerIdByteReceived j s

end Sys2Proof.Machine
end

