-- ==== Sys2Proof/Machine/LineCheck.lean ====
section
/-! DEFINITION. The messages on the line as bytes, with their cyclic check: of the block link (6.3, R86) and of the fax
exchange (7.2), sent and received. What the manual leaves open of them is in Config (log 21). -/

namespace Sys2Proof.Machine

open Sys2Proof

/-! ## The cyclic check (R86) -/

/-- One bit enters the check register: generator x^16 + x^12 + x^5 + 1. -/
def checkBit (r : BitVec 16) (b : Bool) : BitVec 16 :=
  if xor r.msb b then (r <<< 1) ^^^ 0x1021#16 else r <<< 1

/-- The bits of a byte, in the order in which they are sent. -/
def byteBits (x : Byte) : List Bool :=
  let l := (List.range 8).map x.getLsbD
  if Config.lowFirst then l else l.reverse

/-- The 16-bit cyclic check of bytes (R86). -/
def cyclicCheck (l : List Byte) : BitVec 16 :=
  (l.flatMap byteBits).foldl checkBit Config.checkStart ^^^ Config.checkEnd

/-- Two bytes of a number on the line. -/
def lineTwo (n : Nat) : List Byte := if Config.lowFirst then (be2 n).reverse else be2 n

/-- Two bytes on the line as a number. -/
def lineNumber (a b : Byte) : Nat := if Config.lowFirst then b.toNat * 256 + a.toNat else a.toNat * 256 + b.toNat

/-- The two bytes of a check. -/
def checkBytes (l : List Byte) : List Byte := lineTwo (cyclicCheck l).toNat

/-- The code of the kind numbered `n`. -/
def kindByte (n : Nat) : Byte := Config.kindCode (BitVec.ofNat 8 n)

/-! ## Block link messages (6.3) -/

/-- The number of a supervisory kind, in the order of the table of 6.3. -/
def supNumber : SupKind → Nat
  | .ack => 1 | .rej => 2 | .rnr => 3

/-- What the check is taken over: sequence number, payload length and payload of a data block; the kind and the fields
after it of any other message (R86). A byte of PLAIN mode has no check. -/
def LinkMsg.covered : LinkMsg → List Byte
  | .data seq p => be1 seq ++ lineTwo p.length ++ p
  | .sup m => [kindByte (supNumber m.kind)] ++ be1 m.n
  | .setup w size => [kindByte 4] ++ be1 w ++ lineTwo size
  | .plain _ => []

/-- The bytes that a message in transmission gives to the pump, check included (6.3, R86, R95). -/
def LinkMsg.wire : LinkMsg → List Byte
  | .data seq p => [kindByte 0] ++ (LinkMsg.data seq p).covered ++ checkBytes (LinkMsg.data seq p).covered
  | .sup m => (LinkMsg.sup m).covered ++ checkBytes (LinkMsg.sup m).covered
  | .setup w size => (LinkMsg.setup w size).covered ++ checkBytes (LinkMsg.setup w size).covered
  | .plain b => [b]

/-- The message that its bytes but the last two spell: absent where the kind is unknown or the length disagrees with the
fields (R86). A number of 128 to 255 is taken as it is, and modulo 128 where the message acts (log 82). -/
def linkFields (l : List Byte) : Option LinkMsg :=
  match l with
  | [] => none
  | k :: r =>
    if k = kindByte 0 then
      match r with
      | s :: a :: b :: p => if p.length = lineNumber a b then some (.data s.toNat p) else none
      | _ => none
    else if k = kindByte 4 then
      match r with
      | [w, a, b] => some (.setup w.toNat (lineNumber a b))
      | _ => none
    else
      match r with
      | [n] =>
        if k = kindByte 1 then some (.sup ⟨.ack, n.toNat⟩)
        else if k = kindByte 2 then some (.sup ⟨.rej, n.toNat⟩)
        else if k = kindByte 3 then some (.sup ⟨.rnr, n.toNat⟩)
        else none
      | _ => none

/-- A message as it is received: absent where it is to be discarded for its kind, length or check (R86). -/
def linkMessage (l : List Byte) : Option LinkMsg :=
  match linkFields (l.take (l.length - 2)) with
  | some m => if l.drop (l.length - 2) = checkBytes m.covered then some m else none
  | none => none

/-- The command that a message of the peer is on line `i`: the good message of its kind, or BAD_MESSAGE_RECEIVED
(R86). -/
def linkCommand (i : LineNo) (l : List Byte) : Instr :=
  match linkMessage l with
  | some (.data seq p) => .dataBlockReceived i seq p
  | some (.sup m) => .supervisoryMessageReceived i m.kind m.n
  | some (.setup w size) => .setupMessageReceived i w size
  | some (.plain _) | none => .badMessageReceived i

/-! ## Fax messages (7.2) -/

/-- The number of a fax message, in the order of the table of 7.2; the training burst is no message of bytes. -/
def FaxMsg.number : FaxMsg → Nat
  | .capability .. => 0 | .choice .. => 1 | .confirmation _ => 2 | .announce _ => 3 | .burst _ => 4 | .verdict _ => 5
  | .header .. => 6 | .roundEnd => 8 | .frameMap .. => 9 | .pageClose _ => 10 | .pageConfirmation => 11
  | .release => 12

/-- The fields of a fax message (table of 7.2, codings by log 21). -/
def FaxMsg.fields : FaxMsg → List Byte
  | .capability c fine widest reserve => be1 c.code ++ beFlag fine ++ be1 widest ++ lineTwo reserve
  | .choice c f => be1 c.code ++ be1 f.resolution.code ++ be1 f.width
  | .confirmation a => beFlag a
  | .announce c => be1 c.code
  | .burst _ => []
  | .verdict r => be1? (r.map Cls.code)
  | .header page part count last => be1 page ++ be1 part ++ be1 count ++ beFlag last
  | .roundEnd => []
  | .frameMap missing a => be1 missing.length ++ missing.flatMap be1 ++ (match a with
      | .continue => be1 0
      | .resend => be1 1
      | .retrain c => be1 2 ++ be1 c.code)
  | .pageClose more => beFlag more
  | .pageConfirmation => []
  | .release => []

/-- The bytes that a fax message gives to the pump: kind, fields and the check of R86 over both (7.2). A training burst
is signal, not bytes. -/
def FaxMsg.wire (m : FaxMsg) : List Byte :=
  match m with
  | .burst _ => []
  | m =>
    let l := [kindByte m.number] ++ m.fields
    l ++ checkBytes l

/-- The bytes of a frame: kind, number, 128 bytes and the check (7.2). -/
def frameWire (n : Nat) (bytes : List Byte) : List Byte :=
  let l := [kindByte 7] ++ be1 n ++ bytes
  l ++ checkBytes l

/-- A fax message as received is readable: a known kind, and a good check (7.2, R102). One that is not is
BAD_FAX_MESSAGE_RECEIVED. -/
def faxReadable (l : List Byte) : Bool :=
  match l.take (l.length - 2) with
  | [] => false
  | k :: r =>
    ([0, 1, 2, 3, 5, 6, 7, 8, 9, 10, 11, 12].any fun n => k == kindByte n)
      && l.drop (l.length - 2) == checkBytes (k :: r)

end Sys2Proof.Machine
end

