-- ==== Sys2Proof/WellFormed.lean ====
section
/-! DEFINITION. Well-formed commands: the numbers of a request fit the bytes its record gives them (R162), and what an
event brings is something the line or the link can bring. `exec` has a meaning for every command, well formed or not. -/

namespace Sys2Proof

/-! ## Numbers and lists as a record can carry them (R162) -/

/-- Fits in one byte. -/
def fits1 (n : Nat) : Bool := decide (n < 256)

/-- Fits in two bytes. -/
def fits2 (n : Nat) : Bool := decide (n < 65536)

/-- Fits in four bytes. -/
def fits4 (n : Nat) : Bool := decide (n < 4294967296)

/-- A string or list of bytes: at most 255 items. -/
def fitsList {α : Type} (l : List α) : Bool := decide (l.length < 256)

/-- A dial list as it is sent. -/
def fitsDial (l : List (Nat × Nat)) : Bool := fitsList l && l.all fun x => fits1 x.1 && fits1 x.2

/-- A page list as it is sent. -/
def fitsPages (l : List Nat) : Bool := fitsList l && l.all fits1

/-- The settings of NMSK as they are sent, in a payload of at most 1100 bytes. -/
def fitsMasks (l : List (List Byte × Nat × Nat × Nat)) : Bool :=
  decide (l.length ≤ 156) && l.all fun x => x.1.length == 4 && fits1 x.2.1 && fits1 x.2.2.1 && fits1 x.2.2.2

/-- The longest payload of a record (R162). -/
def maxPayload : Nat := 1100

/-- The line byte and the tag of a record. -/
def fitsHead (line tag : Nat) : Bool := fits1 line && fits1 tag

/-! ## What an event can bring -/

/-- A codec sample: 14 bits, signed (chapter 9). -/
def fitsSample (x : Int) : Bool := decide (-8192 ≤ x) && decide (x ≤ 8191)

/-- The 80 samples of a frame (R23, R143). -/
def fitsFrame (l : List Int) : Bool := l.length == 80 && l.all fitsSample

/-- A class of the DATA family (R68). -/
def Cls.isData : Cls → Bool
  | .d1 | .d2 | .d3 | .d4 | .d5 | .d6 | .d7 => true
  | .f1 | .f2 | .f3 | .f4 | .f5 | .f6 => false

/-- A class of the FAX family (R68). -/
def Cls.isFax (c : Cls) : Bool := !c.isData

/-- The class of a frame map's action, where it has one, is of the FAX family. -/
def MapAction.fits : MapAction → Bool
  | .continue => true
  | .resend => true
  | .retrain c => c.isFax

/-- The names of the requests (R162), as ASCII codes: a payload that begins with one is a request the part knows. -/
def requestNames : List (List Byte) :=
  [[67, 65, 76, 76], [65, 78, 83, 82], [82, 69, 76, 83], [68, 73, 71, 82], [84, 79, 78, 69], [67, 78, 67, 76],
   [67, 84, 65, 68], [67, 84, 68, 76], [67, 84, 82, 68], [66, 85, 68, 71], [70, 76, 79, 87], [70, 65, 88, 83],
   [70, 65, 88, 82], [70, 88, 83, 84], [70, 88, 65, 66], [83, 67, 82, 84], [83, 67, 76, 83], [83, 68, 69, 76],
   [65, 84, 67, 72], [68, 84, 67, 72], [83, 87, 82, 84], [83, 82, 69, 68], [83, 76, 83, 84], [83, 83, 84, 65],
   [80, 65, 67, 75], [80, 76, 65, 89], [82, 69, 67, 68], [80, 65, 85, 83], [86, 83, 84, 80], [84, 65, 75, 69],
   [78, 77, 83, 75], [71, 69, 84, 80], [83, 69, 84, 80], [83, 65, 86, 69], [82, 83, 69, 84], [67, 78, 84, 82]]

/-- A payload whose name the part does not know, or too short for a name (R166). -/
def unknownPayload (p : List Byte) : Bool :=
  decide (p.length ≤ maxPayload) && (decide (p.length < 4) || !requestNames.contains (p.take 4))

/-! ## Commands -/

/-- A command is well formed. -/
def Instr.wellFormed : Instr → Bool
  | .flashComplete _ => true
  | .breakEnd _ => true
  | .makeEnd _ => true
  | .ringVoltageOnset _ => true
  | .burstQualified _ => true
  | .ringVoltageEnd _ _ => true
  | .ringAbandoned _ => true
  | .blankingEnd _ _ => true
  | .loopCurrentAbsent _ => true
  | .loopCurrentReturn _ => true
  | .loopLost _ => true
  | .supervisionCheck _ _ => true
  | .call line tag kind maxc floor dial =>
    fitsHead line tag && line != 15 && fits1 kind && fits1 maxc && fits1 floor && fitsDial dial
  | .callGroup tag group kind maxc floor wait hostTag dial =>
    fits1 tag && fits1 group && fits1 kind && fits1 maxc && fits1 floor && fits2 wait && fits2 hostTag && fitsDial dial
  | .dialToneQualified _ => true
  | .dialToneWaitExpiry _ => true
  | .awaitToneExpiry _ => true
  | .dtmfDigitSent _ => true
  | .interDigitPauseEnd _ => true
  | .pauseEnd _ => true
  | .cpToneStart _ => true
  | .cpToneEnd _ => true
  | .cpSilenceLimit _ => true
  | .cpToneLimit _ => true
  | .progressFrameLevel _ samples => fitsFrame samples
  | .answerToneDetected _ _ => true
  | .answerWaitExpiry _ => true
  | .ringbackAbsenceExpiry _ => true
  | .ansr line tag kind maxc floor => fitsHead line tag && fits1 kind && fits1 maxc && fits1 floor
  | .settleEnd _ => true
  | .clidWindowTimeout _ => true
  | .callerMessageReceived _ bytes => decide (3 ≤ bytes.length) && decide (bytes.length ≤ 258)
  | .dtmfDigitDeclared _ _ => true
  | .digr line tag => fitsHead line tag
  | .tone line tag digits => fitsHead line tag && fitsList digits
  | .toneDigitEnd _ => true
  | .rels line tag drain => fitsHead line tag && fits1 drain
  | .drainEnd _ => true
  | .drainWaitExpiry _ => true
  | .guardExpiry _ => true
  | .queueEntryExpiry _ => true
  | .cncl line tag entry => fitsHead line tag && fits1 entry
  | .ctad line tag number cls label => fitsHead line tag && fitsList number && fits1 cls && fitsList label
  | .ctdl line tag position => fitsHead line tag && fits1 position
  | .ctrd line tag start => fitsHead line tag && fits1 start
  | .pendingTimerExpiry _ => true
  | .budg line tag => fitsHead line tag
  | .qualityReading _ _ => true
  | .remoteOfferReceived _ c => c.isData
  | .offerWaitExpiry _ => true
  | .rateChangeConfirmation _ => true
  | .rateChangeResyncEnd _ => true
  | .rateChangeConfirmationTimeout _ => true
  | .remoteRateRequest _ c => c.isData
  | .remoteRetrainRequest _ => true
  | .dataIn line tag bytes => fitsHead line tag && decide (bytes.length ≤ maxPayload)
  | .flow line tag value => fitsHead line tag && fits1 value
  | .setupMessageReceived _ _ _ => true
  | .setupTryExpiry _ => true
  | .messageTransmitted _ => true
  | .badMessageReceived _ => true
  | .supervisoryMessageReceived _ _ n => decide (n < 128)
  | .dataBlockReceived _ seq payload => decide (seq < 128) && decide (payload.length ≤ 256)
  | .retryTimerExpiry _ => true
  | .plainByteReceived _ _ => true
  | .faxs line tag pages resolution width policy =>
    fitsHead line tag && fitsPages pages && fits1 resolution && fits1 width && fits1 policy
  | .faxr line tag policy => fitsHead line tag && fits1 policy
  | .fxst line tag => fitsHead line tag
  | .fxab line tag => fitsHead line tag
  | .faxJobWaitExpiry _ => true
  | .faxAnswerWaitExpiry _ => true
  | .faxSenderWaitExpiry _ => true
  | .badFaxMessageReceived _ _ => true
  | .capabilityReceived _ highest _ widest _ => highest.isFax && decide (widest ≤ 2)
  | .choiceReceived _ c resolution width => c.isFax && decide (resolution ≤ 1) && decide (width ≤ 2)
  | .confirmationReceived _ _ => true
  | .retrainAnnouncementReceived _ c => c.isFax
  | .trainingBurstSent _ => true
  | .verdictReceived _ rejected => rejected.all Cls.isFax
  | .partialPageHeaderReceived _ _ part count _ => decide (part ≤ 15) && decide (1 ≤ count) && decide (count ≤ 128)
  | .frameReceived _ n bytes => decide (n < 128) && bytes.length == 128
  | .roundSent _ => true
  | .roundEndReceived _ => true
  | .frameMapReceived _ missing action => decide (missing.length ≤ 128) && missing.all (fun n => decide (n < 128)) && action.fits
  | .pageCloseReceived _ _ => true
  | .pageConfirmationReceived _ => true
  | .releaseReceived _ => true
  | .releaseWaitExpiry _ => true
  | .scrt line tag kind extent mailbox => fitsHead line tag && fits1 kind && fits2 extent && fits1 mailbox
  | .scls line tag id => fitsHead line tag && fits1 id
  | .sdel line tag id => fitsHead line tag && fits1 id
  | .atch line tag slot id right => fitsHead line tag && fits1 slot && fits1 id && fits1 right
  | .dtch line tag slot => fitsHead line tag && fits1 slot
  | .swrt line tag id bytes => fitsHead line tag && fits1 id && decide (bytes.length + 7 ≤ maxPayload)
  | .sred line tag id offset count => fitsHead line tag && fits1 id && fits4 offset && fits2 count
  | .slst line tag start => fitsHead line tag && fits1 start
  | .ssta line tag => fitsHead line tag
  | .packStart line tag region => fitsHead line tag && fits1 region
  | .packStop line tag => fitsHead line tag
  | .moveCellCopy => true
  | .play line tag slot startCell repeats gap stopOnDigit =>
    fitsHead line tag && fits1 slot && fits2 startCell && fits1 repeats && fits2 gap && fits1 stopOnDigit
  | .recd line tag slot limit silence threshold stopOnDigit =>
    fitsHead line tag && fits1 slot && fits2 limit && fits1 silence && fits2 threshold && fits1 stopOnDigit
  | .paus line tag value => fitsHead line tag && fits1 value
  | .vstp line tag => fitsHead line tag
  | .voiceOperationStart _ => true
  | .playCellReached _ => true
  | .gapEnd _ => true
  | .voiceFrameEnd _ samples => fitsFrame samples
  | .recordToneEnd _ => true
  | .mailboxWaitExpiry _ => true
  | .callingToneBurst _ => true
  | .callingToneReset _ => true
  | .take line tag => fitsHead line tag
  | .recordReceived bytes => decide (6 ≤ bytes.length) && decide (bytes.length ≤ maxPayload + 6)
  | .inboundGapExpiry => true
  | .unknownRequest line tag payload => fitsHead line tag && unknownPayload payload
  | .recordSent => true
  | .nmsk line tag settings => fitsHead line tag && fitsMasks settings
  | .getp line tag section_ sline => fitsHead line tag && fits1 section_ && fits1 sline
  | .setp line tag section_ contents => fitsHead line tag && fits1 section_ && decide (contents.length + 5 ≤ maxPayload)
  | .save line tag => fitsHead line tag
  | .saveEnd _ => true
  | .rsetSoft line tag => fitsHead line tag
  | .rsetHard line tag => fitsHead line tag
  | .cntr line tag selector clear => fitsHead line tag && fits1 selector && fits1 clear
  | .powerOn => true
  | .resetPin => true
  | .clockLoss => true
  | .startUp => true
  | .settingsLoaded _ => true
  | .recordingLimitReached _ samples => decide (samples.length ≤ 80) && samples.all fitsSample
  | .hostLinkByteReceived _ => true
  | .callerIdByteReceived _ => true

end Sys2Proof
end

