-- ==== Sys2Proof/Safety.lean ====
section
/-! DEFINITION. What counts as a good state, and the frames that claims are written with. -/

namespace Sys2Proof.Machine

open Sys2Proof

/-! ## Good states -/

/-- No release of units waits for its hand-out: true between steps (log 16). -/
def State.handedOut (s : State) : Prop := s.bm.due = false ∧ s.bm.offer = false

/-- The inbound buffer and the reply queue keep their sizes (R164, R167). -/
def State.queuesBounded (s : State) : Prop := s.lp.inbound.length ≤ 4 ∧ s.lp.replies.length ≤ 8

/-- The call queue holds, once each, the numbers of the QUEUED records among the 8 entry records (R40, R42, R44). -/
def Gd.queueOk (g : Gd) : Prop :=
  g.recs.length = 8 ∧ g.queue.Nodup ∧ ∀ k, k ∈ g.queue ↔ ∃ r ∈ g.recs[k]?, r.st = .queued

/-- No line has two admissions pending, so that at most four pending timers run (R58). -/
def State.pendingOnce (s : State) : Prop := (s.bm.plist.map fun p => p.line).Nodup

/-- The store memory is in its canonical form (log 8). -/
def State.storeCanonical (s : State) : Prop := memWf s.stc.mem

/-- A coder state in its range (R134). -/
def coderOk (c : Int × Nat) : Prop := -8192 ≤ c.1 ∧ c.1 ≤ 8191 ∧ c.2 ≤ 47

/-- Every line's coder state lies in its range (R134). -/
def State.codersInRange (s : State) : Prop := ∀ i : LineNo, coderOk (s.line i).vc.coder

/-- The tables whose sizes the manual fixes have them: notice kinds, entry records, directory, Caller Table, notice
settings (R162, R40, R118, R49, R169). -/
def State.shaped (s : State) : Prop :=
  s.nu.flags.length = 19 ∧ s.gd.recs.length = 8 ∧ s.stc.dir.length = 96 ∧ s.ct.table.length = 32
    ∧ s.sl.live.notices.length = 19

/-! ## What the blocks keep at every step -/

/-- The send and receive sides of a link within their bounds: TX and RX of 2048 bytes (R84, R85), the unacknowledged list
within the agreed window of at most 15 with consecutive numbers up to Vs, empty outside UP and SUSPENDED (R83, R88), a
setup try timed in SETUP alone (R83). -/
def Blc.inBounds (b : Blc) : Prop :=
  b.tx.length ≤ 2048 ∧ b.rx.length ≤ 2048 ∧ b.unacked.length ≤ b.window ∧ b.window ≤ 15 ∧ b.vs < 128
    ∧ (b.unacked.map fun k => k.seq)
      = (List.range b.unacked.length).map (fun k => (b.vs + 128 - b.unacked.length + k) % 128)
    ∧ (b.link ≠ .up → b.link ≠ .suspended → b.unacked = []) ∧ (b.link ≠ .setup → b.tryDue = none)

/-- Queues and buffers within the sizes the manual gives them: digit queue (R31), queue events (R47), links. -/
def State.buffersBounded (s : State) : Prop :=
  s.nu.queueEvents.length ≤ 8 ∧ ∀ i : LineNo, (s.line i).tu.digits.length ≤ 16 ∧ (s.line i).blc.inBounds

/-- The quality accumulator and the training sum in their ranges (R69, R70). -/
def Dp.readingsInRange (d : Dp) : Prop := d.acc ≤ 800 ∧ d.trainCount ≤ 150 ∧ d.trainSum ≤ 100 * d.trainCount

/-- Readings in their ranges, counters at most at their upper end (R69, R179). -/
def State.countsInRange (s : State) : Prop :=
  (∀ c ∈ s.cnt.list, c ≤ Config.counterMax)
    ∧ ∀ i : LineNo, (s.line i).dp.readingsInRange ∧ ∀ c ∈ (s.line i).cnt.list, c ≤ Config.counterMax

/-- No two Caller Table entries hold one number (R49). -/
def Ct.numbersDiffer (t : Ct) : Prop := (t.table.filterMap fun e => e.map fun x : CtEntry => x.number).Nodup

/-- The entries that slots hold with RECORD, slot by slot. -/
def State.recorded (s : State) : List Nat :=
  lineNos.flatMap fun i => lineNos.filterMap fun k => ((s.line i).window.get k).bind fun a : Attach =>
    if a.right = .record then some a.id else none

/-- At most one slot holds an entry with RECORD, and only an OPEN entry (R122, R123). -/
def State.recordersOk (s : State) : Prop :=
  s.recorded.Nodup ∧ ∀ id ∈ s.recorded, ∃ e ∈ s.stc.entry id, e.open_ = true

/-- The first cell of a segment, and the one behind its last (R116). -/
def Entry.first (e : Entry) : Nat := if e.kind.voice then e.base else e.base + 1 - e.extent
def Entry.past (e : Entry) : Nat := if e.kind.voice then e.base + e.extent else e.base + 1

/-- A segment holds a cell at least, lies in the store, and its used length fits it (R116, R118). -/
def Entry.inStore (e : Entry) (size : Nat) : Prop :=
  1 ≤ e.extent ∧ e.used ≤ e.capacity ∧ (e.kind.voice = false → e.base < size ∧ e.extent ≤ e.base + 1)

/-- Two segments share no cell. -/
def Entry.apart (a b : Entry) : Prop := a.past ≤ b.first ∨ b.past ≤ a.first

/-- The move in flight is of a CLOSED entry at its old base, toward its frontier's end of the region, with no other segment
between the two bases (R128, R129). -/
def Stc.moveOk (t : Stc) (m : Move) : Prop :=
  ∃ e ∈ t.entry m.id, e.moving = true ∧ e.open_ = false ∧ e.base = m.old
    ∧ (if e.kind.voice then m.new ≤ m.old else m.old ≤ m.new ∧ m.new < t.size)
    ∧ ∀ x ∈ t.from 0, x.1 ≠ m.id → x.2.kind.voice = e.kind.voice →
        if e.kind.voice then x.2.past ≤ m.new ∨ m.old ≤ x.2.first
        else m.new < x.2.first ∨ x.2.past ≤ m.old + 1

/-- The layout of the store (R117, R129): the voice frontier never passes the fax frontier, and no cell belongs to two
entries. -/
def Stc.laidOut (t : Stc) : Prop :=
  (∀ e ∈ t.used, e.inStore t.size) ∧ t.fv ≤ t.ff ∧ t.used.Pairwise Entry.apart ∧ (∀ m ∈ t.move, t.moveOk m)
    ∧ (t.pack.st = .idle → t.move = none)

/-- The store is laid out, and holds no entry before the part runs (R133, R178). -/
def State.storeLaidOut (s : State) : Prop :=
  s.stc.laidOut ∧ (s.phase ≠ .running → s.stc.used = [] ∧ s.stc.move = none)

/-! ## The budget -/

/-- The classes of the pumps among activities (R55). -/
def pumpsOf (l : List Activity) : List Cls := l.filterMap fun a => match a with
  | .pump c => some c
  | _ => none

/-- A class of one family with another, and not above it. -/
def classWithin (c k : Cls) : Prop := c.family = k.family ∧ c.idx ≤ k.idx

/-- What a pump counted at class `k` works with lies at or below `k`: its current class, its rate-change target, its local
pick, the cap owed, the class of the fax check (R67, R70, R74, R76, R79). -/
def Line.worksWithin (l : Line) (k : Cls) : Prop :=
  l.dp.family = some k.family ∧ (∀ c ∈ l.dp.cur, classWithin c k) ∧ (∀ r ∈ l.dp.rc, classWithin r.target k)
    ∧ (∀ c ∈ l.dp.pick, classWithin c k) ∧ (∀ c ∈ l.dp.owed, classWithin c k) ∧ (∀ c ∈ l.dp.offer, c.family = k.family)
    ∧ ∀ j ∈ l.runningJob, ∀ c ∈ j.fk, classWithin c k

/-- The pump's records belong to its state: RUNNING at the counted class, a pick in a training, a rate change in
RATE_CHANGE, none of it on a fax pump (R67, R70, R74, R79). -/
def Line.pumpInState (l : Line) (k : Cls) : Prop :=
  (l.dp.pump = .running → l.dp.cur = some k)
    ∧ (l.dp.pick ≠ none → l.dp.pump = .training ∨ l.dp.pump = .retraining)
    ∧ (l.dp.rc ≠ none → l.dp.pump = .rateChange)
    ∧ (k.family = .fax → l.dp.rc = none ∧ l.dp.pump ≠ .rateChange)

/-- The call that holds a pump: CONNECTED DATA or FAX, or a voice call that its plan has handed to fax (R24, R67, R153). -/
def Line.pumpCall (l : Line) (k : Cls) : Prop :=
  l.cc.state = .connected
    ∧ ((l.cc.kind = some .data ∧ k.family = .data ∧ l.runningJob = none) ∨ (l.cc.kind = some .fax ∧ k.family = .fax)
      ∨ (l.cc.kind = some .voice ∧ k.family = .fax ∧ l.apc.plan = .faxHandoff))

/-- A data pump keeps to the agreed maximum from its first training on, which runs within the maximum the call asked for
(R70, R73). -/
def Line.agreedKept (l : Line) : Prop :=
  (∀ m ∈ l.dp.agreedMax, (∀ c ∈ l.dp.cur, c.idx ≤ m.idx) ∧ (∀ r ∈ l.dp.rc, r.target.idx ≤ m.idx)
      ∧ (l.dp.pump = .retraining → ∀ c ∈ l.dp.pick, c.idx ≤ m.idx))
    ∧ (l.dp.pump = .training → l.dp.agreedMax = none
      ∧ ∀ k ∈ pumpsOf l.acts, ∀ c ∈ l.cc.conn, k.idx ≤ c.maxc.idx)

/-- A line's pump against its activities: at most one pump is held; what it works with is within its class; with none held
there is no pump, no running job and no connected data or fax call. -/
def Line.pumpOk (l : Line) : Prop :=
  (pumpsOf l.acts).length ≤ 1
    ∧ (∀ k ∈ pumpsOf l.acts, l.worksWithin k ∧ l.pumpInState k ∧ l.pumpCall k ∧ (k.family = .data → l.agreedKept))
    ∧ (pumpsOf l.acts = [] → l.dp = {} ∧ l.runningJob = none
      ∧ ¬ (l.cc.state = .connected ∧ (l.cc.kind = some .data ∨ l.cc.kind = some .fax)))
    ∧ ∀ j ∈ l.fxc.job, j.started = false → j.fk = none

/-- A pending admission of a line asks what its requester may ask, in the state in which it may be granted (R24, R26, R61,
R151, R153). -/
def Line.pendingOk (l : Line) (p : Pending) : Prop :=
  pumpsOf p.ask.acts = []
    ∧ (p.requester = .ccConnection → (l.cc.state = .progress ∨ l.cc.state = .answering)
      ∧ (l.cc.kind.map fun k => connAsk k l.cc.conn) = some p.ask)
    ∧ (p.requester = .planFax → l.cc.connectedVoice = true ∧ l.apc.plan = .faxHandoff ∧ pumpsOf l.acts = []
      ∧ ∀ c ∈ p.ask.pump, c.maxc.family = .fax)
    ∧ (p.requester = .planAnswer → l.cc.state = .answering ∧ l.cc.kind = some .voice)
    ∧ (p.requester ≠ .ccConnection → p.requester ≠ .planFax → p.ask.pump = none)
    ∧ (l.cc.kind = some .voice → pumpsOf l.acts = [])

/-- The budget holds: the four lines hold at most 120 units (R54), every line's pump is counted at a class at or above
whatever it works with, and the pending admissions are such that a grant keeps it so. -/
def State.budgetOk (s : State) : Prop :=
  s.held ≤ 120 ∧ (∀ i : LineNo, (s.line i).pumpOk) ∧ ∀ p ∈ s.bm.plist, (s.line p.line).pendingOk p

/-! ## Situations in which commands complete -/

/-- The part runs and takes a request at once: taking is OPEN, nothing waits in the inbound buffer, no RSET HARD has been
taken, the reply queue has room (R165, R177). -/
def State.ready (s : State) : Prop :=
  s.phase = .running ∧ s.lp.open_ = true ∧ s.lp.hardPending = false ∧ s.lp.inbound = [] ∧ s.lp.replies.length < 8

/-- The state with a reply at the tail of the reply queue (R167). -/
def State.replied (s : State) (line tag : Nat) (name : List Byte) (st : Status) (fields : List Byte) : State :=
  s.addReply { line := line, tag := tag, name := name, status := st, fields := fields }

/-- The request a command carries, with its line byte and tag. -/
def carried : Instr → Option (Nat × Nat × Request)
  | .call line tag kind maxc floor dial => some (line, tag, .call kind maxc floor dial)
  | .callGroup tag group kind maxc floor wait hostTag dial =>
    some (15, tag, .callGroup group kind maxc floor wait hostTag dial)
  | .ansr line tag kind maxc floor => some (line, tag, .ansr kind maxc floor)
  | .digr line tag => some (line, tag, .digr)
  | .tone line tag digits => some (line, tag, .tone digits)
  | .rels line tag drain => some (line, tag, .rels drain)
  | .cncl line tag entry => some (line, tag, .cncl entry)
  | .ctad line tag number cls label => some (line, tag, .ctad number cls label)
  | .ctdl line tag position => some (line, tag, .ctdl position)
  | .ctrd line tag start => some (line, tag, .ctrd start)
  | .budg line tag => some (line, tag, .budg)
  | .flow line tag value => some (line, tag, .flow value)
  | .faxs line tag pages resolution width policy => some (line, tag, .faxs pages resolution width policy)
  | .faxr line tag policy => some (line, tag, .faxr policy)
  | .fxst line tag => some (line, tag, .fxst)
  | .fxab line tag => some (line, tag, .fxab)
  | .scrt line tag kind extent mailbox => some (line, tag, .scrt kind extent mailbox)
  | .scls line tag id => some (line, tag, .scls id)
  | .sdel line tag id => some (line, tag, .sdel id)
  | .atch line tag slot id right => some (line, tag, .atch slot id right)
  | .dtch line tag slot => some (line, tag, .dtch slot)
  | .swrt line tag id bytes => some (line, tag, .swrt id bytes)
  | .sred line tag id offset count => some (line, tag, .sred id offset count)
  | .slst line tag start => some (line, tag, .slst start)
  | .ssta line tag => some (line, tag, .ssta)
  | .packStart line tag region => some (line, tag, .pack 0 region)
  | .packStop line tag => some (line, tag, .pack 1 0)
  | .play line tag slot startCell repeats gap stopOnDigit =>
    some (line, tag, .play slot startCell repeats gap stopOnDigit)
  | .recd line tag slot limit silence threshold stopOnDigit =>
    some (line, tag, .recd slot limit silence threshold stopOnDigit)
  | .paus line tag value => some (line, tag, .paus value)
  | .vstp line tag => some (line, tag, .vstp)
  | .take line tag => some (line, tag, .take)
  | .unknownRequest line tag payload => some (line, tag, .unknown payload)
  | .nmsk line tag settings => some (line, tag, .nmsk settings)
  | .getp line tag section_ sline => some (line, tag, .getp section_ sline)
  | .setp line tag section_ contents => some (line, tag, .setp section_ contents)
  | .save line tag => some (line, tag, .save)
  | .rsetSoft line tag => some (line, tag, .rset 1)
  | .rsetHard line tag => some (line, tag, .rset 0)
  | .cntr line tag selector clear => some (line, tag, .cntr selector clear)
  | _ => none

/-- A request with the part-wide line number (R166; line byte column of R162). -/
def Request.forPart : Request → Bool
  | .cncl .. | .ctad .. | .ctdl .. | .ctrd .. | .budg | .scrt .. | .scls .. | .sdel .. | .swrt .. | .sred ..
  | .slst .. | .ssta | .pack .. | .nmsk .. | .getp .. | .setp .. | .save | .rset .. | .cntr .. => true
  | _ => false

/-- A request that names a line (R166). CALL does where it does not name a group. -/
def Request.forLine : Request → Bool
  | .call .. | .ansr .. | .rels .. | .digr | .tone .. | .flow .. | .faxs .. | .faxr .. | .fxst | .fxab | .atch ..
  | .dtch .. | .play .. | .recd .. | .paus .. | .vstp | .take => true
  | _ => false

/-! ## Records on the wire (R162) -/

/-- The fields of a request as its record spells them (table of R162). -/
def Request.fields : Request → List Byte
  | .call k m f d => be1 k ++ be1 m ++ be1 f ++ be1 d.length ++ d.flatMap fun x => be1 x.1 ++ be1 x.2
  | .callGroup g k m f w t d =>
    be1 g ++ be1 k ++ be1 m ++ be1 f ++ be2 w ++ be2 t ++ be1 d.length ++ d.flatMap fun x => be1 x.1 ++ be1 x.2
  | .ansr k m f => be1 k ++ be1 m ++ be1 f
  | .rels d => be1 d
  | .digr => []
  | .tone d => beStr d
  | .cncl e => be1 e
  | .ctad n c b => beStr n ++ be1 c ++ beStr b
  | .ctdl p => be1 p
  | .ctrd p => be1 p
  | .budg => []
  | .flow v => be1 v
  | .faxs p r w q => be1 p.length ++ p.flatMap be1 ++ be1 r ++ be1 w ++ be1 q
  | .faxr p => be1 p
  | .fxst => []
  | .fxab => []
  | .scrt k e m => be1 k ++ be2 e ++ be1 m
  | .scls i => be1 i
  | .sdel i => be1 i
  | .atch k i r => be1 k ++ be1 i ++ be1 r
  | .dtch k => be1 k
  | .swrt i b => be1 i ++ be2 b.length ++ b
  | .sred i o n => be1 i ++ be4 o ++ be2 n
  | .slst i => be1 i
  | .ssta => []
  | .pack a r => be1 a ++ be1 r
  | .play k c r g d => be1 k ++ be2 c ++ be1 r ++ be2 g ++ be1 d
  | .recd k l q t d => be1 k ++ be2 l ++ be1 q ++ be2 t ++ be1 d
  | .paus v => be1 v
  | .vstp => []
  | .take => []
  | .nmsk l => be1 l.length ++ l.flatMap fun x => x.1 ++ be1 x.2.1 ++ be1 x.2.2.1 ++ be1 x.2.2.2
  | .getp c i => be1 c ++ be1 i
  | .setp c b => be1 c ++ b
  | .save => []
  | .rset k => be1 k
  | .cntr c f => be1 c ++ be1 f
  | .malformed _ => []
  | .unknown _ => []

/-- The payload of a request: its name and its fields; of an unknown one, the payload as it is (R162). -/
def Request.payload (r : Request) : List Byte :=
  match r with
  | .unknown p => p
  | _ => r.name ++ r.fields


/-! ## Settings in the ranges in which the part keeps them (R173, R174) -/

/-- A profile in its ranges (R148). -/
def Profile.inRange (p : Profile) : Prop :=
  1 ≤ p.rings ∧ p.rings ≤ 15 ∧ 1 ≤ p.priorityRings ∧ p.priorityRings ≤ 15
    ∧ (∀ g ∈ p.greeting, g ≤ 95) ∧ (∀ g ∈ p.altGreeting, g ≤ 95) ∧ 1 ≤ p.repeats ∧ p.repeats ≤ 4 ∧ p.gap ≤ 5000
    ∧ p.mailboxWait ≤ 10 ∧ p.mailbox ≤ 9 ∧ 1 ≤ p.recordLimit ∧ p.recordLimit ≤ 480 ∧ 1 ≤ p.silence ∧ p.silence ≤ 30
    ∧ p.threshold ≤ 2047
    ∧ p.data.maxc.family = .data ∧ p.data.floor.family = .data ∧ p.data.floor.idx ≤ p.data.maxc.idx
    ∧ p.fax.maxc.family = .fax ∧ p.fax.floor.family = .fax ∧ p.fax.floor.idx ≤ p.fax.maxc.idx

/-- PART settings in their ranges. -/
def PartSettings.inRange (p : PartSettings) : Prop :=
  p.storeSize ∈ [1024, 2048, 4096] ∧ p.linkRate ∈ [115200, 230400, 460800, 921600] ∧ 5 ≤ p.slowInterval
    ∧ p.slowInterval ≤ 255 ∧ 10 ≤ p.voltage ∧ p.voltage ≤ 40 ∧ 100 ≤ p.burstMin ∧ p.burstMin ≤ 500 ∧ p.speech ≤ 2047

/-- LINE settings in their ranges. -/
def LineSettings.inRange (l : LineSettings) : Prop :=
  l.precedence ≤ 3 ∧ 10 ≤ l.answerWait ∧ l.answerWait ≤ 90 ∧ 1 ≤ l.linkWindow ∧ l.linkWindow ≤ 15
    ∧ 16 ≤ l.faxReserve ∧ l.faxReserve ≤ 256 ∧ l.faxReserve % 16 = 0 ∧ l.profile.inRange

/-- A static caller that CTAD would take (R173). -/
def StaticCaller.inRange (c : StaticCaller) : Prop :=
  goodNumber c.number = true ∧ goodLabel c.label = true ∧ c.cls ≠ .unknown

/-- A settings copy in its ranges. -/
def Settings.inRange (t : Settings) : Prop :=
  t.part.inRange ∧ (∀ i : LineNo, (t.lines.get i).inRange)
    ∧ t.notices.length = 19
    ∧ (∀ k ∈ noticeKinds, ∀ c, t.notices[k.idx]? = some c → c.level ≤ 3 ∧ maskOf k c.masked = c.masked)
    ∧ t.callers.length ≤ 32 ∧ ∀ c ∈ t.callers, c.inRange

/-! ## Outcomes of commands -/

/-- The state in which a ready part stands after a request (R165, R167): `u` with the reply at the tail of the reply
queue, the units released handed out. -/
def State.answered (u : State) (line tag : Nat) (name : List Byte) (st : Status) (fields : List Byte) : State :=
  (u.replied line tag name st fields).settle

/-- The commands that act on a part held in reset or loading (R177, R178). -/
def startsPart : Instr → Bool
  | .powerOn | .resetPin | .clockLoss | .startUp | .settingsLoaded _ => true
  | _ => false

/-- The moment an abandonment timer expires, while it runs (R7). -/
def Abandon.due : Abandon → Option Nat
  | .running d => some d
  | .stopped | .held _ => none

/-- The timer whose expiry a command is, as it stands: absent for the other commands, `some none` while it does not
run. -/
def State.timer (s : State) : Instr → Option (Option Nat)
  | .flashComplete i => some (s.line i).lif.flashDue
  | .breakEnd i => some (s.line i).lif.breakDue
  | .makeEnd i => some (s.line i).lif.makeDue
  | .burstQualified i => some (s.line i).lif.burstDue
  | .ringAbandoned i => some (s.line i).lif.abandon.due
  | .blankingEnd i _ => some (s.line i).lif.blankDue
  | .loopLost i => some (s.line i).lif.absenceDue
  | .supervisionCheck i _ => some (s.line i).lif.intervalDue
  | .dialToneWaitExpiry i => some (s.line i).cc.dialToneDue
  | .awaitToneExpiry i => some (s.line i).cc.elem.awaitDue
  | .dtmfDigitSent i => some (s.line i).cc.elem.digitDue
  | .interDigitPauseEnd i => some (s.line i).cc.elem.pulseDue
  | .pauseEnd i => some (s.line i).cc.elem.pauseDue
  | .answerWaitExpiry i => some (s.line i).cc.answerDue
  | .ringbackAbsenceExpiry i => some (s.line i).cc.ringbackDue
  | .settleEnd i => some (s.line i).cc.settleDue
  | .clidWindowTimeout i => some ((s.line i).tu.clid.map (·.due))
  | .toneDigitEnd i => some (s.line i).tu.toneDue
  | .drainWaitExpiry i => some (s.line i).cc.drainDue
  | .guardExpiry i => some (s.line i).cc.guardDue
  | .offerWaitExpiry i => some (s.line i).dp.offerDue
  | .setupTryExpiry i => some (s.line i).blc.tryDue
  | .retryTimerExpiry i => some (s.line i).blc.retryDue
  | .faxJobWaitExpiry i => some (s.line i).fxc.jobWaitDue
  | .gapEnd i => some (s.line i).vc.gapDue
  | .recordToneEnd i => some (s.line i).apc.recordToneDue
  | .mailboxWaitExpiry i => some (s.line i).apc.mailboxDue
  | .callingToneReset i => some (s.line i).apc.toneReset
  | .inboundGapExpiry => some s.lp.gapDue
  | _ => none

end Sys2Proof.Machine
end

