-- ==== Sys2Proof/Certificates/Slice0/Obligations.lean ====
section
/-! DEFINITION. The statements for the provers. In every one, `u.settle` is `u` with the units released handed out, and is
`u` itself where no release waits (`EveryStepHandsOutItsUnits`), that the hand-out stands at the end of a step being the
model's choice (log 16); `u.answered line tag name status fields` is `u` with
that reply at the tail of the reply queue, its units handed out; `s.reach d` is `s` with its clock at least at the moment
`d`, since an expiry takes the clock to its moment by the model's choice (log 2). What an equation does not change stays as it is. -/

section

open Sys2Proof Sys2Proof.Machine

/-- O1. A step runs the command at the front of the queue; on an empty queue a millisecond passes (the model's choice, log
1) (95 What each step holds, 00 section 4). -/
def Obligations.StepRunsFrontCommand : Prop :=
  (∀ (c : Instr) (rest : List Instr) (s : State), s.pending = c :: rest → step s = exec c { s with pending := rest })
    ∧ ∀ s : State, s.pending = [] → step s = .next { s with now := s.now + 1 }

/-- O2. A part held in reset or loading changes nothing but by reset and start-up commands (log 3) (12 R177, 12 R178). -/
def Obligations.HeldPartIgnoresCommands : Prop :=
  ∀ (c : Instr) (s : State), s.phase ≠ .running → startsPart c = false → exec c s = .next s

/-- O3. The expiry of a timer that does not run has no effect (log 2, log 3) (01, 02, 05, 06, 07, 09, 10, 11). -/
def Obligations.StoppedTimerExpiresToNothing : Prop :=
  ∀ (c : Instr) (s : State), s.phase = .running → s.timer c = some none → exec c s = .next s.settle

/-- O4. No command changes the queue of waiting commands (95 What each step holds). -/
def Obligations.ExecLeavesQueueAlone : Prop :=
  ∀ (c : Instr) (s t : State), exec c s = .next t → t.pending = s.pending

/-- O5. No release of units waits between steps, and the hand-out then changes nothing (the model's choice, log 16) (04
R60). -/
def Obligations.EveryStepHandsOutItsUnits : Prop :=
  (∀ s t : State, s.handedOut → step s = .next t → t.handedOut) ∧ (∀ s : State, s.handedOut → s.settle = s)

/-- O6. Queues, buffers and the unacknowledged list keep their bounds, the call queue its QUEUED records, the pending list
one entry a line (11 R164, 11 R165, 11 R167, 02 R31, 03 R47, 06 R83, 06 R84, 06 R85, 06 R88, 03 R40, 03 R42, 04 R58). -/
def Obligations.HostLinkQueuesStayBounded : Prop :=
  (∀ s t : State, s.queuesBounded → step s = .next t → t.queuesBounded)
    ∧ (∀ s t : State, s.buffersBounded → step s = .next t → t.buffersBounded)
    ∧ (∀ s t : State, s.gd.queueOk → step s = .next t → t.gd.queueOk)
    ∧ ∀ s t : State, s.pendingOnce → step s = .next t → t.pendingOnce

/-- O7. Every step keeps the store memory in its canonical form (the model's representation, log 8) (08 R116). -/
def Obligations.StoreMemoryStaysCanonical : Prop :=
  ∀ s t : State, s.storeCanonical → step s = .next t → t.storeCanonical

/-- O8. Coder states, quality accumulators, training sums and counters stay within their ranges (09 R134, 09 R135, 05 R69,
05 R70, 12 R179). -/
def Obligations.CoderStatesStayInRange : Prop :=
  (∀ s t : State, s.codersInRange → step s = .next t → t.codersInRange)
    ∧ ∀ s t : State, s.countsInRange → step s = .next t → t.countsInRange

/-- O9. Tables keep their sizes, caller numbers differ, RECORD is held once, no cell lies in two entries (11 R162, 03 R40,
03 R49, 11 R169, 08 R117, 08 R118, 08 R122, 08 R123, 08 R129, 08 R133). -/
def Obligations.TablesKeepTheirSizes : Prop :=
  (∀ s t : State, s.shaped → step s = .next t → t.shaped)
    ∧ (∀ s t : State, s.ct.numbersDiffer → step s = .next t → t.ct.numbersDiffer)
    ∧ (∀ s t : State, s.recordersOk → step s = .next t → t.recordersOk)
    ∧ ∀ s t : State, s.storeLaidOut → step s = .next t → t.storeLaidOut

/-- O10. The state after reset meets every invariant, and its lines are idle (held and store form: logs 4 and 8) (01 R16,
02 R18, 05 R81, 06 R97, 07 R115, 08 R133, 09 R147, 10 R160). -/
def Obligations.ResetMeetsTheInvariants : Prop :=
  State.reset.pending = [] ∧ State.reset.phase = .held ∧ State.reset.handedOut ∧ State.reset.queuesBounded
    ∧ State.reset.storeCanonical ∧ State.reset.codersInRange ∧ State.reset.shaped
    ∧ (∀ i : LineNo, (State.reset.line i).lif.hook = .onHook ∧ (State.reset.line i).lif.ring = .quiet
      ∧ (State.reset.line i).cc.state = .idle ∧ (State.reset.line i).dp.pump = .off
      ∧ (State.reset.line i).blc.link = .off ∧ (State.reset.line i).apc.plan = .inactive
      ∧ (State.reset.line i).acts = [] ∧ (State.reset.line i).fxc.job = none ∧ (State.reset.line i).vc.op = none)
    ∧ State.reset.buffersBounded ∧ State.reset.countsInRange ∧ State.reset.ct.numbersDiffer
    ∧ State.reset.recordersOk ∧ State.reset.storeLaidOut ∧ State.reset.budgetOk
    ∧ State.reset.gd.queueOk ∧ State.reset.pendingOnce

/-- O11. The lines never hold more than 120 units, each pump counted at or above whatever class it works with (04 R54, 04
R55, 04 R56, 04 R57, 04 R64, 05 R67, 05 R70, 05 R73, 05 R74, 05 R76, 05 R79, 10 R153). -/
def Obligations.HoldingsNeverExceedCapacity : Prop :=
  (∀ s t : State, s.budgetOk → step s = .next t → t.budgetOk) ∧ ∀ s : State, s.budgetOk → s.free + s.held = 120

/-- O12. An admission is granted within the free units at the highest class that fits, or joins the pending list (04 R56,
04 R57, 04 R58, 04 R60, 05 R73). -/
def Obligations.AdmissionGrantsWithinFreeUnits : Prop :=
  (∀ (a : Ask) (free : Nat),
    (∀ acts, a.fit free = some acts → costOf acts ≤ free)
      ∧ (∀ acts c, a.pump = some c → a.fit free = some acts →
          ∃ k ∈ classesDown c, acts = .pump k :: a.acts
            ∧ ∀ h ∈ classesDown c, k.idx < h.idx → free < h.cost + costOf a.acts)
      ∧ (a.fit free = none → a.pump = none → free < costOf a.acts)
      ∧ (∀ c, a.fit free = none → a.pump = some c → ∀ h ∈ classesDown c, free < h.cost + costOf a.acts))
  ∧ (∀ (s : State) (i : LineNo) (ends : List Activity) (a : Ask) (r : Requester),
    (s.hasPending i = true → s.request i ends a r = (s, none))
    ∧ (s.hasPending i = false →
      let u := s.endActs i ends
      (u.line i).acts = ((s.line i).acts.filter fun x => !ends.contains x)
      ∧ (∀ acts, a.fit u.free = some acts →
        s.request i ends a r = (u.upd i fun l => { l with acts := l.acts ++ acts }, some acts)
        ∧ (∀ j, j ≠ i → (s.request i ends a r).1.line j = s.line j)
        ∧ (s.request i ends a r).1.bm.plist = s.bm.plist
        ∧ ((∃ x ∈ (s.line i).acts, x ∈ ends) →
          (s.request i ends a r).1.bm.due = true ∧ (s.request i ends a r).1.bm.offer = true))
      ∧ (a.fit u.free = none →
        s.request i ends a r =
          (({ u with bm := { u.bm with plist := u.bm.plist ++ [
              { line := i, ask := a
                requirement := costOf a.acts + (match a.pump with
                  | some c => c.floor.cost
                  | none => 0)
                requester := r, joined := s.now, due := s.now + 2000 }] } } : State).considerReclaim, none))))
  ∧ (∀ (s : State) (i : LineNo) (cur next : Cls),
    (next.cost - cur.cost ≤ s.free →
      s.askForward i cur next = ((s.setCounted i next).enterRateChange i true next, true))
    ∧ (s.free < next.cost - cur.cost →
      s.askForward i cur next = ((s.updDp i fun d => { d with fwdRun := 0 }).updCnt i fun c => { c with
        forwardsDenied := satAdd c.forwardsDenied 1 }, false)))

/-- O13. A store byte reads as it was last written, and a write changes no other byte (08 R116). -/
def Obligations.StoreReadsBackWhatWasWritten : Prop :=
  ∀ (m : List Host.Cell) (a : Nat) (b : Byte), memWf m →
    memRead (memWrite m a b) a = b
      ∧ (∀ x, x ≠ a → memRead (memWrite m a b) x = memRead m x)
      ∧ ∀ n x, memRead (memClear m a n) x = if a ≤ x ∧ x < a + n then 0 else memRead m x

/-- O14. Raising a notice sets its flag and no other, and nothing else changes (11 R169). -/
def Obligations.RaisingSetsOneFlag : Prop :=
  ∀ (s : State) (k : Notice) (i : LineNo), s.nu.flags.length = 19 →
    (s.raise k i).flag k i = true
      ∧ (∀ (k' : Notice) (j : LineNo), (k', j) ≠ (k, i) → (s.raise k i).flag k' j = s.flag k' j)
      ∧ s.raise k i = { s with nu := { s.nu with flags := (s.raise k i).nu.flags } }

/-- O15. FLASH_COMPLETE, BREAK_END and MAKE_END move the hook as timed (01 R3, 01 R4, 02 R22). -/
def Obligations.HookTimersEnd : Prop :=
  ∀ (s : State) (i : LineNo) (d : Nat), s.phase = .running →
    ((s.line i).lif.flashDue = some d →
      exec (.flashComplete i) s = .next
        (let u := (s.reach d).updLif i fun l => { l with
          hook := .offHook, flashDue := none, blankDue := some (max s.now d + 200) }
        (if (s.line i).cc.elem = .flash then u.elemEnds i else u).settle))
    ∧ ((s.line i).lif.breakDue = some d →
      exec (.breakEnd i) s = .next ((s.reach d).updLif i fun l => { l with
        hook := .offHook, breakDue := none, breaksLeft := l.breaksLeft - 1, makeDue := some (max s.now d + 40)
        blankDue := some (max s.now d + 200) }).settle)
    ∧ ((s.line i).lif.makeDue = some d → 0 < (s.line i).lif.breaksLeft →
      exec (.makeEnd i) s = .next ((s.reach d).updLif i fun l => { l with
        hook := .breaking, makeDue := none, breakDue := some (max s.now d + 60), loop := .blanked
        absenceDue := none }).settle)
    ∧ ((s.line i).lif.makeDue = some d → (s.line i).lif.breaksLeft = 0 →
      exec (.makeEnd i) s = .next
        (let u := (s.reach d).updLif i fun l => { l with makeDue := none }
        (if (s.line i).cc.elem = .breaks then
          u.updCc i fun c => { c with elem := .pulsePause (max s.now d + 700) } else u).settle))

/-- O16. RING_VOLTAGE_ONSET, BURST_QUALIFIED, RING_VOLTAGE_END and RING_ABANDONED move the ring detector (choices: logs
14, 31, 69) (01 R5, 01 R6, 01 R7, 01 R8, 01 R12, 01 R13, 02 R25, 02 R27). -/
def Obligations.RingEnvelopeMovesDetector : Prop :=
  ∀ (s : State) (i : LineNo), s.phase = .running →
    (exec (.ringVoltageOnset i) s = .next (if (s.line i).lif.ring = .quiet then
        ((s.updLif i fun l => { l with
          ring := .candidate, burstDue := some (s.now + clamp 100 500 s.sl.live.part.burstMin), burstCounted := false
          firstBurst := false
          abandon := match l.abandon with
            | .running d => .held (d - s.now)
            | a => a }).closeClid i).settle
      else s.settle))
    ∧ (∀ d, (s.line i).lif.burstDue = some d →
      exec (.burstQualified i) s = .next
        (let t := (s.reach d).updLif i fun l => { l with ring := .burst, burstDue := none }
        ((if (s.line i).lif.hook = .onHook then
            if (s.line i).cc.state = .idle ∨ (s.line i).cc.state = .ringing then
              (t.updLif i fun l => { l with
                ringCount := min 255 (l.ringCount + 1), abandon := .stopped, burstCounted := true
                firstBurst := decide ((s.line i).cc.state = .idle) }).ring i
            else t
          else t.glare i).superviseLine i true).settle))
    ∧ (∀ volts, exec (.ringVoltageEnd i volts) s = .next (match (s.line i).lif.ring with
      | .quiet => s
      | .candidate =>
        let t := s.updLif i fun l => { l with
          ring := .quiet, burstDue := none, deferred := false
          abandon := match l.abandon with
            | .held n => .running (s.now + n)
            | a => a }
        if (s.line i).lif.deferred then t.superviseLine i (decide (s.threshold ≤ volts)) else t
      | .burst =>
        let t := s.updLif i fun l => { l with
          ring := .quiet, deferred := false, firstBurst := false, burstCounted := false
          abandon := if l.burstCounted ∧ s.burstCounts i then .running (s.now + 8000) else l.abandon }
        if (s.line i).lif.firstBurst then t.openClid i else t).settle)
    ∧ (∀ d, (s.line i).lif.abandon = .running d →
      exec (.ringAbandoned i) s = .next
        (((s.reach d).updLif i fun l => { l with abandon := .stopped, ringCount := 0 }).abandoned i).settle)

/-- O17. The loop detector and the line check act as R9, R10 and R12 lay down (01 R9, 01 R10, 01 R12). -/
def Obligations.LoopAndSupervisionEvents : Prop :=
  ∀ (s : State) (i : LineNo), s.phase = .running →
    (∀ d current, (s.line i).lif.blankDue = some d →
      exec (.blankingEnd i current) s = .next ((s.reach d).updLif i fun l =>
        if l.hook = .offHook then
          (if current then { l with blankDue := none, loop := .present }
           else { l with blankDue := none, loop := .absent, absenceDue := some (max s.now d + 400) })
        else { l with blankDue := none }).settle)
    ∧ (exec (.loopCurrentAbsent i) s = .next (if (s.line i).lif.loop = .present then
        (s.updLif i fun l => { l with loop := .absent, absenceDue := some (s.now + 400) }).settle else s.settle))
    ∧ (exec (.loopCurrentReturn i) s = .next
        (if (s.line i).lif.loop = .absent ∨ (s.line i).lif.loop = .lost then
          (s.updLif i fun l => { l with loop := .present, absenceDue := none }).settle else s.settle))
    ∧ (∀ d, (s.line i).lif.absenceDue = some d →
      exec (.loopLost i) s = .next
        (((s.reach d).updLif i fun l => { l with loop := .lost, absenceDue := none }).raiseCause i .loopLost).settle)
    ∧ (∀ d volts, (s.line i).lif.intervalDue = some d →
      exec (.supervisionCheck i volts) s = .next
        (let t := (s.reach d).updLif i fun l => { l with intervalDue := none }
        (if (s.line i).lif.ring = .quiet then
          t.superviseLine i (decide (clamp 10 40 s.sl.live.part.voltage ≤ volts))
        else t.updLif i fun l => { l with deferred := true }).settle))

/-- O18. A supervision result moves the service state and the counts by the table of R14 (01 R11, 01 R13, 01 R14). -/
def Obligations.SupervisionResultMovesServiceState : Prop :=
  ∀ (s : State) (i : LineNo) (good : Bool), s.nu.flags.length = 19 →
    let l := (s.line i).lif
    let t := s.applyResult i good
    let l' := (t.line i).lif
    ((l.service = .inService → good = true → l'.service = .inService ∧ l'.badCount = l.badCount)
      ∧ (l.service = .inService → good = false → l'.service = .suspect ∧ l'.badCount = 1)
      ∧ (l.service = .suspect → good = true → l'.service = .inService ∧ l'.badCount = 0)
      ∧ (l.service = .suspect → l.badCount = 1 → good = false → l'.service = .suspect ∧ l'.badCount = 2)
      ∧ (l.service = .suspect → l.badCount = 2 → good = false →
          l'.service = .outOfService ∧ l'.badCount = 3 ∧ l'.goodCount = 0)
      ∧ (l.service = .outOfService → l.goodCount ≤ 1 → good = true →
          l'.service = .outOfService ∧ l'.goodCount = l.goodCount + 1)
      ∧ (l.service = .outOfService → l.goodCount = 2 → good = true →
          l'.service = .inService ∧ l'.goodCount = 0 ∧ l'.badCount = 0)
      ∧ (l.service = .outOfService → good = false → l'.service = .outOfService ∧ l'.goodCount = 0))
    ∧ (l.hook = .onHook → l'.intervalDue = some (s.now + s.checkPeriod l'.service))
    ∧ (l.hook ≠ .onHook → l'.intervalDue = l.intervalDue)
    ∧ (t.flag .svce i = (s.flag .svce i || decide (l'.service ≠ l.service)))
    ∧ ∀ j, j ≠ i → t.line j = s.line j

/-- O19. Dial tone, its waits and the ends of dial list elements carry the dialling on (02 R20, 02 R22, 01 R13). -/
def Obligations.DialElementsEnd : Prop :=
  ∀ (s : State) (i : LineNo), s.phase = .running →
    ((s.line i).cc.state = .seized → exec (.dialToneQualified i) s = .next (s.beginDialling i).settle)
    ∧ (∀ d, (s.line i).cc.state = .dialling → (s.line i).cc.elem = .await d →
        exec (.dialToneQualified i) s = .next (s.elemEnds i).settle)
    ∧ (∀ d, (s.line i).cc.dialToneDue = some d →
        exec (.dialToneWaitExpiry i) s = .next
          (((s.reach d).superviseLine i false).progressFails i .noDialTone).settle)
    ∧ (∀ d, (s.line i).cc.elem = .await d →
        exec (.awaitToneExpiry i) s = .next ((s.reach d).progressFails i .noDialTone).settle)
    ∧ (∀ d, (s.line i).cc.elem = .toneDigit d →
        exec (.dtmfDigitSent i) s = .next ((s.reach d).elemEnds i).settle)
    ∧ (∀ d, (s.line i).cc.elem = .pulsePause d →
        exec (.interDigitPauseEnd i) s = .next ((s.reach d).elemEnds i).settle)
    ∧ (∀ d, (s.line i).cc.elem = .pause d → exec (.pauseEnd i) s = .next ((s.reach d).elemEnds i).settle)

/-- O20. At the end of an element the next one begins, and PROGRESS follows the last (02 R21, 02 R22, 02 R23, 01 R3, 01
R4). -/
def Obligations.DialListAdvancesByElement : Prop :=
  ∀ (s : State) (i : LineNo) (rest : List DialElem),
    (∀ d, (s.line i).cc.dial.drop ((s.line i).cc.pos + 1) = .digit d :: rest → (s.line i).cc.method = .tone →
      s.elemEnds i = s.updCc i fun c => { c with pos := c.pos + 1, elem := .toneDigit (s.now + 160) })
    ∧ (∀ n, (s.line i).cc.dial.drop ((s.line i).cc.pos + 1) = .pause n :: rest →
      s.elemEnds i = s.updCc i fun c => { c with pos := c.pos + 1, elem := .pause (s.now + n * 100) })
    ∧ ((s.line i).cc.dial.drop ((s.line i).cc.pos + 1) = .awaitTone :: rest →
      s.elemEnds i = s.updCc i fun c => { c with pos := c.pos + 1, elem := .await (s.now + 5000) })
    ∧ ((s.line i).cc.dial.drop ((s.line i).cc.pos + 1) = .flash :: rest → (s.line i).lif.hook = .offHook →
      s.elemEnds i = (s.updCc i fun c => { c with pos := c.pos + 1, elem := .flash }).updLif i fun l => { l with
        hook := .flashing, flashDue := some (s.now + 500), loop := .blanked, absenceDue := none })
    ∧ (∀ n : Fin 10, (s.line i).cc.dial.drop ((s.line i).cc.pos + 1) = .digit (.num n) :: rest →
      (s.line i).cc.method = .pulse → (s.line i).lif.hook = .offHook → (s.line i).lif.makeDue = none →
      s.elemEnds i = (s.updCc i fun c => { c with pos := c.pos + 1, elem := .breaks }).updLif i fun l => { l with
        hook := .breaking, breaksLeft := (if n = 0 then 10 else n.val), breakDue := some (s.now + 60)
        loop := .blanked, absenceDue := none })
    ∧ ((s.line i).cc.dial.drop ((s.line i).cc.pos + 1) = [] → (s.line i).cc.state = .dialling →
      ((s.elemEnds i).line i).cc.state = .progress ∧ ((s.elemEnds i).line i).cc.pos = (s.line i).cc.pos + 1
        ∧ ((s.elemEnds i).line i).cc.answerDue
          = some (s.now + clamp 10 90 (s.sl.live.lines.get i).answerWait * 1000))

/-- O21. The call-progress tone events are classed by their lengths (the model's reading, log 44) (02 R23, 02 R24, 09
R144). -/
def Obligations.CallProgressTonesAreClassed : Prop :=
  ∀ (s : State) (i : LineNo), s.phase = .running →
    (s.toneWatched i = false →
      exec (.cpToneStart i) s = .next s.settle ∧ exec (.cpToneEnd i) s = .next s.settle
        ∧ exec (.cpSilenceLimit i) s = .next s.settle ∧ exec (.cpToneLimit i) s = .next s.settle)
    ∧ (s.toneWatched i = true →
      ((s.line i).tu.cp = .quiet → exec (.cpToneStart i) s = .next (s.toneStarts i).settle)
      ∧ ((s.line i).tu.cp.present = true → exec (.cpToneStart i) s = .next s.settle)
      ∧ (∀ t, (s.line i).tu.cp = .silence t →
          exec (.cpToneStart i) s = .next
            (let u := (if t + 200 ≤ s.now then s.busyCycle i else s.noBusy i).updTu i fun x => { x with cp := .quiet }
            (if u.toneWatched i then u.toneStarts i else u).settle)
          ∧ exec (.cpSilenceLimit i) s = .next
            (((s.reach (t + 700)).updTu i fun x => { x with cp := .quiet }).busyCycle i).settle)
      ∧ (∀ t, (s.line i).tu.cp = .tone t →
          exec (.cpToneEnd i) s = .next
            (if s.now - t < 200 then (s.toneEnded i .quiet).noBusy i
            else if s.now - t ≤ 700 then s.toneEnded i (.silence s.now)
            else if s.now - t ≤ 2500 then s.ringback i
            else (s.toneEnded i .quiet).noBusy i).settle
          ∧ exec (.cpToneLimit i) s = .next
            (((s.reach (t + 2500)).updTu i fun x => { x with cp := .over }).noBusy i).settle)
      ∧ ((s.line i).tu.cp = .over → exec (.cpToneEnd i) s = .next (s.toneEnded i .quiet).settle))

/-- O22. Speech, answer tone, the answer wait and the absence of ringback decide PROGRESS (extent of a frame: log 70) (02
R23, 02 R24). -/
def Obligations.ProgressIsDecided : Prop :=
  ∀ (s : State) (i : LineNo), s.phase = .running →
    (∀ samples, (s.line i).cc.state = .progress → s.hasPending i = false → (s.line i).cc.kind = some .voice →
      exec (.progressFrameLevel i samples) s = .next
        (let v := s.updTu i fun t => { t with toneInFrame := t.cp.present }
        if min 2047 s.sl.live.part.speech ≤ (samples.map Int.natAbs).sum / 80 ∧ (s.line i).tu.toneInFrame = false
            ∧ (s.line i).tu.cp.present = false then
          (let u := v.updCc i fun c => { c with speechRun := (s.line i).cc.speechRun + 1 }
          if 10 ≤ (s.line i).cc.speechRun + 1 then u.progressConnects i else u).settle
        else (v.updCc i fun c => { c with speechRun := 0 }).settle))
    ∧ ((s.toneStarts i).line i).tu.toneInFrame = true
    ∧ (∀ tone, (s.line i).cc.state = .progress → s.hasPending i = false →
      exec (.answerToneDetected i tone) s = .next
        (if (s.line i).cc.kind = some (answerKind tone) then (s.progressConnects i).settle else s.settle))
    ∧ (∀ d, (s.line i).cc.answerDue = some d →
      exec (.answerWaitExpiry i) s = .next ((s.reach d).progressFails i .noAnswer).settle)
    ∧ (∀ d, (s.line i).cc.ringbackDue = some d →
      exec (.ringbackAbsenceExpiry i) s = .next
        (let u := (s.reach d).updCc i fun c => { c with ringbackDue := none }
        (if (s.line i).cc.state = .progress ∧ (s.line i).cc.kind = some .voice ∧ (s.line i).cc.ringbackHeard then
          u.progressConnects i
        else u).settle))

/-- O23. SETTLE_END, DRAIN_END, DRAIN_WAIT_EXPIRY and GUARD_EXPIRY (02 R26, 02 R35, 02 R36, 01 R8, 03 R43, 10 R151). -/
def Obligations.SettleDrainAndGuardEnd : Prop :=
  ∀ (s : State) (i : LineNo) (d : Nat), s.phase = .running →
    ((s.line i).cc.settleDue = some d →
      exec (.settleEnd i) s = .next
        (let u := (s.reach d).updCc i fun c => { c with settleDue := none }
        (if (s.line i).cc.state ≠ .answering then u
        else if (s.line i).apc.plan = .answering ∧ (s.line i).cc.kind = some .voice then u.planAsks i
        else u.askConnection i).settle))
    ∧ ((s.line i).cc.drainDue = some d → (s.line i).blc.tx = [] → (s.line i).blc.unacked = [] →
      exec (.drainEnd i) s = .next (s.startClearing i).settle)
    ∧ ((s.line i).cc.drainDue = some d →
      exec (.drainWaitExpiry i) s = .next ((s.reach d).startClearing i).settle)
    ∧ ((s.line i).cc.guardDue = some d →
      exec (.guardExpiry i) s = .next
        (let u := ((s.reach d).updCc i fun c => { c with guardDue := none }).updLif i fun l => { l with ringCount := 0 }
        (if (s.line i).cc.state = .clearing then (u.toIdle i).lineEvent i else u).settle))

/-- O24. The caller-identification window, the Caller Table's lookup and learning, the raise, and declared digits
(choices: logs 71, 91, 92) (02 R27, 02 R28, 02 R29, 02 R30, 02 R31, 02 R32, 03 R50, 03 R51, 04 R59). -/
def Obligations.CallerIdentificationAndDigits : Prop :=
  ∀ (s : State) (i : LineNo), s.phase = .running →
    (∀ w, (s.line i).tu.clid = some w →
      exec (.clidWindowTimeout i) s = .next ((s.reach w.due).closeClid i).settle
      ∧ exec (.callerIdByteReceived i) s = .next
          (s.updTu i fun t => { t with clid := some { w with begun := true } }).settle
      ∧ ∀ b, exec (.callerMessageReceived i b) s = .next
          (let u := s.updTu i fun t => { t with clid := some { w with begun := false } }
          (match judgeClid b with
            | .bad => { u with cnt := { u.cnt with clidBad := satAdd u.cnt.clidBad 1 } }
            | .other => u
            | .caller c => u.callerKnown i c).settle))
    ∧ (∀ d, (s.line i).holds .voiceBase = true → (s.line i).tu.toneDue = none →
      exec (.dtmfDigitDeclared i d) s = .next
        (((if (s.line i).tu.digits.length < 16 then
            ((s.updTu i fun t => { t with digits := t.digits ++ [d] }).updCnt i fun k => { k with
              digits := satAdd k.digits 1 }).raise .dgts i
          else s.updCnt i fun k => { k with
            digits := satAdd k.digits 1, digitsDropped := satAdd k.digitsDropped 1 }).digitStops i).mailboxLook i).settle)
    ∧ (∀ d x r, (s.line i).tu.toneDue = some d → (s.line i).tu.toneList = x :: r →
      exec (.toneDigitEnd i) s = .next ((s.reach d).updTu i fun t => { t with
        toneList := r, toneDue := if r.isEmpty then none else some (max s.now d + 160) }).settle)
    ∧ (∀ c : Caller,
      let r : Ct × CallerClass × Bool := match c.number with
        | some n => s.ct.lookup n
        | none => (s.ct, .unknown, false)
      s.callerKnown i c =
        (((({ s with
            ct := r.1
            cnt := { s.cnt with
              learningDropped := if r.2.2 then satAdd s.cnt.learningDropped 1 else s.cnt.learningDropped } } :
            State).upd i fun l => { l with
              cc := { l.cc with caller := some c }, apc := { l.apc with callerClass := some r.2.1 }
              precRaised := l.precRaised || r.2.1 == .priority }).raise .clid i).answerDecision i))
    ∧ s.precedence i = (if (s.line i).precRaised then 3 else min 3 (s.sl.live.lines.get i).precedence)
    ∧ ∀ (t : Ct) (n : List Byte),
      (∀ k e, t.find n = some k → t.table[k]? = some (some e) →
        e.number = n ∧ t.lookup n =
          ({ t with table := t.table.set k (some { e with count := min 255 (e.count + 1), lastOrdinal := t.ordinal }) },
            e.cls, false))
      ∧ (∀ k, t.find n = none →
        (t.table.findIdx? (·.isNone) = some k ∨ (t.table.findIdx? (·.isNone) = none ∧ t.oldest = some k)) →
        t.lookup n =
          ({ t with table := t.table.set k (some
              { number := n, cls := .learned, count := 1, lastOrdinal := t.ordinal, label := none }) },
            .learned, false))
      ∧ (t.find n = none → t.table.findIdx? (·.isNone) = none → t.oldest = none → t.lookup n = (t, .unknown, true))
      ∧ (∀ k, t.oldest = some k → ∃ e, t.table[k]? = some (some e) ∧ e.cls = .learned
        ∧ ∀ (j : Nat) (x : CtEntry), t.table[j]? = some (some x) → x.cls = .learned →
            t.age x < t.age e ∨ (t.age x = t.age e ∧ k ≤ j))
      ∧ (t.oldest = none → ∀ (j : Nat) (x : CtEntry), t.table[j]? = some (some x) → x.cls ≠ .learned)

/-- O25. CALL is taken, or refused, by R19 on a line and by R40 on a group (class bytes of a VOICE call: log 12) (02 R19,
02 R20, 03 R39, 03 R40, 03 R42). -/
def Obligations.CallSeizesALine : Prop :=
  (∀ (s : State) (tag kind maxc floor : Nat) (dial : List (Nat × Nat)) (k : CallKind), s.ready →
    CallKind.of kind = some k →
    (∀ (i : LineNo) (d : List DialElem), dialListOf (some (s.lineSettings i).dialMethod) dial = some d →
      (s.line i).lif.service ≠ .outOfService → (s.line i).cc.state = .idle → 6 ≤ s.free →
      exec (.call i.val tag kind maxc floor dial) s = .next
        ((s.enterSeized i k d (s.lineSettings i).dialMethod (connOf k maxc floor)).answered i.val tag
          (chars 'C' 'A' 'L' 'L') .accepted (be1 i.val ++ be1 255 ++ beConn (connOf k maxc floor) ++ be2 0)))
    ∧ (∀ (g : LineNo) (d : List DialElem) (wait hostTag : Nat), dialListOf none dial = some d →
      s.gd.groupState.get g ≠ .empty →
      let c : GroupCall :=
        { group := g, kind := k, dial := d, conn := connOf k maxc floor, wait := min 600 wait, tag := hostTag }
      (∀ i e, s.chooseLine g = some i → s.freeRec = some e →
        exec (.callGroup tag g.val kind maxc floor wait hostTag dial) s = .next
          (((s.setRec e { st := .assigned i, call := c, expiry := s.now + c.wait * 1000 }).dispatchTo c i e).answered 15
            tag (chars 'C' 'A' 'L' 'L') .accepted (be1 i.val ++ be1 e ++ beConn c.conn ++ be2 c.wait)))
      ∧ (∀ i, s.chooseLine g = some i → s.freeRec = none →
        exec (.callGroup tag g.val kind maxc floor wait hostTag dial) s = .next
          ((s.dispatchTo c i 8).answered 15 tag (chars 'C' 'A' 'L' 'L') .accepted
            (be1 i.val ++ be1 8 ++ beConn c.conn ++ be2 c.wait)))
      ∧ (∀ e, s.chooseLine g = none → s.freeRec = some e → wait ≠ 0 →
        exec (.callGroup tag g.val kind maxc floor wait hostTag dial) s = .next
          (({ s with gd := { s.gd with
              recs := s.gd.recs.set e { st := .queued, call := c, expiry := s.now + c.wait * 1000 }
              queue := s.gd.queue ++ [e] } }).answered 15 tag (chars 'C' 'A' 'L' 'L') .queued
            (be1 255 ++ be1 e ++ beConn c.conn ++ be2 c.wait)))
      ∧ (s.chooseLine g = none → wait = 0 →
        exec (.callGroup tag g.val kind maxc floor wait hostTag dial) s = .next
          (s.answered 15 tag (chars 'C' 'A' 'L' 'L') .noLine []))
      ∧ (s.chooseLine g = none → wait ≠ 0 → s.freeRec = none →
        exec (.callGroup tag g.val kind maxc floor wait hostTag dial) s = .next
          (s.answered 15 tag (chars 'C' 'A' 'L' 'L') .queueFull [])))
    ∧ (∀ (i : LineNo) (d : List DialElem), dialListOf (some (s.lineSettings i).dialMethod) dial = some d →
      ((s.line i).lif.service = .outOfService →
        exec (.call i.val tag kind maxc floor dial) s = .next
          (s.answered i.val tag (chars 'C' 'A' 'L' 'L') .outOfService []))
      ∧ ((s.line i).lif.service ≠ .outOfService → (s.line i).cc.state ≠ .idle →
        exec (.call i.val tag kind maxc floor dial) s = .next
          (s.answered i.val tag (chars 'C' 'A' 'L' 'L') .wrongState []))
      ∧ ((s.line i).lif.service ≠ .outOfService → (s.line i).cc.state = .idle → s.free < 6 →
        exec (.call i.val tag kind maxc floor dial) s = .next
          (s.answered i.val tag (chars 'C' 'A' 'L' 'L') .noCapacity [])))
    ∧ ∀ (g : LineNo) (d : List DialElem) (wait hostTag : Nat), dialListOf none dial = some d →
      s.gd.groupState.get g = .empty →
      exec (.callGroup tag g.val kind maxc floor wait hostTag dial) s = .next
        (s.answered 15 tag (chars 'C' 'A' 'L' 'L') .noLine []))
  ∧ ∀ (s : State) (line group tag kind maxc floor wait hostTag : Nat) (dial : List (Nat × Nat)), s.ready →
    ((4 ≤ line ∨ CallKind.of kind = none
        ∨ ∃ i : LineNo, line = i.val ∧ dialListOf (some (s.lineSettings i).dialMethod) dial = none) →
      exec (.call line tag kind maxc floor dial) s = .next
        (s.answered line tag (chars 'C' 'A' 'L' 'L') .badArgument []))
    ∧ ((4 ≤ group ∨ CallKind.of kind = none ∨ dialListOf none dial = none) →
      exec (.callGroup tag group kind maxc floor wait hostTag dial) s = .next
        (s.answered 15 tag (chars 'C' 'A' 'L' 'L') .badArgument []))

/-- O26. ANSR, RELS, DIGR and TONE, carried out or refused (class bytes of a VOICE call: log 12) (02 R26, 02 R31, 02 R32,
02 R35). -/
def Obligations.AnsrRelsDigrToneAreTaken : Prop :=
  ∀ (s : State) (i : LineNo) (tag : Nat), s.ready →
    (∀ kind maxc floor k, CallKind.of kind = some k → (s.line i).cc.state = .ringing → (s.line i).cc.ignore = false →
      exec (.ansr i.val tag kind maxc floor) s = .next
        (((s.updApc i fun a => { a with plan := .inactive }).enterAnswering i k (connOf k maxc floor)).answered i.val tag
          (chars 'A' 'N' 'S' 'R') .ok (beConn (connOf k maxc floor))))
    ∧ (∀ drain b, flagOf drain = some b →
      exec (.rels i.val tag drain) s = .next
        (match (s.line i).cc.state with
          | .idle | .clearing => s.answered i.val tag (chars 'R' 'E' 'L' 'S') .wrongState []
          | .ringing => ((s.updCc i fun c => { c with ignore := true }).updApc i fun a => { a with
              plan := .inactive }).answered i.val tag (chars 'R' 'E' 'L' 'S') .ok []
          | .answering | .seized | .dialling | .progress =>
            (s.raiseCause i .hostRelease).answered i.val tag (chars 'R' 'E' 'L' 'S') .ok []
          | .connected =>
            (if (s.line i).cc.kind = some .data ∧ b then
              (if (s.line i).cc.drainDue.isSome then s
              else
                let u := (s.joinCause i .hostRelease).updCc i fun c => { c with drainDue := some (s.now + 10000) }
                if (s.line i).blc.tx.isEmpty ∧ (s.line i).blc.unacked.isEmpty then u.startClearing i else u)
            else s.raiseCause i .hostRelease).answered i.val tag (chars 'R' 'E' 'L' 'S') .ok []))
    ∧ (exec (.digr i.val tag) s = .next
        ((s.updTu i fun t => { t with digits := [] }).answered i.val tag (chars 'D' 'I' 'G' 'R') .ok
          (be1 (s.line i).tu.digits.length ++ (s.line i).tu.digits.map fun d => BitVec.ofNat 8 d.code)))
    ∧ (∀ digits l, dtmfList digits = some l → 1 ≤ l.length → l.length ≤ 32 → (s.line i).cc.state = .connected →
      (s.line i).cc.kind = some .voice → (s.line i).planActive = false → (s.line i).vc.op = none →
      (s.line i).tu.toneDue = none →
      exec (.tone i.val tag digits) s = .next
        ((s.updTu i fun t => { t with toneList := l, toneDue := some (s.now + 160) }).answered i.val tag
          (chars 'T' 'O' 'N' 'E') .ok []))
    ∧ (∀ kind maxc floor,
      (CallKind.of kind = none → exec (.ansr i.val tag kind maxc floor) s = .next
        (s.answered i.val tag (chars 'A' 'N' 'S' 'R') .badArgument []))
      ∧ (CallKind.of kind ≠ none → ((s.line i).cc.state ≠ .ringing ∨ (s.line i).cc.ignore = true) →
        exec (.ansr i.val tag kind maxc floor) s = .next
          (s.answered i.val tag (chars 'A' 'N' 'S' 'R') .wrongState [])))
    ∧ (∀ drain, flagOf drain = none → exec (.rels i.val tag drain) s = .next
        (s.answered i.val tag (chars 'R' 'E' 'L' 'S') .badArgument []))
    ∧ ∀ digits,
      ((digits = [] ∨ 32 < digits.length ∨ dtmfList digits = none) →
        exec (.tone i.val tag digits) s = .next (s.answered i.val tag (chars 'T' 'O' 'N' 'E') .badArgument []))
      ∧ (∀ l, dtmfList digits = some l → 1 ≤ l.length → l.length ≤ 32 →
        ((s.line i).cc.connectedVoice = false →
          exec (.tone i.val tag digits) s = .next (s.answered i.val tag (chars 'T' 'O' 'N' 'E') .wrongState []))
        ∧ ((s.line i).cc.connectedVoice = true →
          ((s.line i).planActive = true ∨ (s.line i).vc.op ≠ none ∨ (s.line i).tu.toneDue ≠ none) →
          exec (.tone i.val tag digits) s = .next (s.answered i.val tag (chars 'T' 'O' 'N' 'E') .busy [])))

/-- O27. Clearing releases the line and everything the call held (02 R33, 02 R34, 04 R60, 04 R63, 05 R81, 06 R96, 07 R114,
09 R144, 10 R159). -/
def Obligations.ClearingEndsTheCall : Prop :=
  ∀ (s : State) (i : LineNo), s.nu.flags.length = 19 →
    let u := s.startClearing i
    let l := s.line i
    let l' := u.line i
    (l.cc.state.inCall = false → u = s)
    ∧ (l.cc.state.inCall = true →
      l'.cc.state = .clearing ∧ l'.cc.endReason = some (endReasonOf l.cc.causes)
        ∧ l'.cc.connSecs = (match l.cc.connectAt with
            | some t => (s.now - t) / 1000
            | none => 0)
        ∧ l'.cc.causes = [] ∧ l'.cc.guardDue = some (s.now + 1000)
        ∧ l'.lif.hook = .onHook ∧ l'.lif.abandon = .stopped ∧ l'.acts = [] ∧ l'.dp = {} ∧ l'.blc.link = .off
        ∧ l'.blc.tx = [] ∧ l'.blc.unacked = [] ∧ l'.vc.op = none ∧ l'.tu.clid = none ∧ l'.tu.toneDue = none
        ∧ (l.apc.plan ≠ .waitRings → l'.apc.plan = .inactive)
        ∧ (∀ j, l'.fxc.job = some j → j.outcome.isSome)
        ∧ u.hasPending i = false ∧ (∀ r, u.bm.reclaim = some r → r.victim ≠ i) ∧ u.flag .clrd i = true)

/-- O28. CNCL withdraws a queued entry and refuses every other (R45). -/
def Obligations.CnclWithdrawsAQueuedCall : Prop :=
  ∀ (s : State) (tag n : Nat), s.ready → s.gd.recs.length = 8 →
    (8 ≤ n → exec (.cncl 15 tag n) s = .next (s.answered 15 tag (chars 'C' 'N' 'C' 'L') .badArgument []))
    ∧ (∀ r, n < 8 → s.gd.recs[n]? = some r → r.st = .queued →
      exec (.cncl 15 tag n) s = .next
        (({ s with gd := { s.gd with
            queue := s.gd.queue.filter (fun x => x != n), recs := s.gd.recs.set n {} } }).answered 15 tag
          (chars 'C' 'N' 'C' 'L') .ok []))
    ∧ (∀ r, n < 8 → s.gd.recs[n]? = some r → r.st ≠ .queued →
      exec (.cncl 15 tag n) s = .next (s.answered 15 tag (chars 'C' 'N' 'C' 'L') .notFound []))

/-- O29. The group dispatcher: group states, choice of a line, dispatch events, GLARE return, queue events; the Caller
Table requests (03 R38, 03 R39, 03 R42, 03 R43, 03 R44, 03 R46, 03 R47, 03 R50, 03 R52, 03 R53). -/
def Obligations.QueueExpiryAndCallerTableRequests : Prop :=
  (∀ (s : State) (n : Fin 8), s.phase = .running →
    (∀ r, s.queuedRec n = some r →
      exec (.queueEntryExpiry n) s = .next
        (({ s with now := max s.now r.expiry, gd := { s.gd with
            queue := s.gd.queue.filter (fun x => x != n.val), recs := s.gd.recs.set n {} } }).recordEvent
          { kind := .expired, entry := n, tag := r.call.tag, line := none }).settle)
    ∧ (s.queuedRec n = none → exec (.queueEntryExpiry n) s = .next s.settle))
  ∧ (∀ (s : State) (tag : Nat), s.ready →
    (∀ number cls label c, CallerClass.ofEntry cls = some c → goodNumber number = true → goodLabel label = true →
      exec (.ctad 15 tag number cls label) s = .next
        (match s.ct.addEntry number c label with
          | some (t, k) => ({ s with ct := t }).answered 15 tag (chars 'C' 'T' 'A' 'D') .ok (be1 k)
          | none => s.answered 15 tag (chars 'C' 'T' 'A' 'D') .directoryFull []))
    ∧ (∀ k e, k < 32 → s.ct.used k = some e →
      exec (.ctdl 15 tag k) s = .next
        (({ s with ct := { s.ct with table := s.ct.table.set k none } }).answered 15 tag (chars 'C' 'T' 'D' 'L') .ok []))
    ∧ (∀ k, k < 32 →
      exec (.ctrd 15 tag k) s = .next (s.answered 15 tag (chars 'C' 'T' 'R' 'D') .ok
        (be4 s.ct.ordinal ++ be1 ((s.ct.from k).take 8).length
          ++ (((s.ct.from k).take 8).flatMap fun x => CtEntry.bytes x.1 x.2)
          ++ be1 (nextAfter 8 32 (s.ct.from k)))))
    ∧ (∀ number cls label, (CallerClass.ofEntry cls = none ∨ goodNumber number = false ∨ goodLabel label = false) →
      exec (.ctad 15 tag number cls label) s = .next (s.answered 15 tag (chars 'C' 'T' 'A' 'D') .badArgument []))
    ∧ (∀ k, 32 ≤ k →
      exec (.ctdl 15 tag k) s = .next (s.answered 15 tag (chars 'C' 'T' 'D' 'L') .badArgument [])
      ∧ exec (.ctrd 15 tag k) s = .next (s.answered 15 tag (chars 'C' 'T' 'R' 'D') .badArgument []))
    ∧ (∀ k, k < 32 → s.ct.used k = none →
      exec (.ctdl 15 tag k) s = .next (s.answered 15 tag (chars 'C' 'T' 'D' 'L') .notFound [])))
  ∧ (∀ (s : State) (g : LineNo), s.nu.flags.length = 19 →
    (s.groupStateOf g = .empty ↔ ∀ i, s.member g i = false)
    ∧ (s.groupStateOf g = .active ↔
      (∃ i, s.member g i = true) ∧ ∀ i, s.member g i = true → (s.line i).lif.service ≠ .outOfService)
    ∧ (s.groupStateOf g = .down ↔
      (∃ i, s.member g i = true) ∧ ∀ i, s.member g i = true → (s.line i).lif.service = .outOfService)
    ∧ s.recomputeGroups.gd.groupState.get g = s.groupStateOf g
    ∧ s.recomputeGroups.flag .grup 0 = (s.flag .grup 0 || decide (∃ h, s.groupStateOf h ≠ s.gd.groupState.get h))
    ∧ (∀ i, s.chooseLine g = some i → s.eligible g i = true
      ∧ ∀ j : LineNo, j - s.gd.rotation.get g - 1 < i - s.gd.rotation.get g - 1 → s.eligible g j = false)
    ∧ (s.chooseLine g = none → ∀ i, s.eligible g i = false)
    ∧ (∀ i, s.eligible g i = true ↔ s.member g i = true ∧ (s.line i).lif.service = .inService
      ∧ (s.line i).cc.state = .idle ∧ 6 ≤ s.free)
    ∧ ∀ c i k, (s.dispatchTo c i k).gd.rotation.get c.group = i)
  ∧ (∀ (s : State) (i : LineNo),
    (∀ a k r b, s.gd.queue = a ++ k :: b → s.queuedRec k = some r → s.eligible r.call.group i = true →
      (∀ x ∈ a, ∀ q, s.queuedRec x = some q → s.eligible q.call.group i = false) → s.lineEvent i = s.dispatchEntry k r i)
    ∧ ((∀ x ∈ s.gd.queue, ∀ q, s.queuedRec x = some q → s.eligible q.call.group i = false) → s.lineEvent i = s)
    ∧ s.walkQueue = s.gd.queue.foldl (fun t k => match t.queuedRec k with
      | some r => (match t.chooseLine r.call.group with
        | some j => t.dispatchEntry k r j
        | none => t)
      | none => t) s
    ∧ (s.assignedTo i = none → s.glareReturn i = s)
    ∧ (∀ k r, s.assignedTo i = some k → s.gd.recs[k]? = some r →
      (s.now < r.expiry → s.glareReturn i =
        (({ s with gd := { s.gd with
            recs := s.gd.recs.set k { r with st := .queued }, queue := k :: s.gd.queue } } : State).recordEvent
          { kind := .glareRequeued, entry := k, tag := r.call.tag, line := none }).offerEntry k)
      ∧ (r.expiry ≤ s.now → s.glareReturn i =
        (({ s with gd := { s.gd with recs := s.gd.recs.set k {} } } : State).recordEvent
          { kind := .expired, entry := k, tag := r.call.tag, line := none })))
    ∧ ∀ e : QEvent, s.recordEvent e =
      (if s.nu.queueEvents.length < 8 then
        { s with nu := { s.nu with queueEvents := s.nu.queueEvents ++ [e] } }
      else
        { s with
          nu := { s.nu with queueEvents := s.nu.queueEvents.drop 1 ++ [e] }
          cnt := { s.cnt with eventsLost := satAdd s.cnt.eventsLost 1 } } : State).raisePart .cque)

/-- O30. PENDING_TIMER_EXPIRY, BUDG, and the hand-out of released units: the head's grants, the reclaim (walk at any
departure: log 72) (03 R43, 04 R58, 04 R60, 04 R61, 04 R62, 04 R63, 04 R65). -/
def Obligations.PendingExpiryAndBudg : Prop :=
  (∀ (s : State) (i : LineNo), s.phase = .running →
    (∀ p, (s.bm.plist.find? fun q => q.line == i) = some p →
      exec (.pendingTimerExpiry i) s = .next
        ((({ s with
          now := max s.now p.due
          bm := { s.bm with
            plist := s.bm.plist.filter fun q => q.line != i
            reclaim := s.bm.reclaim.map fun r : Reclaim =>
              if r.madeFor = some i then { r with madeFor := none } else r
            due := true } }).failTo i p.requester).settle))
    ∧ (s.hasPending i = false → exec (.pendingTimerExpiry i) s = .next s.settle))
  ∧ (∀ (s : State) (tag : Nat), s.ready →
    exec (.budg 15 tag) s = .next (s.answered 15 tag (chars 'B' 'U' 'D' 'G') .ok
      (be1 120 ++ be1 (120 - s.held)
        ++ (lineNos.flatMap fun i => be1 (s.holding i) ++ be1 (s.precedence i))
        ++ be1 s.handOutOrder.length
        ++ (s.handOutOrder.flatMap fun p => be1 p.line.val ++ be1 p.requirement ++ be2 (min 2000 (s.now - p.joined)))
        ++ (match s.bm.reclaim with
            | some r => be1 r.victim.val ++ be1 r.clsAt.code ++ be1? (r.madeFor.map (·.val)) ++ be4 (s.now - r.time)
            | none => be1 255 ++ be1 255 ++ be1 255 ++ be4 0))))
  ∧ (∀ (s : State) (n : Nat), s.bm.due = true →
    s.settle = settleN 32 s
    ∧ (∀ p acts, s.pendingHead = some p → p.ask.fit s.free = some acts →
      settleN (n + 1) s = settleN n (((s.dropPending p.line).addActs p.line acts).grantTo p.line p.requester))
    ∧ ((∀ p, s.pendingHead = some p → p.ask.fit s.free = none) →
      settleN (n + 1) s =
        (let u := if s.bm.offer then s.considerReclaim.walkQueue else s.considerReclaim
        { u with bm := { u.bm with due := false, offer := false } })))
  ∧ (∀ s : State,
    (∀ h v c, s.bm.reclaim = none → s.pendingHead = some h → h.ask.fit s.free = none → s.chooseVictim h = some v →
      (s.line v).dp.cur = some c →
      s.considerReclaim =
        (let u := s.stepDown v
        { u with bm := { u.bm with
          reclaim := some { victim := v, clsAt := c, madeFor := some h.line, time := s.now } } }))
    ∧ ((s.bm.reclaim ≠ none ∨ s.pendingHead = none
        ∨ ∃ h, s.pendingHead = some h ∧ (h.ask.fit s.free ≠ none ∨ s.chooseVictim h = none)) → s.considerReclaim = s)
    ∧ (∀ h v, s.chooseVictim h = some v → s.victimFor h v = true
      ∧ ∀ w, s.victimFor h w = true → w ≠ v →
        s.precedence v < s.precedence w ∨ (s.precedence v = s.precedence w
          ∧ (s.holding w < s.holding v ∨ (s.holding w = s.holding v ∧ w < v))))
    ∧ (∀ h, s.chooseVictim h = none → ∀ w, s.victimFor h w = false)
    ∧ (∀ h v, s.victimFor h v = true ↔ s.precedence v < s.precedence h.line
      ∧ ((s.line v).dp.pump = .running ∨ (s.line v).dp.pump = .rateChange ∨ (s.line v).dp.pump = .retraining)
      ∧ ∃ c f, (s.line v).dp.cur = some c ∧ (s.line v).dp.reclaimFloor = some f ∧ f.idx < c.idx)
    ∧ ∀ i r c, s.bm.reclaim = some r → (s.line i).dp.cur = some c →
      s.reclaimCheck i = (if r.victim = i ∧ c.idx < r.clsAt.idx then
        { s with bm := { s.bm with reclaim := none, due := true } } else s))

/-- O31. QUALITY_READING by pump state: training sum, local pick, end of a training, accumulator, runs and tests (choices:
logs 18, 19, 20, 61, 81, 90) (05 R69, 05 R70, 05 R71, 05 R72, 05 R76, 05 R79, 05 R80). -/
def Obligations.QualityReadingDrivesThePump : Prop :=
  ∀ (s : State) (i : LineNo) (q : Int), s.phase = .running →
    let n := (max 0 (min 100 q)).toNat
    let d := (s.line i).dp
    (d.family = some .data → (d.pump = .training ∨ d.pump = .retraining) → d.trainCount < 150 →
      exec (.qualityReading i q) s = .next
        (let u := s.updDp i fun d => { d with trainSum := d.trainSum + n, trainCount := d.trainCount + 1 }
        (if d.trainCount = 149 then u.trainingRead i else u).settle))
    ∧ (d.family = some .fax → (d.pump = .training ∨ d.pump = .retraining) → (s.line i).receiveChecks = true →
      d.trainCount < 150 →
      exec (.qualityReading i q) s = .next
        (let u := s.updDp i fun d => { d with trainSum := d.trainSum + n, trainCount := d.trainCount + 1 }
        (if d.trainCount = 149 then u.faxCheckRead i else u).settle))
    ∧ (d.pump = .running →
      let r := s.updDp i fun d => { d with
        acc := d.acc - d.acc / 8 + n
        stableRun := if d.stableRun + 1 < 1000 then d.stableRun + 1 else 0
        retrainCount := if d.stableRun + 1 < 1000 then d.retrainCount else 0 }
      let sends := ∃ j, (s.line i).runningJob = some j ∧ j.dir = some .send ∧ j.phase = .page ∧ j.partOpen = true
        ∧ (s.line i).fxc.wait = .none
      (d.family ≠ some .data → sends → exec (.qualityReading i q) s = .next
        (s.updDp i fun d => { d with
          stableRun := if d.stableRun + 1 < 1000 then d.stableRun + 1 else 0
          retrainCount := if d.stableRun + 1 < 1000 then d.retrainCount else 0 }).settle)
      ∧ (d.family ≠ some .data → ¬ sends → exec (.qualityReading i q) s = .next r.settle)
      ∧ (d.family = some .data → exec (.qualityReading i q) s = .next
          (let u := r.updDp i fun d => { d with
            lossRun := if n < 8 then d.lossRun + 1 else 0
            belowRun := if d.belowHold then d.belowRun + 1 else 0
            fwdRun := if d.forwardTo.isSome then d.fwdRun + 1 else 0 }
          let e := (u.line i).dp
          (if 50 ≤ e.lossRun then u.enterRetraining i
          else if 20 ≤ e.belowRun then
            (match e.cur with
              | some c => u.enterRateChange i false c.below
              | none => u)
          else if 300 ≤ e.fwdRun then
            (match e.cur, e.forwardTo with
              | some c, some n => (u.askForward i c n).1
              | _, _ => u)
          else u).settle)))
    ∧ ((d.pump = .rateChange ∨ d.pump = .off) → exec (.qualityReading i q) s = .next s.settle)
    ∧ (s.line i).pickLimit
      = ((if d.pump = .training then (s.line i).counted else d.cur).map fun c => c.cap d.owed)
    ∧ (∀ (l p : Cls) (qt : Nat), localPick l qt = some p ↔ p.family = l.family ∧ p.idx ≤ l.idx ∧ p.entry ≤ qt
      ∧ ∀ c : Cls, c.family = l.family → c.idx ≤ l.idx → c.entry ≤ qt → c.idx ≤ p.idx)
    ∧ (∀ l, (s.line i).pickLimit = some l →
      (localPick l (d.trainSum / 150) = none → s.trainingRead i = s.trainingFails i)
      ∧ ∀ p, localPick l (d.trainSum / 150) = some p →
        (∀ o, d.offer = some o → s.trainingRead i =
          (s.updDp i fun d => { d with pick := some p, signal := some (.offer p) }).trainingSucceeds i
            ((Cls.lower p o).cap d.owed))
        ∧ (d.offer = none → s.trainingRead i = s.updDp i fun d => { d with
            pick := some p, signal := some (.offer p), offerDue := some (s.now + 1000) }))
    ∧ s.trainingFails i =
      (if d.pump = .training then
        (let u := s.updDp i fun d => { d with
          trainSum := 0, trainCount := 0, pick := none, offer := none, offerDue := none, attempts := d.attempts + 1 }
        if 3 ≤ d.attempts + 1 then u.raiseCause i .trainFailed else u)
      else s.enterRetraining i)
    ∧ ∀ c : Cls,
      s.trainingSucceeds i c =
        (let u := (s.setClass i c).updDp i fun e => { e with
          pump := .running, acc := 8 * (e.trainSum / 150), lossRun := 0, belowRun := 0, fwdRun := 0, rc := none
          owed := none, trainSum := 0, trainCount := 0, pick := none, offer := none, offerDue := none
          agreedMax := if d.pump = .training then
              (match (s.line i).cc.conn, d.offer with
                | some k, some o => some (Cls.lower k.maxc o)
                | _, _ => d.agreedMax)
            else d.agreedMax }
        (if d.cur = some c then u else u.raise .qual i).linkPumpRuns i)
      ∧ ((s.setClass i c).line i).dp = { d with cur := some c }
      ∧ ((s.setClass i c).line i).counted = (s.line i).counted.map (fun _ => c)
      ∧ ((s.setClass i c).line i).cnt.fallbacks
        = (if ∃ o, d.cur = some o ∧ c.idx < o.idx then satAdd (s.line i).cnt.fallbacks 1 else (s.line i).cnt.fallbacks)

/-- O32. Offers, rate changes and the remote's requests on a data pump (logs 19, 41) (05 R70, 05 R73, 05 R74, 05 R77, 05
R78). -/
def Obligations.PumpExchangesWithTheRemote : Prop :=
  ∀ (s : State) (i : LineNo), s.phase = .running →
    let d := (s.line i).dp
    (∀ c, d.family = some .data → (d.pump = .training ∨ d.pump = .retraining) →
      exec (.remoteOfferReceived i c) s = .next
        (let u := s.updDp i fun d => { d with offer := some (Cls.ofIdx .data c.idx) }
        (match d.pick with
          | some p => u.trainingSucceeds i ((Cls.lower p (Cls.ofIdx .data c.idx)).cap d.owed)
          | none => u).settle))
    ∧ (∀ t, d.offerDue = some t → exec (.offerWaitExpiry i) s = .next ((s.reach t).trainingFails i).settle)
    ∧ (∀ r b, d.rc = some r → r.begun = some b →
      exec (.rateChangeConfirmation i) s = .next
        (let u := s.updDp i fun d => { d with rc := some { r with confirmed := true } }
        (if b + 250 ≤ s.now then u.completeRateChange i else u).settle)
      ∧ exec (.rateChangeResyncEnd i) s = .next
        (if r.confirmed then ((s.reach (b + 250)).completeRateChange i).settle else (s.reach (b + 250)).settle)
      ∧ (r.confirmed = false →
        exec (.rateChangeConfirmationTimeout i) s = .next ((s.reach (b + 1000)).enterRetraining i).settle))
    ∧ (∀ c cur, d.family = some .data → d.pump = .running → d.cur = some cur →
      exec (.remoteRateRequest i c) s = .next
        (let k := Cls.ofIdx .data c.idx
        (if k.idx < cur.idx then s.enterRateChange i false k
        else if d.mayRise k then
          (if (s.askForward i cur k).2 then (s.askForward i cur k).1
          else (s.askForward i cur k).1.updDp i fun d => { d with signal := some .declined })
        else s.updDp i fun d => { d with signal := some .declined }).settle))
    ∧ (∀ c, d.family = some .data → d.pump ≠ .running →
      exec (.remoteRateRequest i c) s = .next (s.updDp i fun d => { d with signal := some .declined }).settle)
    ∧ (d.family = some .data → (d.pump = .running ∨ d.pump = .rateChange) →
      exec (.remoteRetrainRequest i) s = .next (s.enterRetraining i).settle)
    ∧ (∀ r, d.rc = some r → s.completeRateChange i =
      (let c := r.target.cap d.owed
      let u := (s.setClass i c).updDp i fun d => { d with
        pump := .running, lossRun := 0, belowRun := 0, fwdRun := 0, rc := none, owed := none }
      ((u.updCnt i fun k => { k with
        forwards := if r.up = true ∧ ∃ o, d.cur = some o ∧ o.idx < c.idx then satAdd k.forwards 1 else k.forwards }).raise
          .qual i).linkPumpRuns i))

/-- O33. Link setup, the transmitter with its choice and its blocks, adaptation, bad messages and the retry timer
(choices: logs 76, 93, 96) (06 R83, 06 R84, 06 R86, 06 R87, 06 R88, 06 R90, 06 R93, 06 R95, 05 R74). -/
def Obligations.LinkSetupAndTransmitter : Prop :=
  ∀ (s : State) (i : LineNo), s.phase = .running →
    let b := (s.line i).blc
    (∀ w n, b.link = .setup →
      exec (.setupMessageReceived i w n) s = .next
        (((s.updBlc i fun b => { b.resetAdaptation with
          link := if (s.line i).dp.pump = .running then .up else .suspended
          mode := some .ec, tryDue := none, setupOwed := true
          window := min (clamp 1 15 (s.sl.live.lines.get i).linkWindow) (clamp 1 15 w)
          maxBlock := blockStep n, block := startBlock (s.line i).dp.cur (blockStep n)
          vs := 0, vr := 0 }).raise .link i).startTx i).settle)
    ∧ (∀ w n, b.mode = some .ec → (b.link = .up ∨ b.link = .suspended) →
      exec (.setupMessageReceived i w n) s = .next
        (let u := s.updBlc i fun b => { b with setupOwed := true }
        (if b.link = .up then u.startTx i else u).settle))
    ∧ (∀ d, b.tryDue = some d →
      exec (.setupTryExpiry i) s = .next
        (if b.tryNo < 3 then ((s.reach d).startTry i (b.tryNo + 1)).settle
        else (((((s.reach d).updBlc i fun b => { b with
          link := .up, mode := some .plain, tryDue := none, setupOwed := false }).raise .link i).startTx i).settle)))
    ∧ (b.transmitting.isSome = true →
      exec (.messageTransmitted i) s = .next
        (let u := s.updBlc i fun b => { b with transmitting := none }
        (match (s.line i).dp.rc with
          | some r => if r.begun = none then u.beginExchange i else u
          | none => u.startTx i).settle))
    ∧ exec (.badMessageReceived i) s = .next
        (if b.link = .setup ∨ (b.mode = some .ec ∧ (b.link = .up ∨ b.link = .suspended)) then
          s.updCnt i fun k => { k with badChecks := satAdd k.badChecks 1 }
        else s).settle
    ∧ (∀ d k r, b.retryDue = some d → b.unacked = k :: r →
      exec (.retryTimerExpiry i) s = .next
        (let u := (s.reach d).updBlc i fun b => { b with
          unacked := { k with retries := k.retries + 1 } :: r, resend := some k.seq
          retryDue := some (max s.now d + 1500) }
        (if 11 ≤ k.retries + 1 then u.raiseCause i .linkFailed else u.startTx i).settle))
    ∧ (((s.line i).dp.pump ≠ .running ∨ b.transmitting.isSome = true) → s.startTx i = s)
    ∧ ((s.line i).dp.pump = .running → b.transmitting = none →
      let setup := s.updBlc i fun b => { b with
        transmitting := some (.setup (clamp 1 15 (s.sl.live.lines.get i).linkWindow) 256), setupOwed := false }
      (b.link = .setup → s.startTx i = if b.setupOwed then setup else s)
      ∧ (b.link = .up → b.mode = some .plain →
        (∀ x r, b.tx = x :: r →
          s.startTx i = (s.updBlc i fun b => { b with tx := r, transmitting := some (.plain x) }).txFell i)
        ∧ (b.tx = [] → s.startTx i = s))
      ∧ (b.link = .up → b.mode = some .ec →
        (∀ m, b.slot = some m →
          s.startTx i = s.updBlc i fun b => { b with transmitting := some (.sup m), slot := none })
        ∧ (b.slot = none → b.setupOwed = true → s.startTx i = setup)
        ∧ (b.slot = none → b.setupOwed = false → b.peerNotReady = true → s.startTx i = s)
        ∧ (b.slot = none → b.setupOwed = false → b.peerNotReady = false →
          (∀ pre k r, b.unacked = pre ++ k :: r → (∀ x ∈ pre, x.seq ≠ k.seq) → b.resend = some k.seq →
            s.startTx i = (((s.updBlc i fun b => { b with
              transmitting := some (.data k.seq k.payload)
              unacked := b.unacked.map fun x => if x.seq = k.seq then { x with sends := x.sends + 1 } else x
              resend := r.head?.map fun x => x.seq }).updCnt i fun c => { c with
                resends := satAdd c.resends 1 }).sendEvent i true))
          ∧ ((∀ x ∈ b.unacked, b.resend ≠ some x.seq) →
            ((b.tx = [] ∨ b.window ≤ b.unacked.length) → s.startTx i = s)
            ∧ (b.tx ≠ [] → b.unacked.length < b.window →
              s.startTx i = ((((s.updBlc i fun b => { b with
                tx := b.tx.drop b.block
                unacked := b.unacked ++ [{ seq := b.vs, payload := b.tx.take b.block, sends := 1, retries := 0 }]
                vs := (b.vs + 1) % 128
                retryDue := if b.unacked = [] then some (s.now + 1500) else b.retryDue
                transmitting := some (.data b.vs (b.tx.take b.block)) }).updCnt i fun c => { c with
                  blocksSent := satAdd c.blocksSent 1 }).txFell i).sendEvent i false))))))
    ∧ s.txFell i = (if b.tx.length ≤ 512 ∧ b.txHigh = true then
        (s.updBlc i fun b => { b with txHigh := false }).raise .txlv i else s)
    ∧ (∀ again : Bool,
      let n := b.spanResends + (if again then 1 else 0)
      s.sendEvent i again =
        (if b.spanCount + 1 < 64 then s.updBlc i fun b => { b with
          spanCount := b.spanCount + 1, spanResends := n, cleanRun := if again then 0 else b.cleanRun }
        else
          let u := s.updBlc i fun b => { b with
            spanCount := 0, spanResends := 0
            cleanRun := if again = true ∨ (8 ≤ n ∧ 32 < b.block) then 0 else b.cleanRun
            block := if 8 ≤ n ∧ 32 < b.block then b.block / 2 else b.block }
          if 16 ≤ n then u.stepDown i else u))
    ∧ b.cleanBlock =
      (if b.cleanRun + 1 < 256 then { b with cleanRun := b.cleanRun + 1 }
      else if b.block * 2 ≤ b.maxBlock then { b with block := b.block * 2, spanCount := 0, spanResends := 0, cleanRun := 0 }
      else { b with cleanRun := 0 })

/-- O34. Messages with their cyclic check, supervisory messages, data blocks and PLAIN bytes at the receiver (choices:
logs 21, 45, 60, 82, 95) (06 R86, 06 R89, 06 R90, 06 R91, 06 R93, 06 R95). -/
def Obligations.LinkReceivesMessages : Prop :=
  ∀ (s : State) (i : LineNo), s.phase = .running →
    let b := (s.line i).blc
    (∀ kind n, b.mode = some .ec → (b.link = .up ∨ b.link = .suspended) →
      exec (.supervisoryMessageReceived i kind n) s = .next
        (let m := n % 128
        let oldest := match b.unacked with
          | x :: _ => x.seq
          | [] => b.vs
        let k := (m + 128 - oldest) % 128
        let left := b.unacked.drop k
        let seqs := left.map fun x : Block => x.seq
        let c := ((b.unacked.take k).filter fun x => x.sends = 1).foldl (fun b _ => b.cleanBlock) b
        let ptr := match b.resend with
          | some p => if p ∈ seqs then some p else seqs.head?
          | none => none
        let back := if m ∈ seqs then some m else ptr
        (if b.unacked.length < k then s
        else (s.updBlc i fun _ => { c with
          unacked := left
          peerNotReady := decide (kind = .rnr)
          resend := match kind with
            | .ack => if b.peerNotReady then back else ptr
            | .rej => back
            | .rnr => ptr
          retryDue := if left = [] ∨ kind = .rnr ∨ (s.line i).dp.pump ≠ .running then none
            else if 0 < k ∨ b.peerNotReady = true then some (s.now + 1500) else b.retryDue }).startTx i).settle))
    ∧ (∀ seq p, b.mode = some .ec → b.link = .up →
      exec (.dataBlockReceived i seq p) s = .next
        (if p.length = 0 ∨ b.maxBlock < p.length then s.updCnt i fun k => { k with badChecks := satAdd k.badChecks 1 }
        else if b.notReady then (s.updBlc i fun b => b.place { kind := .rnr, n := b.vr }).startTx i
        else if (seq % 128 + 128 - b.vr) % 128 = 0 then
          (if b.rx.length + p.length ≤ 2048 then
            ((((s.updBlc i fun b => { b with rx := b.rx ++ p, vr := (b.vr + 1) % 128, rejOut := false }).updCnt i fun k =>
              { k with blocksGood := satAdd k.blocksGood 1 }).updBlc i fun b => b.place { kind := .ack, n := b.vr }).startTx i)
          else ((s.updBlc i fun b => { b with notReady := true }).updBlc i fun b =>
            b.place { kind := .rnr, n := b.vr }).startTx i)
        else if (seq % 128 + 128 - b.vr) % 128 ≤ 15 then
          (if b.rejOut then s
          else ((s.updBlc i fun b => { b with rejOut := true }).updBlc i fun b =>
            b.place { kind := .rej, n := b.vr }).startTx i)
        else (s.updBlc i fun b => b.place { kind := .ack, n := b.vr }).startTx i).settle)
    ∧ (∀ seq p, b.mode = some .ec → b.link = .suspended →
      exec (.dataBlockReceived i seq p) s = .next
        (if p.length = 0 ∨ b.maxBlock < p.length then s.updCnt i fun k => { k with badChecks := satAdd k.badChecks 1 }
        else s).settle)
    ∧ (∀ seq p, b.link = .setup → exec (.dataBlockReceived i seq p) s = .next s.settle)
    ∧ (∀ x, b.mode = some .plain → (b.link = .up ∨ b.link = .suspended) →
      exec (.plainByteReceived i x) s = .next
        (if b.rx.length < 2048 then s.updBlc i fun b => { b with rx := b.rx ++ [x] }
        else s.updCnt i fun k => { k with rxOverrun := satAdd k.rxOverrun 1 }).settle)
    ∧ (∀ seq p, seq < 256 → p.length < 65536 →
      linkCommand i (LinkMsg.data seq p).wire = .dataBlockReceived i seq p)
    ∧ (∀ m : Sup, m.n < 256 → linkCommand i (LinkMsg.sup m).wire = .supervisoryMessageReceived i m.kind m.n)
    ∧ (∀ w n, w < 256 → n < 65536 → linkCommand i (LinkMsg.setup w n).wire = .setupMessageReceived i w n)
    ∧ ∀ (l check : List Byte) (m : LinkMsg), check.length = 2 → linkFields l = some m → check ≠ checkBytes m.covered →
      linkCommand i (l ++ check) = .badMessageReceived i

/-- O35. DATA_IN fills TX or is counted stray; FLOW sets the hold flag (06 R84, 06 R85, 11 R165, 11 R171). -/
def Obligations.DataInAndFlowAreTaken : Prop :=
  ∀ (s : State) (i : LineNo) (tag : Nat), s.ready →
    (∀ bytes, (s.line i).cc.state = .connected → (s.line i).cc.kind = some .data →
      exec (.dataIn i.val tag bytes) s = .next
        (((((s.updBlc i fun b => { b with
            tx := b.tx ++ bytes.take (2048 - (s.line i).blc.tx.length) }).updCnt i fun k => { k with
          txOverrun := satAdd k.txOverrun (bytes.length - (2048 - (s.line i).blc.tx.length)) }).txRose i).startTx i).settle))
    ∧ (∀ line bytes, (4 ≤ line ∨ ∃ j : LineNo, line = j.val ∧ (s.line j).cc.connectedData = false) →
      s.cnt.stray < 4294967295 →
      exec (.dataIn line tag bytes) s = .next
        ((({ s with cnt := { s.cnt with stray := s.cnt.stray + 1 } }).raisePart .lerr).settle))
    ∧ (exec (.flow i.val tag 0) s = .next
        ((s.updBlc i fun b => { b with hold := true }).answered i.val tag (chars 'F' 'L' 'O' 'W') .ok []))
    ∧ (exec (.flow i.val tag 1) s = .next
        ((s.updBlc i fun b => { b with hold := false }).answered i.val tag (chars 'F' 'L' 'O' 'W') .ok []))
    ∧ (∀ v, 2 ≤ v → exec (.flow i.val tag v) s = .next
        (s.answered i.val tag (chars 'F' 'L' 'O' 'W') .badArgument []))

/-- O36. FAXS and FAXR prepare or start a job or are refused, FXST reports it, FXAB ends it (BUSY first: log 80) (07 R99,
07 R100, 07 R101, 10 R153). -/
def Obligations.FaxRequestsAreTaken : Prop :=
  ∀ (s : State) (i : LineNo) (tag : Nat), s.ready →
    (∀ pages resolution width policy r p, Resolution.of resolution = some r → Policy.of policy = some p → width ≤ 2 →
      1 ≤ pages.length → pages.length ≤ 16 → (∀ x ∈ pages, x < 96) → s.jobRefusal i = none →
      s.pagesRefusal pages = none →
      let j : FaxJob := { dir := some .send, pages := pages, policy := p, wanted := ⟨r, width⟩ }
      let u := s.updFxc i fun x => { x with job := some j }
      exec (.faxs i.val tag pages resolution width policy) s = .next
        ((if (s.line i).cc.state = .connected then u.startJob i else u).answered i.val tag
          (chars 'F' 'A' 'X' 'S') .accepted []))
    ∧ (∀ policy p, Policy.of policy = some p → s.jobRefusal i = none →
      let j : FaxJob := { dir := some .receive, policy := p }
      let u := s.updFxc i fun x => { x with job := some j }
      exec (.faxr i.val tag policy) s = .next
        ((if (s.line i).cc.state = .connected then u.startJob i else u).answered i.val tag
          (chars 'F' 'A' 'X' 'R') .accepted []))
    ∧ (∀ j, (s.line i).fxc.job = some j →
      exec (.fxst i.val tag) s = .next (s.answered i.val tag (chars 'F' 'X' 'S' 'T') .ok j.fields))
    ∧ ((s.line i).jobLive = true →
      exec (.fxab i.val tag) s = .next
        ((((if (s.line i).jobRunning then s.updFxc i fun x => { x with sent := some .release } else s).endJob i
          .aborted).raiseCause i .hostRelease).answered i.val tag (chars 'F' 'X' 'A' 'B') .ok []))
    ∧ (∀ pages resolution width policy,
      ((Resolution.of resolution = none ∨ Policy.of policy = none ∨ 2 < width ∨ pages = [] ∨ 16 < pages.length
          ∨ ∃ x ∈ pages, 96 ≤ x) →
        exec (.faxs i.val tag pages resolution width policy) s = .next
          (s.answered i.val tag (chars 'F' 'A' 'X' 'S') .badArgument []))
      ∧ (Resolution.of resolution ≠ none → Policy.of policy ≠ none → width ≤ 2 → 1 ≤ pages.length →
        pages.length ≤ 16 → (∀ x ∈ pages, x < 96) →
        (∀ st, s.jobRefusal i = some st → exec (.faxs i.val tag pages resolution width policy) s = .next
          (s.answered i.val tag (chars 'F' 'A' 'X' 'S') st []))
        ∧ ∀ st, s.jobRefusal i = none → s.pagesRefusal pages = some st →
          exec (.faxs i.val tag pages resolution width policy) s = .next
            (s.answered i.val tag (chars 'F' 'A' 'X' 'S') st [])))
    ∧ (∀ policy,
      (Policy.of policy = none →
        exec (.faxr i.val tag policy) s = .next (s.answered i.val tag (chars 'F' 'A' 'X' 'R') .badArgument []))
      ∧ ∀ st, Policy.of policy ≠ none → s.jobRefusal i = some st →
        exec (.faxr i.val tag policy) s = .next (s.answered i.val tag (chars 'F' 'A' 'X' 'R') st []))
    ∧ ((s.line i).fxc.job = none →
      exec (.fxst i.val tag) s = .next (s.answered i.val tag (chars 'F' 'X' 'S' 'T') .notFound []))
    ∧ ((s.line i).jobLive = false →
      exec (.fxab i.val tag) s = .next (s.answered i.val tag (chars 'F' 'X' 'A' 'B') .wrongState []))
    ∧ s.jobRefusal i =
      (if (s.line i).apc.plan = .faxHandoff ∧ (s.line i).cc.state = .connected ∧ (s.line i).cc.kind = some .voice then
        some .busy
      else if (s.line i).cc.kind ≠ some .fax ∨ (s.line i).cc.state = .idle ∨ (s.line i).cc.state = .ringing
          ∨ (s.line i).cc.state = .clearing then some .wrongState
      else if (s.line i).jobLive = true ∨ (s.line i).planActive = true then some .busy
      else none)
    ∧ ∀ pages : List Nat,
      ((∃ x ∈ pages, s.stc.entry x = none) → s.pagesRefusal pages = some .notFound)
      ∧ ((∀ x ∈ pages, ∃ e, s.stc.entry x = some e) →
        ((∃ x ∈ pages, ∃ e, s.stc.entry x = some e ∧ (e.kind ≠ .faxTxPage ∨ e.used = 0 ∨ 262144 < e.used)) →
          s.pagesRefusal pages = some .badArgument)
        ∧ ((∀ x ∈ pages, ∀ e, s.stc.entry x = some e → e.kind = .faxTxPage ∧ 1 ≤ e.used ∧ e.used ≤ 262144) →
          ((∃ x ∈ pages, ∃ e, s.stc.entry x = some e ∧ e.open_ = true) → s.pagesRefusal pages = some .wrongState)
          ∧ ((∀ x ∈ pages, ∀ e, s.stc.entry x = some e → e.open_ = false) → s.pagesRefusal pages = none)))

/-- O37. The fax waits end, and a stray message is answered again or ignored (the model's choices, logs 22, 63, 77) (07
R100, 07 R102, 07 R113). -/
def Obligations.FaxWaitsEnd : Prop :=
  ∀ (s : State) (i : LineNo), s.phase = .running →
    (∀ d, (s.line i).fxc.jobWaitDue = some d →
      exec (.faxJobWaitExpiry i) s = .next
        (((s.reach d).updFxc i fun x => { x with job := some {} }).failJob i .noJob).settle)
    ∧ (∀ m tries d, (s.line i).fxc.wait = .answer m tries d →
      exec (.faxAnswerWaitExpiry i) s = .next
        (if 3 ≤ tries then (s.reach d).failJob i .noResponse
        else match m with
          | .burst _ => ((s.reach d).updJob i fun j => { j with bursts := tries + 1 }).updFxc i fun x => { x with
              wait := .none, sent := some m }
          | _ => (s.reach d).updFxc i fun x => { x with
              wait := .answer m (tries + 1) (max s.now d + 3000), sent := some m }).settle)
    ∧ (∀ d, (s.line i).fxc.wait = .capability d →
      exec (.faxSenderWaitExpiry i) s = .next ((s.reach d).failJob i .noResponse).settle)
    ∧ (∀ d j, (s.line i).fxc.wait = .sender d → (s.line i).runningJob = some j →
      exec (.faxSenderWaitExpiry i) s = .next
        (if j.phase = .release then (s.reach d).doneJob i else (s.reach d).failJob i .noResponse).settle)
    ∧ (∀ d, (s.line i).fxc.wait = .release d →
      exec (.releaseWaitExpiry i) s = .next ((s.reach d).doneJob i).settle)
    ∧ (∀ j, (s.line i).runningJob = some j →
      exec (.badFaxMessageReceived i .unreadable) s = .next
        (if j.phase = .page then s.updJob i FaxJob.goesOn else s).settle
      ∧ ∀ k, exec (.badFaxMessageReceived i (.outOfPhase k)) s = .next (s.answerAgain i j k).settle)

/-- O38. CAPABILITY_RECEIVED, CHOICE_RECEIVED and CONFIRMATION_RECEIVED, and the check that follows (cut to the counted
class: log 74) (07 R102, 07 R103, 07 R104, 05 R79). -/
def Obligations.FaxSetUpIsNegotiated : Prop :=
  ∀ (s : State) (i : LineNo) (j : FaxJob), s.phase = .running → (s.line i).runningJob = some j →
    (∀ highest fine widest reserve, j.dir = some .send →
      exec (.capabilityReceived i highest fine widest reserve) s = .next
        (if j.phase = .setup then
          (let u := (s.updJob i fun j => { j with remoteReserve := some reserve }).updFxc i fun x => { x with
            wait := .none }
          if (j.wanted.resolution = .fine ∧ fine = false) ∨ widest < j.wanted.width then u.failJob i .incompatible
          else
            let c := (((s.line i).counted.getD .f1).cap (some (Cls.ofIdx .fax highest.idx))).cap (s.line i).dp.owed
            (u.updJob i fun j => { j with
              phase := .negotiate, fk := some c, choiceSent := some (.choice c j.wanted) }).updFxc i fun x => { x with
              sent := some (.choice c j.wanted), wait := .answer (.choice c j.wanted) 1 (s.now + 3000) })
        else s.answerAgain i j .capability).settle)
    ∧ (∀ c resolution width, j.dir = some .receive →
      exec (.choiceReceived i c resolution width) s = .next
        (if j.phase = .setup then
          (match Resolution.of resolution with
            | some r =>
              if 2 < width then
                (((s.updJob i fun k => { k with phase := .negotiate }).updFxc i fun x => { x with
                  sent := some (.confirmation false) }).failJob i .incompatible)
              else
                (((s.updJob i fun k => { k with
                  phase := .negotiate, agreed := some ⟨r, width⟩, choiceAnswer := some true }).startCheck i
                    (((Cls.ofIdx .fax c.idx).cap (j.offered.map fun o => Cls.ofIdx .fax o.idx)).cap (s.line i).counted)
                    .firstPage).updFxc i fun x => { x with
                      sent := some (.confirmation true), wait := .sender (s.now + 10000) })
            | none =>
              (((s.updJob i fun k => { k with phase := .negotiate }).updFxc i fun x => { x with
                sent := some (.confirmation false) }).failJob i .incompatible))
        else s.answerAgain i j .choice).settle)
    ∧ (∀ c after, s.startCheck i c after =
      (let u := s.updJob i fun k => { k with phase := .train, fk := some c, after := after, bursts := 1 }
      if j.checked then
        ((u.updDp i fun d => { d with
          pump := .retraining, trainSum := 0, trainCount := 0, pick := none, offer := none, offerDue := none
          lossRun := 0, belowRun := 0, fwdRun := 0, stableRun := 0 }).updCnt i fun k => { k with
            retrains := satAdd k.retrains 1 })
      else u.updDp i fun d => { d with
        trainSum := 0, trainCount := 0, pick := none, offer := none, offerDue := none }))
    ∧ (∀ accepted, j.dir = some .send → j.phase = .negotiate →
      exec (.confirmationReceived i accepted) s = .next
        (let u := s.updFxc i fun x => { x with wait := .none }
        (if accepted then
          (((u.updJob i fun k => { k with agreed := some j.wanted }).startCheck i (j.fk.getD .f1) .firstPage).faxSend i
            (.burst (j.fk.getD .f1)))
        else u.failJob i .incompatible).settle))
    ∧ (∀ accepted, j.dir = some .send → j.phase ≠ .negotiate →
      exec (.confirmationReceived i accepted) s = .next s.settle)

/-- O39. RETRAIN_ANNOUNCEMENT_RECEIVED, TRAINING_BURST_SENT and VERDICT_RECEIVED (cap of an order in a check: log 74) (07
R104, 05 R79, 07 R102, 04 R64). -/
def Obligations.FaxChecksRun : Prop :=
  ∀ (s : State) (i : LineNo) (j : FaxJob), s.phase = .running → (s.line i).runningJob = some j →
    (∀ c, j.dir = some .receive → j.phase = .train →
      exec (.retrainAnnouncementReceived i c) s = .next
        ((((s.updJob i fun k => { k with
          fk := some (((Cls.ofIdx .fax c.idx).cap j.fk).cap (s.line i).counted) }).updDp i Dp.freshTraining).updFxc i
            fun x => { x with wait := .sender (s.now + 10000) }).settle))
    ∧ (∀ c, j.dir = some .receive → (j.phase = .page ∨ j.phase = .postpage) →
      exec (.retrainAnnouncementReceived i c) s = .next
        (((s.startCheck i ((((Cls.ofIdx .fax c.idx).cap (s.line i).dp.cur).cap (s.line i).dp.owed).cap
            (s.line i).counted)
          (if j.partOpen ∧ j.partEnded = false then .samePart else .boundary)).updFxc i fun x => { x with
            wait := .sender (s.now + 10000) }).settle))
    ∧ (∀ c, j.dir = some .send → j.phase = .train → (s.line i).fxc.wait = .none → j.fk = some c →
      exec (.trainingBurstSent i) s = .next
        (s.updFxc i fun x => { x with
          sent := some (.burst c), wait := .answer (.burst c) j.bursts (s.now + 3000) }).settle)
    ∧ (∀ c tries d rejected, j.dir = some .send → (s.line i).fxc.wait = .answer (.burst c) tries d →
      exec (.verdictReceived i rejected) s = .next
        (let u := s.updFxc i fun x => { x with wait := .none }
        let k := ((j.fk.map fun c => c.cap (s.line i).dp.owed).getD .f1)
        (match rejected with
          | none => u.checkAccepted i k (8 * k.entry)
          | some n => u.checkRejected i k (some n)).settle))

/-- O40. PARTIAL_PAGE_HEADER_RECEIVED, FRAME_RECEIVED, ROUND_END_RECEIVED, PAGE_CLOSE_RECEIVED at a receive job (choices:
logs 22, 83, 84, 88, 94) (07 R102, 07 R106, 07 R107, 07 R109, 07 R110, 07 R111). -/
def Obligations.FaxReceiveJobTakesPages : Prop :=
  ∀ (s : State) (i : LineNo) (j : FaxJob), s.phase = .running → (s.line i).runningJob = some j →
    j.dir = some .receive →
    (∀ page part count last, j.phase = .page →
      exec (.partialPageHeaderReceived i page part count last) s = .next
        (if 15 < part then (s.failJob i .remoteError).settle
        else if count = 0 ∨ 128 < count then s.settle
        else
          let begins (u : State) (id : Nat) : State :=
            match u.stc.cover id part with
            | none => u.failJob i .storeFull
            | some t => (({ u with stc := t.zeroPart id part count }).updJob i fun k => { k with
                part := part, round := 1, missing := List.range count, frameCount := count, lastPart := last
                partOpen := true, partEnded := false, mapAnswer := none }).updFxc i fun x => { x with
                  wait := .sender (s.now + 10000) }
          (match j.page with
            | some id =>
              if part = j.part then
                (s.updJob i FaxJob.goesOn).updFxc i fun x => { x with wait := .sender (s.now + 10000) }
              else if part = j.part + 1 then
                begins (if j.partEnded then s else s.updJob i fun k => { k with
                  partEnded := true, givenUp := k.givenUp + k.missing.length }) id
              else s
            | none =>
              if part ≠ 0 then s
              else
                match s.stc.alloc .faxRxPage j.reserve fun e => { e with
                    originLine := some i, ordinal := s.callOrdinal i, number := s.callerNumber i
                    fax := some { form := j.agreed.getD ⟨.normal, 0⟩, missing := 0 } } with
                | .error .storeFull => s.failJob i .storeFull
                | .error _ => s.failJob i .directoryFull
                | .ok (t, id) =>
                  begins ((({ s with stc := t }).setSlot i 2 (some { id := id, right := .record })).updJob i
                    fun k => { k with
                      page := some id, givenUp := 0, closeAnswered := false, anyPage := true
                      pageIdx := if k.anyPage then min 255 (k.pageIdx + 1) else k.pageIdx }) id).settle))
    ∧ (∀ (t : Stc) (id p c : Nat) (e : Entry), t.entry id = some e → e.kind.voice = false →
      t.cover id p =
        (if 16 * p + 16 ≤ e.extent then some t
        else if e.base + 1 - e.extent = t.ff ∧ 16 ≤ t.ff - t.fv then
          some { t with dir := t.dir.set id (some { e with extent := e.extent + 16 }) }
        else none)
      ∧ (t.zeroPart id p c).entry id = some { e with used := max e.used (min (e.extent * 1024) (p * 16384 + c * 128)) }
      ∧ (∀ k < c * 128, memRead (t.zeroPart id p c).mem (t.addr id e (p * 16384 + k)) = 0)
      ∧ ∀ a, (∀ k < c * 128, a ≠ t.addr id e (p * 16384 + k)) →
        memRead (t.zeroPart id p c).mem a = memRead t.mem a)
    ∧ (∀ n bytes, j.phase = .page →
      exec (.frameReceived i n bytes) s = .next
        (let u : State :=
          if j.partOpen = true ∧ j.partEnded = false ∧ n ∈ j.missing then
            (match j.page with
              | some id =>
                (match s.stc.entry id with
                  | some e =>
                    let a := s.stc.addr id e (j.part * 16384 + n * 128)
                    ({ s with stc := s.stc.writeBytes a (bytes.take 128) }).updJob i fun k => { k with
                      missing := k.missing.filter fun x => x != n }
                  | none => s)
              | none => s)
          else s
        ((u.updJob i FaxJob.goesOn).updFxc i fun x => { x with
          wait := .sender (s.now + 10000) }).settle))
    ∧ (∀ m, j.mapAnswer = some m →
      exec (.roundEndReceived i) s = .next
        (s.updFxc i fun x => { x with sent := some m, wait := .sender (s.now + 10000) }).settle)
    ∧ (j.mapAnswer = none → j.phase = .page → j.partOpen = true → j.partEnded = false →
      exec (.roundEndReceived i) s = .next
        (if j.missing = [] then s.receiveBoundary i []
        else if j.round < 4 then s.receiveResend i j.missing
        else (match (s.line i).policyStep j with
          | some c => s.receiveRetrain i j.missing c
          | none => s.receiveBoundary i j.missing)).settle)
    ∧ (∀ id more, j.page = some id → (j.phase = .page ∨ j.phase = .postpage) →
      exec (.pageCloseReceived i more) s = .next (s.completePage i j id more).settle)
    ∧ (∀ more, j.page = none → j.closeAnswered = true →
      exec (.pageCloseReceived i more) s = .next (s.faxTell i .pageConfirmation).settle)

/-- O41. ROUND_SENT, FRAME_MAP_RECEIVED, PAGE_CONFIRMATION_RECEIVED and RELEASE_RECEIVED (choices: logs 23, 43, 46, 78,
83) (07 R105, 07 R107, 07 R112, 07 R113). -/
def Obligations.FaxSendJobSendsPages : Prop :=
  ∀ (s : State) (i : LineNo) (j : FaxJob), s.phase = .running → (s.line i).runningJob = some j →
    (j.dir = some .send → j.phase = .page → j.partOpen = true → (s.line i).fxc.wait = .none →
      exec (.roundSent i) s = .next
        (((s.readRound i j j.missing).1.updFxc i fun x => { x with
          roundOut := (s.readRound i j j.missing).2, sent := some .roundEnd
          wait := .answer .roundEnd 1 (s.now + 3000) }).settle))
    ∧ (∀ tries d missing action, j.dir = some .send → (s.line i).fxc.wait = .answer .roundEnd tries d →
      let l := (List.range j.frameCount).filter fun n => missing.contains n
      exec (.frameMapReceived i missing action) s = .next
        (match action with
          | .continue => s.sendBoundary i l
          | .retrain c => s.sendRetrain i l ((s.line i).dp.cur.getD .f1) (some c)
          | .resend =>
            if j.round < 4 then
              ((s.countResent i l.length).updJob i fun j => { j with round := j.round + 1, missing := l }).updFxc i
                fun x => { x with wait := .none }
            else (match (s.line i).policyStep j with
              | some c => s.sendRetrain i l c none
              | none => s.sendBoundary i l)).settle)
    ∧ (∀ more tries d, j.dir = some .send → (s.line i).fxc.wait = .answer (.pageClose more) tries d →
      exec (.pageConfirmationReceived i) s = .next
        (let u := ((((s.updFxc i fun x => { x with
            wait := .none, faxp := j.page.map fun id => { id := id, missing := j.givenUp }
            job := x.job.map fun j => { j with
              pagesDone := min 255 (j.pagesDone + 1), pageIdx := min 15 (j.pageIdx + 1), page := none
              missing := [], partOpen := false, givenUp := 0 } }).setSlot i 2 none).updCnt i fun k => { k with
              faxSent := satAdd k.faxSent 1 }).raise .faxp i)
        (if j.pageIdx + 1 < j.pages.length then (u.updJob i fun j => { j with phase := .page }).beginSendPage i
        else (u.updJob i fun j => { j with phase := .release }).updFxc i fun x => { x with
          sent := some .release, wait := .release (s.now + 3000) }).settle))
    ∧ exec (.releaseReceived i) s = .next
        (if j.phase = .release then
          ((if j.dir = some .receive then s.updFxc i fun x => { x with sent := some .release } else s).doneJob i)
        else s.failJob i .remoteEnded).settle

/-- O42. SCRT, SCLS, ATCH and DTCH, carried out or refused (08 R117, 08 R119, 08 R120, 08 R122, 08 R123). -/
def Obligations.StoreEntriesAndSlotsAreManaged : Prop :=
  ∀ (s : State) (tag : Nat), s.ready →
    (∀ kind extent mailbox k id, EntryKind.of kind = some k → max 1 extent ≤ s.stc.ff - s.stc.fv →
      s.stc.dir[id]? = some none → (∀ j, j < id → s.stc.dir[j]? ≠ some none) →
      let base := if k.voice then s.stc.fv else s.stc.ff - 1
      exec (.scrt 15 tag kind extent mailbox) s = .next
        (({ s with stc := { s.stc with dir := s.stc.dir.set id (some {
            kind := k, open_ := true, moving := false, damaged := false, base := base, extent := max 1 extent, used := 0
            mailbox := if mailbox = 255 then none else some (min 9 mailbox)
            originLine := none, ordinal := none, number := none, fax := none }) } }).answered 15 tag
          (chars 'S' 'C' 'R' 'T') .ok (be1 id ++ be2 base ++ be2 (max 1 extent))))
    ∧ (s.stc.fv = (s.stc.dir.filterMap fun x => x.bind fun e =>
          if e.kind.voice then some (e.base + e.extent) else none).foldl max 0
      ∧ s.stc.ff = (s.stc.dir.filterMap fun x => x.bind fun e =>
          if e.kind.voice then none else some (e.base + 1 - e.extent)).foldl min s.stc.size)
    ∧ (∀ id e, id < 96 → s.stc.entry id = some e → e.open_ = true → s.recordInUse id = false →
      exec (.scls 15 tag id) s = .next
        ((s.closeEntry id).answered 15 tag (chars 'S' 'C' 'L' 'S') .ok (be2 e.closedExtent ++ be4 e.used)))
    ∧ (∀ (i k : LineNo) id right r e, Right.of right = some r → id < 96 → (s.line i).slotInUse k = false →
      s.stc.entry id = some e → (r = .play ∨ (e.open_ = true ∧ s.recordElsewhere i k id = false)) →
      exec (.atch i.val tag k.val id right) s = .next
        ((s.upd i fun l => { l with window := l.window.set k (some { id := id, right := r }) }).answered i.val tag
          (chars 'A' 'T' 'C' 'H') .ok []))
    ∧ (∀ (i k : LineNo) a, (s.line i).slotInUse k = false → (s.line i).window.get k = some a →
      exec (.dtch i.val tag k.val) s = .next
        ((s.upd i fun l => { l with window := l.window.set k none }).answered i.val tag (chars 'D' 'T' 'C' 'H') .ok []))
    ∧ (∀ kind extent mailbox,
      (EntryKind.of kind = none → exec (.scrt 15 tag kind extent mailbox) s = .next
        (s.answered 15 tag (chars 'S' 'C' 'R' 'T') .badArgument []))
      ∧ (EntryKind.of kind ≠ none →
        (s.stc.freeSpan < max 1 extent → exec (.scrt 15 tag kind extent mailbox) s = .next
          (s.answered 15 tag (chars 'S' 'C' 'R' 'T') .storeFull []))
        ∧ (max 1 extent ≤ s.stc.freeSpan → s.stc.freeId = none → exec (.scrt 15 tag kind extent mailbox) s = .next
          (s.answered 15 tag (chars 'S' 'C' 'R' 'T') .directoryFull []))))
    ∧ (∀ id,
      (96 ≤ id → exec (.scls 15 tag id) s = .next (s.answered 15 tag (chars 'S' 'C' 'L' 'S') .badArgument []))
      ∧ (id < 96 → s.stc.entry id = none → exec (.scls 15 tag id) s = .next
        (s.answered 15 tag (chars 'S' 'C' 'L' 'S') .notFound []))
      ∧ ∀ e, id < 96 → s.stc.entry id = some e →
        (e.open_ = false → exec (.scls 15 tag id) s = .next
          (s.answered 15 tag (chars 'S' 'C' 'L' 'S') .wrongState []))
        ∧ (e.open_ = true → s.recordInUse id = true → exec (.scls 15 tag id) s = .next
          (s.answered 15 tag (chars 'S' 'C' 'L' 'S') .inUse [])))
    ∧ (∀ (i : LineNo) slot id right,
      ((4 ≤ slot ∨ Right.of right = none ∨ 96 ≤ id) → exec (.atch i.val tag slot id right) s = .next
        (s.answered i.val tag (chars 'A' 'T' 'C' 'H') .badArgument []))
      ∧ (4 ≤ slot → exec (.dtch i.val tag slot) s = .next
        (s.answered i.val tag (chars 'D' 'T' 'C' 'H') .badArgument [])))
    ∧ ∀ (i k : LineNo) id right r, Right.of right = some r → id < 96 →
      ((s.line i).slotInUse k = true →
        exec (.atch i.val tag k.val id right) s = .next (s.answered i.val tag (chars 'A' 'T' 'C' 'H') .inUse [])
        ∧ exec (.dtch i.val tag k.val) s = .next (s.answered i.val tag (chars 'D' 'T' 'C' 'H') .inUse []))
      ∧ ((s.line i).slotInUse k = false →
        (s.stc.entry id = none →
          exec (.atch i.val tag k.val id right) s = .next (s.answered i.val tag (chars 'A' 'T' 'C' 'H') .notFound []))
        ∧ (∀ e, s.stc.entry id = some e → r = .record → (e.open_ = false ∨ s.recordElsewhere i k id = true) →
          exec (.atch i.val tag k.val id right) s = .next (s.answered i.val tag (chars 'A' 'T' 'C' 'H') .noRight []))
        ∧ ((s.line i).window.get k = none →
          exec (.dtch i.val tag k.val) s = .next (s.answered i.val tag (chars 'D' 'T' 'C' 'H') .notFound [])))

/-- O43. SDEL takes its five checks in order and frees the entry (08 R121). -/
def Obligations.SdelChecksInOrder : Prop :=
  ∀ (s : State) (tag id : Nat), s.ready →
    exec (.sdel 15 tag id) s = .next
      (if 96 ≤ id then s.answered 15 tag (chars 'S' 'D' 'E' 'L') .badArgument []
      else match s.stc.entry id with
        | none => s.answered 15 tag (chars 'S' 'D' 'E' 'L') .notFound []
        | some e =>
          if e.open_ = true then s.answered 15 tag (chars 'S' 'D' 'E' 'L') .wrongState []
          else if e.moving = true then s.answered 15 tag (chars 'S' 'D' 'E' 'L') .busy []
          else if ∃ (i k : LineNo) (a : Attach), (s.line i).window.get k = some a ∧ a.id = id then
            s.answered 15 tag (chars 'S' 'D' 'E' 'L') .inUse []
          else ({ s with stc := { s.stc with dir := s.stc.dir.set id none } }).answered 15 tag
            (chars 'S' 'D' 'E' 'L') .ok [])

/-- O44. SWRT, SRED, SLST and SSTA, carried out or refused (08 R124, 08 R125, 08 R126, 08 R131). -/
def Obligations.StoreReadsAndReports : Prop :=
  ∀ (s : State) (tag : Nat), s.ready →
    (∀ id bytes e, id < 96 → bytes.length ≤ 1024 → s.stc.entry id = some e → e.open_ = true → s.recordHeld id = false →
      let l := bytes.take (e.capacity - e.used)
      exec (.swrt 15 tag id bytes) s = .next
        (({ s with stc := l.foldl (fun t b => t.appendByte id (0, 16) b) s.stc }).answered 15 tag
          (chars 'S' 'W' 'R' 'T') .ok (be2 l.length ++ be4 (e.used + l.length))))
    ∧ (∀ id offset count e, id < 96 → s.stc.entry id = some e →
      let n := min (clamp 1 1024 count) (e.used - offset)
      let f := be1 id ++ be4 offset ++ be2 n ++ s.stc.readPayload id e offset n
      exec (.sred 15 tag id offset count) s = .next
        (if s.stc.badPayload id e offset n then
          ({ s with
            stc := s.stc.updEntry id fun e => { e with damaged := true }
            cnt := { s.cnt with storeParity := satAdd s.cnt.storeParity 1 } }).answered 15 tag
            (chars 'S' 'R' 'E' 'D') .damaged f
        else s.answered 15 tag (chars 'S' 'R' 'E' 'D') .ok f))
    ∧ (∀ start, start < 96 →
      exec (.slst 15 tag start) s = .next (s.answered 15 tag (chars 'S' 'L' 'S' 'T') .ok
        (be1 ((s.stc.from start).take 16).length
          ++ (((s.stc.from start).take 16).flatMap fun x => Entry.bytes x.1 x.2)
          ++ be1 (nextAfter 16 96 (s.stc.from start)))))
    ∧ exec (.ssta 15 tag) s = .next (s.answered 15 tag (chars 'S' 'S' 'T' 'A') .ok s.stc.fields)
    ∧ (∀ id bytes, (96 ≤ id ∨ 1024 < bytes.length) →
      exec (.swrt 15 tag id bytes) s = .next (s.answered 15 tag (chars 'S' 'W' 'R' 'T') .badArgument []))
    ∧ (∀ id offset count, 96 ≤ id →
      exec (.sred 15 tag id offset count) s = .next (s.answered 15 tag (chars 'S' 'R' 'E' 'D') .badArgument [])
      ∧ exec (.slst 15 tag id) s = .next (s.answered 15 tag (chars 'S' 'L' 'S' 'T') .badArgument []))
    ∧ (∀ id bytes offset count, id < 96 → bytes.length ≤ 1024 → s.stc.entry id = none →
      exec (.swrt 15 tag id bytes) s = .next (s.answered 15 tag (chars 'S' 'W' 'R' 'T') .notFound [])
      ∧ exec (.sred 15 tag id offset count) s = .next (s.answered 15 tag (chars 'S' 'R' 'E' 'D') .notFound []))
    ∧ ∀ id bytes e, id < 96 → bytes.length ≤ 1024 → s.stc.entry id = some e →
      (e.open_ = false → exec (.swrt 15 tag id bytes) s = .next
        (s.answered 15 tag (chars 'S' 'W' 'R' 'T') .wrongState []))
      ∧ (e.open_ = true → s.recordHeld id = true → exec (.swrt 15 tag id bytes) s = .next
        (s.answered 15 tag (chars 'S' 'W' 'R' 'T') .inUse []))

/-- O45. PACK START, PACK STOP and MOVE_CELL_COPY (08 R127, 08 R128, 08 R129, 08 R131). -/
def Obligations.PackStartsStopsAndCopies : Prop :=
  (∀ (s : State) (tag : Nat), s.ready →
    (∀ region r, Region.of region = some r → s.stc.pack.st = .idle →
      exec (.packStart 15 tag region) s = .next
        (let p : Pack := { st := .running, region := r, working := if r = .fax then .fax else .voice }
        (({ s with stc := { s.stc with pack := p } } : State).packWalk).answered 15 tag
          (chars 'P' 'A' 'C' 'K') .accepted []))
    ∧ (s.stc.pack.st ≠ .idle →
      exec (.packStop 15 tag) s = .next
        (({ s with stc := { s.stc with pack := { s.stc.pack with st := .stopping } } }).answered 15 tag
          (chars 'P' 'A' 'C' 'K') .ok []))
    ∧ (∀ region, Region.of region = none →
      exec (.packStart 15 tag region) s = .next (s.answered 15 tag (chars 'P' 'A' 'C' 'K') .badArgument []))
    ∧ (∀ region, Region.of region ≠ none → s.stc.pack.st ≠ .idle →
      exec (.packStart 15 tag region) s = .next (s.answered 15 tag (chars 'P' 'A' 'C' 'K') .busy []))
    ∧ (s.stc.pack.st = .idle →
      exec (.packStop 15 tag) s = .next (s.answered 15 tag (chars 'P' 'A' 'C' 'K') .wrongState [])))
  ∧ (∀ s : State, s.phase = .running →
    (s.stc.move = none → exec .moveCellCopy s = .next s.settle)
    ∧ (∀ m e, s.stc.move = some m → s.stc.entry m.id = some e →
      exec .moveCellCopy s = .next
        (let src := e.kind.cell m.old m.mark
        let m1 : Move := { m with mark := m.mark + 1, due := max s.now m.due + 1 }
        let t : Stc := { s.stc.copyCell e src (e.kind.cell m.new m.mark) with move := some m1 }
        let u : State :=
          if s.stc.badIn (src * 1024) 1024 then
            { s with
              now := max s.now m.due, stc := t.damage m.id
              cnt := { s.cnt with storeParity := satAdd s.cnt.storeParity 1 } }
          else { s with now := max s.now m.due, stc := t }
        (if e.extent ≤ m.mark + 1 then u.moveDone m1 e else u).settle)))

/-- O46. A sample is coded, and a code decoded, by the six steps (R135). -/
def Obligations.SampleIsCodedInSixSteps : Prop :=
  ∀ (p : Int) (n : Nat) (x : Int), -8192 ≤ p → p ≤ 8191 → n ≤ 47 → -8192 ≤ x → x ≤ 8191 →
    let size : Nat := (8 + n % 8) * 2 ^ (n / 8)
    let m : Nat := min 7 (4 * (x - p).natAbs / size)
    let r : Int := ((2 * m + 1) * size / 8 : Nat)
    let code := encodeSample (p, n) x
    code = (if x - p < 0 then 8 else 0) + m
      ∧ code ≤ 15
      ∧ (decodeCode (p, n) code).1 = max (-8192) (min 8191 (if x - p < 0 then p - r else p + r))
      ∧ ((decodeCode (p, n) code).2 : Int) = max 0 (min 47 ((n : Int)
          + (if m = 4 then 2 else if m = 5 then 4 else if m = 6 then 6 else if m = 7 then 8 else -1)))

/-- O47. PLAY, RECD, PAUS and VSTP, carried out or refused (the model's choices, logs 30, 52, 67, 68) (09 R138, 09 R139,
09 R141, 09 R142, 09 R145). -/
def Obligations.VoiceRequestsAreTaken : Prop :=
  (∀ (s : State) (i : LineNo) (tag : Nat), s.ready → (s.line i).planActive = false →
    (∀ (k : LineNo) flag b a e, flagOf flag = some b → (s.line i).cc.state = .connected →
      (s.line i).cc.kind = some .voice → (s.line i).vc.op = none → (s.line i).tu.toneDue = none →
      s.hasPending i = false → (s.line i).window.get k = some a → s.stc.entry a.id = some e → e.kind.voice = true →
      (∀ startCell repeats gap, a.right = .play →
        let o : VoiceOp :=
          { kind := .play, host := true, slot := k, id := a.id
            startCell := min startCell ((e.used - 1) / 1020), repeats := clamp 1 8 repeats, gap := min 5000 gap
            stopOnDigit := b }
        exec (.play i.val tag k.val startCell repeats gap flag) s = .next
          ((s.startOp i o .voicePlay).answered i.val tag (chars 'P' 'L' 'A' 'Y') .accepted
            (be2 o.startCell ++ be1 o.repeats ++ be2 o.gap)))
      ∧ (∀ limit silence threshold, a.right = .record →
        let o : VoiceOp :=
          { kind := .recd, host := true, slot := k, id := a.id, limit := clamp 1 480 limit
            silence := clamp 1 30 silence, threshold := min 2047 threshold, stopOnDigit := b }
        exec (.recd i.val tag k.val limit silence threshold flag) s = .next
          ((s.startOp i o .voiceRecord).answered i.val tag (chars 'R' 'E' 'C' 'D') .accepted
            (be2 o.limit ++ be1 o.silence ++ be2 o.threshold))))
    ∧ (∀ o, (s.line i).vc.op = some o →
      exec (.paus i.val tag 0) s = .next
        (match o.phase with
          | .playing => (s.updVc i fun v => { v with op := some { o with pauseReq := true } }).answered i.val tag
              (chars 'P' 'A' 'U' 'S') .ok []
          | .gap => (s.updVc i fun v => { v with op := some (o.pause s.now) }).answered i.val tag
              (chars 'P' 'A' 'U' 'S') .ok []
          | .paused => s.answered i.val tag (chars 'P' 'A' 'U' 'S') .ok []
          | .waiting | .recording => s.answered i.val tag (chars 'P' 'A' 'U' 'S') .wrongState [])
      ∧ exec (.paus i.val tag 1) s = .next
        (match o.phase with
          | .playing => (s.updVc i fun v => { v with op := some { o with pauseReq := false } }).answered i.val tag
              (chars 'P' 'A' 'U' 'S') .ok []
          | .paused => (s.updVc i fun v => { v with op := some { o with resumeReq := true } }).answered i.val tag
              (chars 'P' 'A' 'U' 'S') .ok []
          | .gap => s.answered i.val tag (chars 'P' 'A' 'U' 'S') .ok []
          | .waiting | .recording => s.answered i.val tag (chars 'P' 'A' 'U' 'S') .wrongState [])
      ∧ exec (.vstp i.val tag) s = .next
        ((if o.phase = .waiting then
            (if o.granted then
              (if o.host then s.finishOp i .stopped else (s.finishOp i .stopped).dropMessage o.id)
            else s.updVc i fun v => { v with op := some { o with stopReq := true } })
          else if o.digitStop then (s.digitTrim o).finishOp i .digit
          else s.finishOp i .stopped).answered i.val tag (chars 'V' 'S' 'T' 'P') .ok []))
    ∧ ((s.line i).vc.op = none →
      exec (.paus i.val tag 0) s = .next (s.answered i.val tag (chars 'P' 'A' 'U' 'S') .wrongState [])
      ∧ exec (.paus i.val tag 1) s = .next (s.answered i.val tag (chars 'P' 'A' 'U' 'S') .wrongState [])
      ∧ exec (.vstp i.val tag) s = .next (s.answered i.val tag (chars 'V' 'S' 'T' 'P') .wrongState [])))
  ∧ ∀ (s : State) (i : LineNo) (tag startCell repeats gap limit silence threshold slot flag : Nat), s.ready →
    let both (st : Status) : Prop :=
      exec (.play i.val tag slot startCell repeats gap flag) s = .next
        (s.answered i.val tag (chars 'P' 'L' 'A' 'Y') st [])
      ∧ exec (.recd i.val tag slot limit silence threshold flag) s = .next
        (s.answered i.val tag (chars 'R' 'E' 'C' 'D') st [])
    ((4 ≤ slot ∨ flagOf flag = none) → both .badArgument)
    ∧ (slot < 4 → flagOf flag ≠ none → (s.line i).cc.connectedVoice = false → both .wrongState)
    ∧ (slot < 4 → flagOf flag ≠ none → (s.line i).cc.connectedVoice = true →
      ((s.line i).planActive = true ∨ (s.line i).vc.op ≠ none ∨ (s.line i).tu.toneDue ≠ none ∨ s.hasPending i = true) →
      both .busy)
    ∧ (∀ k : LineNo, slot = k.val → flagOf flag ≠ none → (s.line i).cc.connectedVoice = true →
      (s.line i).planActive = false → (s.line i).vc.op = none → (s.line i).tu.toneDue = none → s.hasPending i = false →
      ((s.line i).window.get k = none → both .notFound)
      ∧ ∀ a, (s.line i).window.get k = some a →
        (a.right = .record → exec (.play i.val tag slot startCell repeats gap flag) s = .next
          (s.answered i.val tag (chars 'P' 'L' 'A' 'Y') .noRight []))
        ∧ (a.right = .play → exec (.recd i.val tag slot limit silence threshold flag) s = .next
          (s.answered i.val tag (chars 'R' 'E' 'C' 'D') .noRight []))
        ∧ (∀ e, s.stc.entry a.id = some e → e.kind.voice = false →
          (a.right = .play → exec (.play i.val tag slot startCell repeats gap flag) s = .next
            (s.answered i.val tag (chars 'P' 'L' 'A' 'Y') .badArgument []))
          ∧ (a.right = .record → exec (.recd i.val tag slot limit silence threshold flag) s = .next
            (s.answered i.val tag (chars 'R' 'E' 'C' 'D') .badArgument []))))
    ∧ (∀ v, 2 ≤ v → exec (.paus i.val tag v) s = .next (s.answered i.val tag (chars 'P' 'A' 'U' 'S') .badArgument []))
    ∧ ((s.line i).planActive = true →
      exec (.paus i.val tag 0) s = .next (s.answered i.val tag (chars 'P' 'A' 'U' 'S') .busy [])
      ∧ exec (.paus i.val tag 1) s = .next (s.answered i.val tag (chars 'P' 'A' 'U' 'S') .busy [])
      ∧ exec (.vstp i.val tag) s = .next (s.answered i.val tag (chars 'V' 'S' 'T' 'P') .busy []))

/-- O48. VOICE_OPERATION_START, PLAY_CELL_REACHED, GAP_END, VOICE_FRAME_END, RECORDING_LIMIT_REACHED (logs 24, 25, 51, 55)
(09 R134, 09 R137, 09 R138, 09 R140, 09 R142, 09 R143, 09 R144). -/
def Obligations.VoiceOperationsRun : Prop :=
  ∀ (s : State) (i : LineNo) (o : VoiceOp), s.phase = .running → (s.line i).vc.op = some o →
    (o.phase = .waiting → o.granted = true → o.kind = .play →
      exec (.voiceOperationStart i) s = .next
        (s.updVc i fun v => { v with
          predicted := 0, stepIndex := 16
          op := some { o with
            phase := .playing, cell := o.startCell, repeatNo := 1, buf := .codes [], frameFill := 0 } }).settle)
    ∧ (∀ e, o.phase = .waiting → o.granted = true → o.kind = .recd → s.stc.entry o.id = some e →
      (o.host = true ∨ (s.line i).apc.recordToneDue = none) →
      exec (.voiceOperationStart i) s = .next (s.recordStarts i o e).settle)
    ∧ (o.phase = .playing → exec (.playCellReached i) s = .next (s.reachCell i o).settle)
    ∧ (∀ d, o.phase = .gap → o.gapDue = some d →
      exec (.gapEnd i) s = .next
        ((s.reach d).updVc i fun v => { v with
          predicted := 0, stepIndex := 16, out := List.replicate o.gapOut 0
          op := some { o with
            phase := .playing, repeatNo := o.repeatNo + 1, cell := o.startCell, gapDue := none, gapOut := 0
            frameFill := (o.frameFill + o.gapOut) % 80 } }).settle)
    ∧ (∀ samples, o.phase = .recording →
      (let r := s.recSamples i o (samples.drop o.frameFill)
      exec (.voiceFrameEnd i samples) s = .next
        (if o.digitStop then (r.1.digitTrim o).opEnds i .digit
        else if r.2 then r.1.opEnds i .limit
        else r.1.judgeSilence i o ((samples.map Int.natAbs).sum / 80)).settle)
      ∧ (let l := samples.take (80 - o.frameFill)
        let r := s.recSamples i o l
        exec (.recordingLimitReached i samples) s = .next
          (if r.2 = true ∧ o.digitStop = false then r.1.opEnds i .limit
          else r.1.updVc i fun v => { v with op := some { o with frameFill := o.frameFill + l.length } }).settle))
    ∧ (∀ samples, o.phase ≠ .recording → exec (.voiceFrameEnd i samples) s = .next (s.playFrame i o).settle)
    ∧ (∀ samples, (o.phase = .gap ∨ o.phase = .paused) →
      exec (.voiceFrameEnd i samples) s = .next
        ((s.updVc i fun v => { v with
          out := List.replicate (80 - o.frameFill) 0
          op := some { o with
            frameFill := 0
            gapOut := if o.phase = .gap then o.gapOut - (80 - o.frameFill) else o.gapOut } }).frameBoundary i).settle)
    ∧ (∀ samples, o.phase = .playing →
      let r := o.buf.take ((s.line i).vc.predicted, (s.line i).vc.stepIndex) (80 - o.frameFill)
      exec (.voiceFrameEnd i samples) s = .next
        ((s.updVc i fun v => { v with
          predicted := r.2.1.1, stepIndex := r.2.1.2, out := r.2.2
          op := some { o with buf := r.1, frameFill := 0 } }).frameBoundary i).settle)

/-- O49. The answer decision follows the class, the ring count and the withheld action (10 R148, 10 R150). -/
def Obligations.AnswerDecisionFollowsItsTable : Prop :=
  ∀ (p : Profile) (c : Option CallerClass) (n : Nat),
    let t := if c = some .priority then max 1 (min 15 p.priorityRings) else max 1 (min 15 p.rings)
    (c = some .barred → decideAnswer p c n = .refuse)
    ∧ (c ≠ some .barred → n < t → decideAnswer p c n = .wait)
    ∧ (t ≤ n → (c = some .priority ∨ c = some .known ∨ c = some .learned) → decideAnswer p c n = .answer)
    ∧ (t ≤ n → (c = some .unknown ∨ c = none) →
        decideAnswer p c n = if p.withheldIgnore then .refuse else .answer)

/-- O50. RECORD_TONE_END, MAILBOX_WAIT_EXPIRY, CALLING_TONE_BURST, CALLING_TONE_RESET and TAKE (10 R153, 10 R154, 10 R155,
10 R158). -/
def Obligations.PlanEventsAndTake : Prop :=
  ∀ (s : State) (i : LineNo), s.phase = .running →
    (∀ d, (s.line i).apc.recordToneDue = some d →
      exec (.recordToneEnd i) s = .next
        ((s.reach d).updApc i fun a => { a with recordToneDue := none }).settle)
    ∧ (∀ d, (s.line i).apc.mailboxDue = some d → (s.line i).apc.plan = .mailboxWait →
      exec (.mailboxWaitExpiry i) s = .next
        ((((s.reach d).updApc i fun a => { a with
          mailbox := some (s.line i).profile.mailbox, mailboxDue := none }).recordStep i).settle))
    ∧ (((s.line i).apc.plan = .greeting ∨ (s.line i).apc.plan = .mailboxWait) → (s.line i).holds .listener = true →
      (s.line i).cc.state = .connected → (s.line i).cc.kind = some .voice →
      exec (.callingToneBurst i) s = .next
        (let n := (s.line i).apc.toneCount + 1
        let u := s.updApc i fun a => { a with toneCount := min 2 n, toneReset := some (s.now + 5000) }
        (if 2 ≤ n then u.faxHandoff i else u).settle))
    ∧ (∀ d, (s.line i).apc.toneReset = some d →
      exec (.callingToneReset i) s = .next
        ((s.reach d).updApc i fun a => { a with toneCount := 0, toneReset := none }).settle)
    ∧ (∀ tag, s.ready →
      ((s.line i).apc.plan = .greeting ∨ (s.line i).apc.plan = .mailboxWait ∨ (s.line i).apc.plan = .recording) →
      exec (.take i.val tag) s = .next
        ((((((s.takeOp i).1.endActs i [.listener]).planOutcome i
          ((s.takeOp i).2.getD { outcome := .taken, id := none })).planInactive i).answered i.val tag
          (chars 'T' 'A' 'K' 'E') .ok [])))
    ∧ (∀ tag, s.ready → (s.line i).apc.plan ≠ .greeting → (s.line i).apc.plan ≠ .mailboxWait →
      (s.line i).apc.plan ≠ .recording →
      exec (.take i.val tag) s = .next (s.answered i.val tag (chars 'T' 'A' 'K' 'E') .wrongState []))
    ∧ (((s.line i).apc.plan ≠ .greeting ∧ (s.line i).apc.plan ≠ .mailboxWait) ∨ (s.line i).holds .listener = false →
      exec (.callingToneBurst i) s = .next s.settle)

/-- O51. Bytes, gaps and whole records arrive at the receiver (the model's choices, logs 48 and 66) (11 R162, 11 R163, 11
R164). -/
def Obligations.RecordBytesAreCollected : Prop :=
  ∀ s : State, s.phase = .running →
    (s.lp.receiver = .hunt →
      exec (.hostLinkByteReceived 165) s = .next
        ({ s with lp := { s.lp with receiver := .collect [], gapDue := some (s.now + 100) } }).settle
      ∧ ∀ x : Byte, x ≠ 165 → exec (.hostLinkByteReceived x) s = .next s.settle)
    ∧ (∀ (l : List Byte) (x : Byte), s.lp.receiver = .collect l →
      exec (.hostLinkByteReceived x) s = .next
        (let b := l ++ [x]
        let hunting : State := { s with lp := { s.lp with receiver := .hunt, gapDue := none } }
        (if b.length = 5 ∧ 1100 < at2 b 3 then hunting.badRecord
        else if 6 ≤ b.length ∧ b.length = at2 b 3 + 6 then hunting.judgeRecord b
        else { s with lp := { s.lp with receiver := .collect b, gapDue := some (s.now + 100) } }).settle))
    ∧ (∀ d, s.lp.gapDue = some d →
      exec .inboundGapExpiry s = .next
        (({ s with now := max s.now d, lp := { s.lp with receiver := .hunt, gapDue := none } }).badRecord).settle)
    ∧ (∀ bytes, s.lp.receiver = .hunt → s.lp.gapDue = none → bytes.length = at2 bytes 3 + 6 → at2 bytes 3 ≤ 1100 →
      exec (.recordReceived bytes) s = .next
        (match recordOf bytes with
          | some r => (s.offer r).drain
          | none => s.badRecord).settle)

/-- O52. A request read from the payload its record spells is that request (11 R162, 11 R166). -/
def Obligations.RequestReadsBackFromItsRecord : Prop :=
  ∀ (c : Instr) (line tag : Nat) (r : Request), c.wellFormed = true → carried c = some (line, tag, r) →
    requestOf line r.payload = r

/-- O53. A whole good REQUEST record does what the command it carries does (logs 5 and 66) (11 R162, 11 R163, 11 R164, 11
R165). -/
def Obligations.RecordDoesWhatItsCommandDoes : Prop :=
  ∀ (c : Instr) (line tag : Nat) (r : Request) (s : State), c.wellFormed = true → carried c = some (line, tag, r) →
    s.lp.receiver = .hunt → s.lp.gapDue = none →
    exec (.recordReceived (recordBytes 1 line tag r.payload)) s = exec c s

/-- O54. UNKNOWN, MALFORMED and the line byte's check, in this order, and a request that cannot be taken waits (choices:
logs 5, 7, 66) (11 R164, 11 R165, 11 R166, 11 R171). -/
def Obligations.UnknownAndUntakenRequests : Prop :=
  (∀ (s : State) (line tag : Nat) (p : List Byte), s.ready →
    exec (.unknownRequest line tag p) s = .next (s.answered line tag ((p ++ [0, 0, 0, 0]).take 4) .unknown []))
  ∧ (∀ (c : Instr) (line tag : Nat) (r : Request), c.wellFormed = true → carried c = some (line, tag, r) →
    (∀ p, r ≠ .unknown p) → (∀ n b, r ≠ .setp n b) →
    (∀ extra, extra ≠ [] → requestOf line (r.payload ++ extra) = .malformed r.name)
    ∧ ∀ n, 4 ≤ n → n < r.payload.length → requestOf line (r.payload.take n) = .malformed r.name)
  ∧ (∀ (s : State) (line tag : Nat) (p n : List Byte), s.ready → s.lp.receiver = .hunt → s.lp.gapDue = none →
    line < 256 → tag < 256 → p.length ≤ 1100 → requestOf line p = .malformed n →
    exec (.recordReceived (recordBytes 1 line tag p)) s = .next (s.answered line tag n .malformed []))
  ∧ (∀ (s : State) (c : Instr) (line tag : Nat) (r : Request), s.ready → carried c = some (line, tag, r) →
    (r.forPart = true ∧ line ≠ 15 ∧ (∀ n b, r = .setp n b → 1 ≤ n → n ≤ 5 → sectionFits n b = true)
      ∨ r.forLine = true ∧ 4 ≤ line) →
    exec c s = .next (s.answered line tag r.name .badArgument []))
  ∧ (∀ (s : State) (c : Instr) (line tag : Nat) (r : Request), s.phase = .running → carried c = some (line, tag, r) →
    s.handedOut →
    (s.lp.open_ = false → s.lp.inbound.length < 4 →
      exec c s = .next { s with lp := { s.lp with
        inbound := s.lp.inbound ++ [{ line := line, tag := tag, body := .request r }] } })
    ∧ (8 ≤ s.lp.replies.length → s.lp.inbound = [] →
      exec c s = .next { s with lp := { s.lp with inbound := [{ line := line, tag := tag, body := .request r }] } })
    ∧ (s.lp.open_ = false → s.lp.inbound.length = 4 → s.cnt.overrun < 4294967295 →
      exec c s = .next (({ s with cnt := { s.cnt with overrun := s.cnt.overrun + 1 } }).raisePart .lerr)))

/-- O55. RECORD_SENT ends a record and the next one is chosen, formed and sent (choices: idle transmitter log 6, TXLV byte
log 11) (11 R162, 11 R165, 11 R168, 11 R169, 03 R47, 06 R85, 12 R177). -/
def Obligations.RecordSentLetsTheNextBegin : Prop :=
  (∀ s : State, s.phase = .running →
    (s.lp.sending = none → exec .recordSent s = .next s.chooseRecord.drain.settle)
    ∧ (∀ r, s.lp.sending = some r → ((∀ q, r ≠ .reply q) ∨ s.lp.hardPending = false ∨ s.lp.replies ≠ []) →
      exec .recordSent s = .next
        (let t : State := { s with lp := { s.lp with
          sending := none
          open_ := match r with
            | .notice .strt _ _ => true
            | _ => s.lp.open_ } }
        t.drain.chooseRecord.drain.settle))
    ∧ (∀ q, s.lp.sending = some (.reply q) → s.lp.hardPending = true → s.lp.replies = [] →
      exec .recordSent s = .next (s.hardReset .hostHard)))
  ∧ (∀ s : State, s.lp.inbound = [] → s.drain = s)
  ∧ (∀ (s : State) (r : Inbound) (rest : List Inbound), s.lp.inbound = r :: rest →
    (s.lp.canTake r = true →
      s.drain = ((({ s with lp := { s.lp with inbound := rest } }).takeRecord r).settle).drain)
    ∧ (s.lp.canTake r = false → s.drain = s)
    ∧ (s.lp.canTake r = true ↔ s.lp.open_ = true ∧ s.lp.hardPending = false
      ∧ ((∃ b, r.body = .data b) ∨ s.lp.replies.length < 8)))
  ∧ (∀ s : State,
    let ready (i : LineNo) : Bool := !(s.line i).blc.rx.isEmpty && !(s.line i).blc.hold
    let p := s.lp.dataPointer
    let run : Nat := if s.nextData.isSome then min 8 (s.lp.nonDataRun + 1) else 0
    s.nextData = [p + 1, p + 2, p + 3, p].find? ready
    ∧ (∀ i, s.nextData = some i → s.lp.nonDataRun = 8 → s.lp.hardPending = false → s.chooseRecord = s.sendData i)
    ∧ ((s.nextData = none ∨ s.lp.nonDataRun ≠ 8 ∨ s.lp.hardPending = true) →
      (∀ q rest, s.lp.replies = q :: rest →
        s.chooseRecord = { s with lp := { s.lp with replies := rest, sending := some (.reply q), nonDataRun := run } })
      ∧ (s.lp.replies = [] → s.lp.hardPending = true → s.chooseRecord = s)
      ∧ (s.lp.replies = [] → s.lp.hardPending = false →
        (∀ k i, s.eligibleNotice k i = true → (k.partWide = true → i = 0) →
          (∀ k' i', s.eligibleNotice k' i' = true → (k'.partWide = true → i' = 0) →
            s.level k < s.level k' ∨ (s.level k = s.level k' ∧ (k.idx < k'.idx ∨ (k = k' ∧ i ≤ i')))) →
          s.chooseRecord =
            (let t := s.setFlag k i false
            { t with
              lp := { s.lp with
                sending := some (.notice k (if k.partWide then 15 else i.val) (s.notice k i)), nonDataRun := run }
              nu := { t.nu with queueEvents := if k = .cque then [] else s.nu.queueEvents } }))
        ∧ ((∀ k i, (k.partWide = true → i = 0) → s.eligibleNotice k i = false) →
          (∀ i, s.nextData = some i → s.chooseRecord = s.sendData i)
          ∧ (s.nextData = none → s.chooseRecord = s))))
    ∧ (∀ k i c, s.sl.live.notices[k.idx]? = some c →
      (s.eligibleNotice k i = true ↔ s.flag k i = true ∧ c.masked.get i = false) ∧ s.level k = c.level)
    ∧ (∀ i, s.sendData i =
      (let t := (s.updBlc i fun b => { b with rx := b.rx.drop 256 }).notReadyTest i
      { t with lp := { s.lp with
          sending := some (.dataOut i ((s.line i).blc.rx.take 256)), nonDataRun := 0, dataPointer := i } }))
    ∧ ∀ i,
      let l := s.line i
      s.notice .strt i = be1 s.cause.code ++ be1 s.sl.source.code ++ be2 s.stc.size
      ∧ s.notice .clrd i = be1? (l.cc.endReason.map EndReason.code) ++ be4 l.cc.connSecs
      ∧ s.notice .call i = be1 l.cc.state.code
          ++ be1? (if l.cc.state = .connected then l.cc.kind.map CallKind.code else none) ++ be1 l.cc.outcome.code
      ∧ s.notice .svce i = be1 l.lif.service.code
      ∧ (∀ j, l.fxc.job = some j →
        s.notice .faxj i = be1? (j.outcome.map FaxOutcome.code) ++ be1 j.pagesDone)
      ∧ s.notice .plan i =
          be1? (l.apc.planResult.map fun r => r.outcome.code) ++ be1? (l.apc.planResult.bind fun r => r.id)
      ∧ s.notice .ring i = be1 l.lif.ringCount
      ∧ (∀ c, l.cc.caller = some c → s.notice .clid i =
        beStr? c.number ++ beStr? c.name ++ be1 (l.apc.callerClass.getD .unknown).code)
      ∧ s.notice .dgts i = be1 l.tu.digits.length
      ∧ (∀ v e, l.vc.lastResult = some v → s.stc.entry v.id = some e →
        s.notice .voic i = be1 v.outcome.code ++ be1 v.id ++ be4 e.used)
      ∧ (∀ f, l.fxc.faxp = some f → s.notice .faxp i = be1 f.id ++ be2 f.missing)
      ∧ (∀ m, l.apc.lastKept = some m → s.notice .msgn i = be1 m.1 ++ be1 m.2)
      ∧ s.notice .link i = be1? (l.blc.mode.map LinkMode.code) ++ be1 l.blc.link.code
      ∧ s.notice .qual i = be1? (l.dp.cur.map Cls.code) ++ be1 (l.dp.acc / 8)
      ∧ s.notice .txlv i = be1 (if l.blc.txHigh then 1 else 0)
      ∧ s.notice .grup i = (lineNos.flatMap fun g => be1 (s.gd.groupState.get g).code)
      ∧ s.notice .cque i = be1 s.nu.queueEvents.length ++ (s.nu.queueEvents.flatMap fun e =>
          be1 e.kind.code ++ be1 e.entry ++ be2 e.tag ++ be1? (e.line.map (·.val)))
      ∧ s.notice .pack i = packFields s.stc.packResult
      ∧ s.notice .lerr i = be4 s.cnt.overrun ++ be4 s.cnt.badRecords ++ be4 s.cnt.stray)
  ∧ ∀ (i : LineNo) (line tag : Nat) (name fields bytes : List Byte) (st : Status) (k : Notice),
    let framed (kind line tag : Nat) (payload w : List Byte) : Prop := ∃ c : Byte,
      w = 165 :: (be1 kind ++ be1 line ++ be1 tag ++ be2 payload.length ++ payload ++ [c]) ∧ byteSum w.tail % 256 = 0
    framed 2 line tag (name ++ be1 st.code ++ fields)
        (OutRec.reply { line := line, tag := tag, name := name, status := st, fields := fields }).wire
      ∧ framed 3 line 0 (k.name ++ bytes) (OutRec.notice k line bytes).wire
      ∧ framed 5 i.val 0 bytes (OutRec.dataOut i bytes).wire

/-- O56. NMSK, GETP, SETP and CNTR, carried out and refused (EEPROM presence byte: log 11) (11 R166, 11 R170, 12 R175, 12
R179). -/
def Obligations.SettingsRequestsAreTaken : Prop :=
  ∀ (s : State) (tag : Nat), s.ready →
    (∀ settings l, maskSettings settings = some l → 1 ≤ settings.length → settings.length ≤ 19 →
      exec (.nmsk 15 tag settings) s = .next
        (({ s with sl := { s.sl with live := { s.sl.live with
            notices := l.foldl (fun n (m : MaskSetting) => m.apply n) s.sl.live.notices } } }).answered 15 tag
          (chars 'N' 'M' 'S' 'K') .ok (be1 l.length ++ l.flatMap fun m : MaskSetting => be1 m.level)))
    ∧ (∀ n, exec (.getp 15 tag 1 n) s = .next (s.answered 15 tag (chars 'G' 'E' 'T' 'P') .ok
        (s.sl.live.part.bytes ++ be2 s.stc.size ++ be4 s.sl.linkRate)))
    ∧ (∀ i : LineNo, exec (.getp 15 tag 2 i.val) s = .next (s.answered 15 tag (chars 'G' 'E' 'T' 'P') .ok
        ((s.sl.live.lines.get i).bytes i)))
    ∧ (∀ n, exec (.getp 15 tag 3 n) s = .next (s.answered 15 tag (chars 'G' 'E' 'T' 'P') .ok
        (groupBytes s.sl.live.groups)))
    ∧ (∀ n, exec (.getp 15 tag 4 n) s = .next (s.answered 15 tag (chars 'G' 'E' 'T' 'P') .ok
        (noticeBytes s.sl.live.notices)))
    ∧ (∀ n, exec (.getp 15 tag 5 n) s = .next (s.answered 15 tag (chars 'G' 'E' 'T' 'P') .ok
        (callerBytes s.sl.live.callers)))
    ∧ (∀ n, exec (.getp 15 tag 6 n) s = .next (s.answered 15 tag (chars 'G' 'E' 'T' 'P') .ok
        (be1 s.sl.saveState.code ++ be1 s.sl.lastSave.code ++ be1 s.sl.source.code
          ++ be1 (if s.sl.present then 0 else 1))))
    ∧ (∀ code contents, 1 ≤ code → code ≤ 5 → sectionFits code contents = true → sectionTaken code contents = true →
      let t := s.sl.live.apply code contents
      exec (.setp 15 tag code contents) s = .next
        ((({ s with sl := { s.sl with live := t } }).settingTakes code s.sl.live).answered 15 tag
          (chars 'S' 'E' 'T' 'P') .ok (t.contents code ((lineOf (at1 contents 0)).getD 0))))
    ∧ (exec (.cntr 15 tag 15 0) s = .next (s.answered 15 tag (chars 'C' 'N' 'T' 'R') .ok (s.cnt.list.flatMap be4)))
    ∧ (exec (.cntr 15 tag 15 1) s = .next
        (({ s with cnt := {} }).answered 15 tag (chars 'C' 'N' 'T' 'R') .ok (s.cnt.list.flatMap be4)))
    ∧ (∀ i : LineNo, exec (.cntr 15 tag i.val 0) s = .next
        (s.answered 15 tag (chars 'C' 'N' 'T' 'R') .ok ((s.line i).cnt.list.flatMap be4))
      ∧ exec (.cntr 15 tag i.val 1) s = .next
        ((s.updCnt i fun _ => {}).answered 15 tag (chars 'C' 'N' 'T' 'R') .ok ((s.line i).cnt.list.flatMap be4)))
    ∧ (∀ settings, (settings = [] ∨ 19 < settings.length
        ∨ (∃ x ∈ settings, Notice.ofName x.1 = none ∨ 2 ≤ x.2.2.1
          ∨ (x.2.1 ≠ 15 ∧ (4 ≤ x.2.1 ∨ ∃ k, Notice.ofName x.1 = some k ∧ k.partWide = true)))) →
      exec (.nmsk 15 tag settings) s = .next (s.answered 15 tag (chars 'N' 'M' 'S' 'K') .badArgument []))
    ∧ (∀ code n, (code = 0 ∨ 7 ≤ code ∨ (code = 2 ∧ 4 ≤ n)) →
      exec (.getp 15 tag code n) s = .next (s.answered 15 tag (chars 'G' 'E' 'T' 'P') .badArgument []))
    ∧ (∀ code contents,
      ((code = 0 ∨ 6 ≤ code ∨ (sectionFits code contents = true ∧ sectionTaken code contents = false)) →
        exec (.setp 15 tag code contents) s = .next (s.answered 15 tag (chars 'S' 'E' 'T' 'P') .badArgument []))
      ∧ (1 ≤ code → code ≤ 5 → sectionFits code contents = false →
        exec (.setp 15 tag code contents) s = .next (s.answered 15 tag (chars 'S' 'E' 'T' 'P') .malformed [])))
    ∧ (∀ selector clear, (2 ≤ clear ∨ (selector ≠ 15 ∧ 4 ≤ selector)) →
      exec (.cntr 15 tag selector clear) s = .next (s.answered 15 tag (chars 'C' 'N' 'T' 'R') .badArgument []))

/-- O57. SAVE, SAVE_END, RSET SOFT and RSET HARD (12 R176, 12 R177, 11 R172). -/
def Obligations.SavesAndSoftResetsAreTaken : Prop :=
  (∀ (s : State) (tag : Nat), s.ready →
    (s.sl.saveState ≠ .writing → s.sl.present = true →
      exec (.save 15 tag) s = .next
        (({ s with sl := { s.sl with
            saveState := .writing, snapshot := some s.sl.live.image, saveDue := some (s.now + 1500) } }).answered 15 tag
          (chars 'S' 'A' 'V' 'E') .ok (be1 s.sl.lastSave.code)))
    ∧ (s.sl.saveState = .writing →
      exec (.save 15 tag) s = .next (s.answered 15 tag (chars 'S' 'A' 'V' 'E') .busy []))
    ∧ (s.sl.saveState ≠ .writing → s.sl.present = false →
      exec (.save 15 tag) s = .next (s.answered 15 tag (chars 'S' 'A' 'V' 'E') .notFound []))
    ∧ exec (.rsetSoft 15 tag) s = .next (s.softReset.answered 15 tag (chars 'R' 'S' 'E' 'T') .ok [])
    ∧ exec (.rsetHard 15 tag) s = .next
        (({ s with lp := { s.lp with hardPending := true } }).answered 15 tag (chars 'R' 'S' 'E' 'T') .ok []))
  ∧ (∀ (s : State) (b : List Byte), s.phase = .running → s.sl.snapshot = some b →
    exec (.saveEnd .matched) s = .next
      ({ s with sl := { s.sl with
        saveState := .idle, lastSave := .done, snapshot := none, saveDue := none, eeprom := .image b } }).settle
    ∧ exec (.saveEnd .noAcknowledge) s = .next
      ({ s with sl := { s.sl with
        saveState := .failed, lastSave := .failed, snapshot := none, saveDue := none, eeprom := .torn } }).settle
    ∧ exec (.saveEnd .mismatch) s = .next
      ({ s with sl := { s.sl with
        saveState := .failed, lastSave := .failed, snapshot := none, saveDue := none, eeprom := .torn } }).settle
    ∧ ∀ d, s.sl.saveDue = some d → exec (.saveEnd .timeout) s = .next
      ({ s with now := max s.now d, sl := { s.sl with
        saveState := .failed, lastSave := .failed, snapshot := none, saveDue := none, eeprom := .torn } }).settle)

/-- O58. A soft reset leaves every line without a call and the settings as they were (link values: log 75) (12 R177, 01
R15, 02 R18, 03 R48, 04 R66, 08 R132, 11 R172). -/
def Obligations.SoftResetClearsTheLines : Prop :=
  ∀ s : State,
    let t := s.softReset
    t.cause = .hostSoft ∧ t.lp.open_ = false ∧ t.lp.inbound = [] ∧ t.lp.replies = []
      ∧ (∀ k i, t.flag k i = true ↔ k = .strt ∧ i = 0)
      ∧ t.bm = {} ∧ t.gd.queue = [] ∧ (∀ r ∈ t.gd.recs, r = {}) ∧ t.stc.pack = {} ∧ t.stc.move = none
      ∧ (∀ e ∈ t.stc.used, e.open_ = false ∧ e.moving = false)
      ∧ t.sl = s.sl
      ∧ ∀ i : LineNo,
        (t.line i).lif.hook = .onHook ∧ (t.line i).acts = [] ∧ (t.line i).dp = {} ∧ (t.line i).blc = {}
        ∧ (t.line i).fxc = {} ∧ (t.line i).vc = {} ∧ (t.line i).apc = {} ∧ (t.line i).window = Four.all none
        ∧ ((s.line i).cc.state.inCall = true →
          (t.line i).cc.state = .clearing ∧ (t.line i).cc.endReason = some .reset
            ∧ (t.line i).cc.guardDue = some (s.now + 1000))
        ∧ ((s.line i).cc.state = .idle ∨ (s.line i).cc.state = .ringing → (t.line i).cc.state = .idle)
        ∧ ((s.line i).cc.state = .clearing →
          (t.line i).cc.state = .clearing ∧ (t.line i).cc.endReason = (s.line i).cc.endReason
            ∧ (t.line i).cc.guardDue = (s.line i).cc.guardDue)
        ∧ (t.line i).cc.causes = [] ∧ (t.line i).tu = {}

/-- O59. POWER_ON, RESET_PIN, CLOCK_LOSS, START_UP and SETTINGS_LOADED (the model's choices, logs 3, 9, 27, 54) (12 R174,
12 R177, 12 R178, 08 R133). -/
def Obligations.HardResetAndStartUp : Prop :=
  ∀ s : State,
    let held (k : ResetCause) : State := { s with
      phase := .held, cause := k, lines := Four.all {}, gd := {}, ct := {}, bm := {}
      stc := { s.stc with dir := List.replicate 96 none, pack := {}, move := none, packResult := none }
      lp := {}, nu := {}, cnt := {}
      sl := { s.sl with
        saveDue := none, eeprom := if s.sl.saveState = .writing then .torn else s.sl.eeprom } }
    exec .powerOn s = .next (held .powerOn)
    ∧ exec .resetPin s = .next (held .resetPin)
    ∧ exec .clockLoss s = .next (held .clockLoss)
    ∧ (s.phase = .held → exec .startUp s = .next { s with phase := .loading })
    ∧ (s.phase = .loading →
      let done (live : Settings) (src : Source) (present : Bool) : State :=
        (({ s with phase := .running, sl := { s.sl with
          live := live, linkRate := live.part.linkRate, source := src, present := present, saveState := .idle
          lastSave := .none, snapshot := none, saveDue := none } }).applySettings).raisePart .strt
      exec (.settingsLoaded none) s = .next (done {} .defaultsAbsent false)
      ∧ (∀ b, s.sl.eeprom = .untouched → imageGood b = true →
        exec (.settingsLoaded (some b)) s = .next (done (imageSettings b) .loaded true))
      ∧ (∀ b, s.sl.eeprom = .untouched → imageGood b = false →
        exec (.settingsLoaded (some b)) s = .next (done {} .defaultsBad true))
      ∧ (∀ b x, s.sl.eeprom = .image x → imageGood x = true →
        exec (.settingsLoaded (some b)) s = .next (done (imageSettings x) .loaded true))
      ∧ (∀ b, s.sl.eeprom = .torn →
        exec (.settingsLoaded (some b)) s = .next (done {} .defaultsBad true)))
    ∧ (s.phase ≠ .held → exec .startUp s = .next s)
    ∧ (s.phase ≠ .loading → ∀ r, exec (.settingsLoaded r) s = .next s)

/-- O60. The image of a settings copy is good and loads back as that copy (section order: log 27) (12 R173, 12 R174, 12
R176). -/
def Obligations.SavedSettingsLoadBack : Prop :=
  ∀ t : Settings, t.inRange → imageGood t.image = true ∧ imageSettings t.image = t

end
end

