-- ==== Sys2Proof/Laws/LineCheck.lean ====
section
/-! SUPPORT. Small lemmas of the messages on the line: distinct kinds, two-byte numbers, reading a checked message. -/

namespace Sys2Proof.Machine

open Sys2Proof

/-- Kinds differ. -/
theorem kindByte_inj {a b : Nat} (ha : a < 256) (hb : b < 256) : kindByte a = kindByte b ↔ a = b := by
  unfold kindByte
  rw [Config.kindCode.injective.eq_iff]
  refine ⟨fun h => ?_, fun h => h ▸ rfl⟩
  simpa [Nat.mod_eq_of_lt ha, Nat.mod_eq_of_lt hb] using congrArg BitVec.toNat h

@[simp] theorem lineTwo_length (n : Nat) : (lineTwo n).length = 2 := by unfold lineTwo be2; split <;> rfl

@[simp] theorem checkBytes_length (l : List Byte) : (checkBytes l).length = 2 := lineTwo_length _

/-- Two bytes on the line give their number back. -/
theorem lineTwo_cases {n : Nat} (h : n < 65536) : ∃ a b, lineTwo n = [a, b] ∧ lineNumber a b = n := by
  unfold lineTwo lineNumber be2
  split <;> exact ⟨_, _, rfl, by simp [*]; omega⟩

/-- A message of any kind with its own check is read as itself. -/
theorem linkMessage_checked {l : List Byte} {m : LinkMsg} (h : linkFields l = some m) :
    linkMessage (l ++ checkBytes m.covered) = some m := by
  unfold linkMessage
  simp [h]

end Sys2Proof.Machine
end

