-- ==== Sys2Proof/Laws/State.lean ====
section
/-! SUPPORT. What each update of the state leaves and sets: one lemma per field per update, so that no proof unfolds a
record update. -/

namespace Sys2Proof.Machine

open Sys2Proof

/-! ## A line after an update -/

@[simp] theorem State.line_upd_self (s : State) (i : LineNo) (f : Line → Line) :
    (s.upd i f).line i = f (s.line i) := by simp [State.upd, State.line]

theorem State.line_upd_ne (s : State) {i j : LineNo} (f : Line → Line) (h : j ≠ i) :
    (s.upd i f).line j = s.line j := by simp [State.upd, State.line, Four.get_set_ne _ _ h]

theorem State.line_upd (s : State) (i j : LineNo) (f : Line → Line) :
    (s.upd i f).line j = if j = i then f (s.line i) else s.line j := by
  by_cases h : j = i
  · subst h; simp
  · simp [h, State.line_upd_ne s f h]

/-- A part of a line that an update of a line leaves as it is, it leaves on every line. -/
theorem State.line_upd_part {α : Type} (s : State) (i j : LineNo) (f : Line → Line) (g : Line → α)
    (h : ∀ l, g (f l) = g l) : g ((s.upd i f).line j) = g (s.line j) := by
  rw [State.line_upd]; split
  · next e => subst e; exact h _
  · rfl

/-! ## Two updates of one line are one -/

theorem State.upd_upd (s : State) (i : LineNo) (f g : Line → Line) :
    (s.upd i f).upd i g = s.upd i fun l => g (f l) := by simp [State.upd]

/-- An update of a line that leaves it as it is changes nothing. -/
theorem State.upd_same (s : State) (i : LineNo) (f : Line → Line) (h : f (s.line i) = s.line i) : s.upd i f = s := by
  have h' : f (s.lines.get i) = s.lines.get i := h
  simp [State.upd, h']

/-- Updates that agree on the line are equal. -/
theorem State.upd_congr (s : State) (i : LineNo) (f g : Line → Line) (h : f (s.line i) = g (s.line i)) :
    s.upd i f = s.upd i g := by
  have h' : f (s.lines.get i) = g (s.lines.get i) := h
  simp [State.upd, h']

theorem State.updLif_updLif (s : State) (i : LineNo) (f g : Lif → Lif) :
    (s.updLif i f).updLif i g = s.updLif i fun x => g (f x) := by simp [State.updLif, State.upd_upd]

theorem State.updCc_updCc (s : State) (i : LineNo) (f g : Cc → Cc) :
    (s.updCc i f).updCc i g = s.updCc i fun x => g (f x) := by simp [State.updCc, State.upd_upd]

theorem State.updTu_updTu (s : State) (i : LineNo) (f g : Tu → Tu) :
    (s.updTu i f).updTu i g = s.updTu i fun x => g (f x) := by simp [State.updTu, State.upd_upd]

theorem State.updDp_updDp (s : State) (i : LineNo) (f g : Dp → Dp) :
    (s.updDp i f).updDp i g = s.updDp i fun x => g (f x) := by simp [State.updDp, State.upd_upd]

theorem State.updBlc_updBlc (s : State) (i : LineNo) (f g : Blc → Blc) :
    (s.updBlc i f).updBlc i g = s.updBlc i fun x => g (f x) := by simp [State.updBlc, State.upd_upd]

theorem State.updFxc_updFxc (s : State) (i : LineNo) (f g : Fxc → Fxc) :
    (s.updFxc i f).updFxc i g = s.updFxc i fun x => g (f x) := by simp [State.updFxc, State.upd_upd]

theorem State.updVc_updVc (s : State) (i : LineNo) (f g : Vc → Vc) :
    (s.updVc i f).updVc i g = s.updVc i fun x => g (f x) := by simp [State.updVc, State.upd_upd]

theorem State.updApc_updApc (s : State) (i : LineNo) (f g : Apc → Apc) :
    (s.updApc i f).updApc i g = s.updApc i fun x => g (f x) := by simp [State.updApc, State.upd_upd]

theorem State.updCnt_updCnt (s : State) (i : LineNo) (f g : LineCounters → LineCounters) :
    (s.updCnt i f).updCnt i g = s.updCnt i fun x => g (f x) := by simp [State.updCnt, State.upd_upd]

/-! ## Fields of the state that an update of a line leaves -/

@[simp] theorem State.upd_pending (s : State) (i : LineNo) (f : Line → Line) : (s.upd i f).pending = s.pending := rfl
@[simp] theorem State.upd_now (s : State) (i : LineNo) (f : Line → Line) : (s.upd i f).now = s.now := rfl
@[simp] theorem State.upd_phase (s : State) (i : LineNo) (f : Line → Line) : (s.upd i f).phase = s.phase := rfl
@[simp] theorem State.upd_cause (s : State) (i : LineNo) (f : Line → Line) : (s.upd i f).cause = s.cause := rfl
@[simp] theorem State.upd_gd (s : State) (i : LineNo) (f : Line → Line) : (s.upd i f).gd = s.gd := rfl
@[simp] theorem State.upd_ct (s : State) (i : LineNo) (f : Line → Line) : (s.upd i f).ct = s.ct := rfl
@[simp] theorem State.upd_bm (s : State) (i : LineNo) (f : Line → Line) : (s.upd i f).bm = s.bm := rfl
@[simp] theorem State.upd_stc (s : State) (i : LineNo) (f : Line → Line) : (s.upd i f).stc = s.stc := rfl
@[simp] theorem State.upd_lp (s : State) (i : LineNo) (f : Line → Line) : (s.upd i f).lp = s.lp := rfl
@[simp] theorem State.upd_nu (s : State) (i : LineNo) (f : Line → Line) : (s.upd i f).nu = s.nu := rfl
@[simp] theorem State.upd_sl (s : State) (i : LineNo) (f : Line → Line) : (s.upd i f).sl = s.sl := rfl
@[simp] theorem State.upd_cnt (s : State) (i : LineNo) (f : Line → Line) : (s.upd i f).cnt = s.cnt := rfl
@[simp] theorem State.upd_freeCount (s : State) (i : LineNo) (f : Line → Line) : (s.upd i f).freeCount = s.freeCount := rfl

/-! `updLif` -/

@[simp] theorem State.updLif_pending (s : State) (i : LineNo) (f : Lif → Lif) : (s.updLif i f).pending = s.pending := rfl
@[simp] theorem State.updLif_now (s : State) (i : LineNo) (f : Lif → Lif) : (s.updLif i f).now = s.now := rfl
@[simp] theorem State.updLif_phase (s : State) (i : LineNo) (f : Lif → Lif) : (s.updLif i f).phase = s.phase := rfl
@[simp] theorem State.updLif_cause (s : State) (i : LineNo) (f : Lif → Lif) : (s.updLif i f).cause = s.cause := rfl
@[simp] theorem State.updLif_gd (s : State) (i : LineNo) (f : Lif → Lif) : (s.updLif i f).gd = s.gd := rfl
@[simp] theorem State.updLif_ct (s : State) (i : LineNo) (f : Lif → Lif) : (s.updLif i f).ct = s.ct := rfl
@[simp] theorem State.updLif_bm (s : State) (i : LineNo) (f : Lif → Lif) : (s.updLif i f).bm = s.bm := rfl
@[simp] theorem State.updLif_stc (s : State) (i : LineNo) (f : Lif → Lif) : (s.updLif i f).stc = s.stc := rfl
@[simp] theorem State.updLif_lp (s : State) (i : LineNo) (f : Lif → Lif) : (s.updLif i f).lp = s.lp := rfl
@[simp] theorem State.updLif_nu (s : State) (i : LineNo) (f : Lif → Lif) : (s.updLif i f).nu = s.nu := rfl
@[simp] theorem State.updLif_sl (s : State) (i : LineNo) (f : Lif → Lif) : (s.updLif i f).sl = s.sl := rfl
@[simp] theorem State.updLif_cnt (s : State) (i : LineNo) (f : Lif → Lif) : (s.updLif i f).cnt = s.cnt := rfl
@[simp] theorem State.updLif_freeCount (s : State) (i : LineNo) (f : Lif → Lif) : (s.updLif i f).freeCount = s.freeCount := rfl
@[simp] theorem State.updLif_line_lif (s : State) (i : LineNo) (f : Lif → Lif) :
    ((s.updLif i f).line i).lif = f (s.line i).lif := by simp [State.updLif]
theorem State.updLif_line_ne (s : State) {i j : LineNo} (f : Lif → Lif) (h : j ≠ i) :
    (s.updLif i f).line j = s.line j := State.line_upd_ne s _ h
@[simp] theorem State.updLif_line_cc (s : State) (i j : LineNo) (f : Lif → Lif) :
    ((s.updLif i f).line j).cc = (s.line j).cc := State.line_upd_part s i j _ _ fun _ => rfl
@[simp] theorem State.updLif_line_tu (s : State) (i j : LineNo) (f : Lif → Lif) :
    ((s.updLif i f).line j).tu = (s.line j).tu := State.line_upd_part s i j _ _ fun _ => rfl
@[simp] theorem State.updLif_line_precRaised (s : State) (i j : LineNo) (f : Lif → Lif) :
    ((s.updLif i f).line j).precRaised = (s.line j).precRaised := State.line_upd_part s i j _ _ fun _ => rfl
@[simp] theorem State.updLif_line_acts (s : State) (i j : LineNo) (f : Lif → Lif) :
    ((s.updLif i f).line j).acts = (s.line j).acts := State.line_upd_part s i j _ _ fun _ => rfl
@[simp] theorem State.updLif_line_dp (s : State) (i j : LineNo) (f : Lif → Lif) :
    ((s.updLif i f).line j).dp = (s.line j).dp := State.line_upd_part s i j _ _ fun _ => rfl
@[simp] theorem State.updLif_line_blc (s : State) (i j : LineNo) (f : Lif → Lif) :
    ((s.updLif i f).line j).blc = (s.line j).blc := State.line_upd_part s i j _ _ fun _ => rfl
@[simp] theorem State.updLif_line_fxc (s : State) (i j : LineNo) (f : Lif → Lif) :
    ((s.updLif i f).line j).fxc = (s.line j).fxc := State.line_upd_part s i j _ _ fun _ => rfl
@[simp] theorem State.updLif_line_window (s : State) (i j : LineNo) (f : Lif → Lif) :
    ((s.updLif i f).line j).window = (s.line j).window := State.line_upd_part s i j _ _ fun _ => rfl
@[simp] theorem State.updLif_line_vc (s : State) (i j : LineNo) (f : Lif → Lif) :
    ((s.updLif i f).line j).vc = (s.line j).vc := State.line_upd_part s i j _ _ fun _ => rfl
@[simp] theorem State.updLif_line_apc (s : State) (i j : LineNo) (f : Lif → Lif) :
    ((s.updLif i f).line j).apc = (s.line j).apc := State.line_upd_part s i j _ _ fun _ => rfl
@[simp] theorem State.updLif_line_cnt (s : State) (i j : LineNo) (f : Lif → Lif) :
    ((s.updLif i f).line j).cnt = (s.line j).cnt := State.line_upd_part s i j _ _ fun _ => rfl

/-! `updCc` -/

@[simp] theorem State.updCc_pending (s : State) (i : LineNo) (f : Cc → Cc) : (s.updCc i f).pending = s.pending := rfl
@[simp] theorem State.updCc_now (s : State) (i : LineNo) (f : Cc → Cc) : (s.updCc i f).now = s.now := rfl
@[simp] theorem State.updCc_phase (s : State) (i : LineNo) (f : Cc → Cc) : (s.updCc i f).phase = s.phase := rfl
@[simp] theorem State.updCc_cause (s : State) (i : LineNo) (f : Cc → Cc) : (s.updCc i f).cause = s.cause := rfl
@[simp] theorem State.updCc_gd (s : State) (i : LineNo) (f : Cc → Cc) : (s.updCc i f).gd = s.gd := rfl
@[simp] theorem State.updCc_ct (s : State) (i : LineNo) (f : Cc → Cc) : (s.updCc i f).ct = s.ct := rfl
@[simp] theorem State.updCc_bm (s : State) (i : LineNo) (f : Cc → Cc) : (s.updCc i f).bm = s.bm := rfl
@[simp] theorem State.updCc_stc (s : State) (i : LineNo) (f : Cc → Cc) : (s.updCc i f).stc = s.stc := rfl
@[simp] theorem State.updCc_lp (s : State) (i : LineNo) (f : Cc → Cc) : (s.updCc i f).lp = s.lp := rfl
@[simp] theorem State.updCc_nu (s : State) (i : LineNo) (f : Cc → Cc) : (s.updCc i f).nu = s.nu := rfl
@[simp] theorem State.updCc_sl (s : State) (i : LineNo) (f : Cc → Cc) : (s.updCc i f).sl = s.sl := rfl
@[simp] theorem State.updCc_cnt (s : State) (i : LineNo) (f : Cc → Cc) : (s.updCc i f).cnt = s.cnt := rfl
@[simp] theorem State.updCc_freeCount (s : State) (i : LineNo) (f : Cc → Cc) : (s.updCc i f).freeCount = s.freeCount := rfl
@[simp] theorem State.updCc_line_cc (s : State) (i : LineNo) (f : Cc → Cc) :
    ((s.updCc i f).line i).cc = f (s.line i).cc := by simp [State.updCc]
theorem State.updCc_line_ne (s : State) {i j : LineNo} (f : Cc → Cc) (h : j ≠ i) :
    (s.updCc i f).line j = s.line j := State.line_upd_ne s _ h
@[simp] theorem State.updCc_line_lif (s : State) (i j : LineNo) (f : Cc → Cc) :
    ((s.updCc i f).line j).lif = (s.line j).lif := State.line_upd_part s i j _ _ fun _ => rfl
@[simp] theorem State.updCc_line_tu (s : State) (i j : LineNo) (f : Cc → Cc) :
    ((s.updCc i f).line j).tu = (s.line j).tu := State.line_upd_part s i j _ _ fun _ => rfl
@[simp] theorem State.updCc_line_precRaised (s : State) (i j : LineNo) (f : Cc → Cc) :
    ((s.updCc i f).line j).precRaised = (s.line j).precRaised := State.line_upd_part s i j _ _ fun _ => rfl
@[simp] theorem State.updCc_line_acts (s : State) (i j : LineNo) (f : Cc → Cc) :
    ((s.updCc i f).line j).acts = (s.line j).acts := State.line_upd_part s i j _ _ fun _ => rfl
@[simp] theorem State.updCc_line_dp (s : State) (i j : LineNo) (f : Cc → Cc) :
    ((s.updCc i f).line j).dp = (s.line j).dp := State.line_upd_part s i j _ _ fun _ => rfl
@[simp] theorem State.updCc_line_blc (s : State) (i j : LineNo) (f : Cc → Cc) :
    ((s.updCc i f).line j).blc = (s.line j).blc := State.line_upd_part s i j _ _ fun _ => rfl
@[simp] theorem State.updCc_line_fxc (s : State) (i j : LineNo) (f : Cc → Cc) :
    ((s.updCc i f).line j).fxc = (s.line j).fxc := State.line_upd_part s i j _ _ fun _ => rfl
@[simp] theorem State.updCc_line_window (s : State) (i j : LineNo) (f : Cc → Cc) :
    ((s.updCc i f).line j).window = (s.line j).window := State.line_upd_part s i j _ _ fun _ => rfl
@[simp] theorem State.updCc_line_vc (s : State) (i j : LineNo) (f : Cc → Cc) :
    ((s.updCc i f).line j).vc = (s.line j).vc := State.line_upd_part s i j _ _ fun _ => rfl
@[simp] theorem State.updCc_line_apc (s : State) (i j : LineNo) (f : Cc → Cc) :
    ((s.updCc i f).line j).apc = (s.line j).apc := State.line_upd_part s i j _ _ fun _ => rfl
@[simp] theorem State.updCc_line_cnt (s : State) (i j : LineNo) (f : Cc → Cc) :
    ((s.updCc i f).line j).cnt = (s.line j).cnt := State.line_upd_part s i j _ _ fun _ => rfl

/-! `updTu` -/

@[simp] theorem State.updTu_pending (s : State) (i : LineNo) (f : Tu → Tu) : (s.updTu i f).pending = s.pending := rfl
@[simp] theorem State.updTu_now (s : State) (i : LineNo) (f : Tu → Tu) : (s.updTu i f).now = s.now := rfl
@[simp] theorem State.updTu_phase (s : State) (i : LineNo) (f : Tu → Tu) : (s.updTu i f).phase = s.phase := rfl
@[simp] theorem State.updTu_cause (s : State) (i : LineNo) (f : Tu → Tu) : (s.updTu i f).cause = s.cause := rfl
@[simp] theorem State.updTu_gd (s : State) (i : LineNo) (f : Tu → Tu) : (s.updTu i f).gd = s.gd := rfl
@[simp] theorem State.updTu_ct (s : State) (i : LineNo) (f : Tu → Tu) : (s.updTu i f).ct = s.ct := rfl
@[simp] theorem State.updTu_bm (s : State) (i : LineNo) (f : Tu → Tu) : (s.updTu i f).bm = s.bm := rfl
@[simp] theorem State.updTu_stc (s : State) (i : LineNo) (f : Tu → Tu) : (s.updTu i f).stc = s.stc := rfl
@[simp] theorem State.updTu_lp (s : State) (i : LineNo) (f : Tu → Tu) : (s.updTu i f).lp = s.lp := rfl
@[simp] theorem State.updTu_nu (s : State) (i : LineNo) (f : Tu → Tu) : (s.updTu i f).nu = s.nu := rfl
@[simp] theorem State.updTu_sl (s : State) (i : LineNo) (f : Tu → Tu) : (s.updTu i f).sl = s.sl := rfl
@[simp] theorem State.updTu_cnt (s : State) (i : LineNo) (f : Tu → Tu) : (s.updTu i f).cnt = s.cnt := rfl
@[simp] theorem State.updTu_freeCount (s : State) (i : LineNo) (f : Tu → Tu) : (s.updTu i f).freeCount = s.freeCount := rfl
@[simp] theorem State.updTu_line_tu (s : State) (i : LineNo) (f : Tu → Tu) :
    ((s.updTu i f).line i).tu = f (s.line i).tu := by simp [State.updTu]
theorem State.updTu_line_ne (s : State) {i j : LineNo} (f : Tu → Tu) (h : j ≠ i) :
    (s.updTu i f).line j = s.line j := State.line_upd_ne s _ h
@[simp] theorem State.updTu_line_lif (s : State) (i j : LineNo) (f : Tu → Tu) :
    ((s.updTu i f).line j).lif = (s.line j).lif := State.line_upd_part s i j _ _ fun _ => rfl
@[simp] theorem State.updTu_line_cc (s : State) (i j : LineNo) (f : Tu → Tu) :
    ((s.updTu i f).line j).cc = (s.line j).cc := State.line_upd_part s i j _ _ fun _ => rfl
@[simp] theorem State.updTu_line_precRaised (s : State) (i j : LineNo) (f : Tu → Tu) :
    ((s.updTu i f).line j).precRaised = (s.line j).precRaised := State.line_upd_part s i j _ _ fun _ => rfl
@[simp] theorem State.updTu_line_acts (s : State) (i j : LineNo) (f : Tu → Tu) :
    ((s.updTu i f).line j).acts = (s.line j).acts := State.line_upd_part s i j _ _ fun _ => rfl
@[simp] theorem State.updTu_line_dp (s : State) (i j : LineNo) (f : Tu → Tu) :
    ((s.updTu i f).line j).dp = (s.line j).dp := State.line_upd_part s i j _ _ fun _ => rfl
@[simp] theorem State.updTu_line_blc (s : State) (i j : LineNo) (f : Tu → Tu) :
    ((s.updTu i f).line j).blc = (s.line j).blc := State.line_upd_part s i j _ _ fun _ => rfl
@[simp] theorem State.updTu_line_fxc (s : State) (i j : LineNo) (f : Tu → Tu) :
    ((s.updTu i f).line j).fxc = (s.line j).fxc := State.line_upd_part s i j _ _ fun _ => rfl
@[simp] theorem State.updTu_line_window (s : State) (i j : LineNo) (f : Tu → Tu) :
    ((s.updTu i f).line j).window = (s.line j).window := State.line_upd_part s i j _ _ fun _ => rfl
@[simp] theorem State.updTu_line_vc (s : State) (i j : LineNo) (f : Tu → Tu) :
    ((s.updTu i f).line j).vc = (s.line j).vc := State.line_upd_part s i j _ _ fun _ => rfl
@[simp] theorem State.updTu_line_apc (s : State) (i j : LineNo) (f : Tu → Tu) :
    ((s.updTu i f).line j).apc = (s.line j).apc := State.line_upd_part s i j _ _ fun _ => rfl
@[simp] theorem State.updTu_line_cnt (s : State) (i j : LineNo) (f : Tu → Tu) :
    ((s.updTu i f).line j).cnt = (s.line j).cnt := State.line_upd_part s i j _ _ fun _ => rfl

/-! `updDp` -/

@[simp] theorem State.updDp_pending (s : State) (i : LineNo) (f : Dp → Dp) : (s.updDp i f).pending = s.pending := rfl
@[simp] theorem State.updDp_now (s : State) (i : LineNo) (f : Dp → Dp) : (s.updDp i f).now = s.now := rfl
@[simp] theorem State.updDp_phase (s : State) (i : LineNo) (f : Dp → Dp) : (s.updDp i f).phase = s.phase := rfl
@[simp] theorem State.updDp_cause (s : State) (i : LineNo) (f : Dp → Dp) : (s.updDp i f).cause = s.cause := rfl
@[simp] theorem State.updDp_gd (s : State) (i : LineNo) (f : Dp → Dp) : (s.updDp i f).gd = s.gd := rfl
@[simp] theorem State.updDp_ct (s : State) (i : LineNo) (f : Dp → Dp) : (s.updDp i f).ct = s.ct := rfl
@[simp] theorem State.updDp_bm (s : State) (i : LineNo) (f : Dp → Dp) : (s.updDp i f).bm = s.bm := rfl
@[simp] theorem State.updDp_stc (s : State) (i : LineNo) (f : Dp → Dp) : (s.updDp i f).stc = s.stc := rfl
@[simp] theorem State.updDp_lp (s : State) (i : LineNo) (f : Dp → Dp) : (s.updDp i f).lp = s.lp := rfl
@[simp] theorem State.updDp_nu (s : State) (i : LineNo) (f : Dp → Dp) : (s.updDp i f).nu = s.nu := rfl
@[simp] theorem State.updDp_sl (s : State) (i : LineNo) (f : Dp → Dp) : (s.updDp i f).sl = s.sl := rfl
@[simp] theorem State.updDp_cnt (s : State) (i : LineNo) (f : Dp → Dp) : (s.updDp i f).cnt = s.cnt := rfl
@[simp] theorem State.updDp_freeCount (s : State) (i : LineNo) (f : Dp → Dp) : (s.updDp i f).freeCount = s.freeCount := rfl
@[simp] theorem State.updDp_line_dp (s : State) (i : LineNo) (f : Dp → Dp) :
    ((s.updDp i f).line i).dp = f (s.line i).dp := by simp [State.updDp]
theorem State.updDp_line_ne (s : State) {i j : LineNo} (f : Dp → Dp) (h : j ≠ i) :
    (s.updDp i f).line j = s.line j := State.line_upd_ne s _ h
@[simp] theorem State.updDp_line_lif (s : State) (i j : LineNo) (f : Dp → Dp) :
    ((s.updDp i f).line j).lif = (s.line j).lif := State.line_upd_part s i j _ _ fun _ => rfl
@[simp] theorem State.updDp_line_cc (s : State) (i j : LineNo) (f : Dp → Dp) :
    ((s.updDp i f).line j).cc = (s.line j).cc := State.line_upd_part s i j _ _ fun _ => rfl
@[simp] theorem State.updDp_line_tu (s : State) (i j : LineNo) (f : Dp → Dp) :
    ((s.updDp i f).line j).tu = (s.line j).tu := State.line_upd_part s i j _ _ fun _ => rfl
@[simp] theorem State.updDp_line_precRaised (s : State) (i j : LineNo) (f : Dp → Dp) :
    ((s.updDp i f).line j).precRaised = (s.line j).precRaised := State.line_upd_part s i j _ _ fun _ => rfl
@[simp] theorem State.updDp_line_acts (s : State) (i j : LineNo) (f : Dp → Dp) :
    ((s.updDp i f).line j).acts = (s.line j).acts := State.line_upd_part s i j _ _ fun _ => rfl
@[simp] theorem State.updDp_line_blc (s : State) (i j : LineNo) (f : Dp → Dp) :
    ((s.updDp i f).line j).blc = (s.line j).blc := State.line_upd_part s i j _ _ fun _ => rfl
@[simp] theorem State.updDp_line_fxc (s : State) (i j : LineNo) (f : Dp → Dp) :
    ((s.updDp i f).line j).fxc = (s.line j).fxc := State.line_upd_part s i j _ _ fun _ => rfl
@[simp] theorem State.updDp_line_window (s : State) (i j : LineNo) (f : Dp → Dp) :
    ((s.updDp i f).line j).window = (s.line j).window := State.line_upd_part s i j _ _ fun _ => rfl
@[simp] theorem State.updDp_line_vc (s : State) (i j : LineNo) (f : Dp → Dp) :
    ((s.updDp i f).line j).vc = (s.line j).vc := State.line_upd_part s i j _ _ fun _ => rfl
@[simp] theorem State.updDp_line_apc (s : State) (i j : LineNo) (f : Dp → Dp) :
    ((s.updDp i f).line j).apc = (s.line j).apc := State.line_upd_part s i j _ _ fun _ => rfl
@[simp] theorem State.updDp_line_cnt (s : State) (i j : LineNo) (f : Dp → Dp) :
    ((s.updDp i f).line j).cnt = (s.line j).cnt := State.line_upd_part s i j _ _ fun _ => rfl

/-! `updBlc` -/

@[simp] theorem State.updBlc_pending (s : State) (i : LineNo) (f : Blc → Blc) : (s.updBlc i f).pending = s.pending := rfl
@[simp] theorem State.updBlc_now (s : State) (i : LineNo) (f : Blc → Blc) : (s.updBlc i f).now = s.now := rfl
@[simp] theorem State.updBlc_phase (s : State) (i : LineNo) (f : Blc → Blc) : (s.updBlc i f).phase = s.phase := rfl
@[simp] theorem State.updBlc_cause (s : State) (i : LineNo) (f : Blc → Blc) : (s.updBlc i f).cause = s.cause := rfl
@[simp] theorem State.updBlc_gd (s : State) (i : LineNo) (f : Blc → Blc) : (s.updBlc i f).gd = s.gd := rfl
@[simp] theorem State.updBlc_ct (s : State) (i : LineNo) (f : Blc → Blc) : (s.updBlc i f).ct = s.ct := rfl
@[simp] theorem State.updBlc_bm (s : State) (i : LineNo) (f : Blc → Blc) : (s.updBlc i f).bm = s.bm := rfl
@[simp] theorem State.updBlc_stc (s : State) (i : LineNo) (f : Blc → Blc) : (s.updBlc i f).stc = s.stc := rfl
@[simp] theorem State.updBlc_lp (s : State) (i : LineNo) (f : Blc → Blc) : (s.updBlc i f).lp = s.lp := rfl
@[simp] theorem State.updBlc_nu (s : State) (i : LineNo) (f : Blc → Blc) : (s.updBlc i f).nu = s.nu := rfl
@[simp] theorem State.updBlc_sl (s : State) (i : LineNo) (f : Blc → Blc) : (s.updBlc i f).sl = s.sl := rfl
@[simp] theorem State.updBlc_cnt (s : State) (i : LineNo) (f : Blc → Blc) : (s.updBlc i f).cnt = s.cnt := rfl
@[simp] theorem State.updBlc_freeCount (s : State) (i : LineNo) (f : Blc → Blc) : (s.updBlc i f).freeCount = s.freeCount := rfl
@[simp] theorem State.updBlc_line_blc (s : State) (i : LineNo) (f : Blc → Blc) :
    ((s.updBlc i f).line i).blc = f (s.line i).blc := by simp [State.updBlc]
theorem State.updBlc_line_ne (s : State) {i j : LineNo} (f : Blc → Blc) (h : j ≠ i) :
    (s.updBlc i f).line j = s.line j := State.line_upd_ne s _ h
@[simp] theorem State.updBlc_line_lif (s : State) (i j : LineNo) (f : Blc → Blc) :
    ((s.updBlc i f).line j).lif = (s.line j).lif := State.line_upd_part s i j _ _ fun _ => rfl
@[simp] theorem State.updBlc_line_cc (s : State) (i j : LineNo) (f : Blc → Blc) :
    ((s.updBlc i f).line j).cc = (s.line j).cc := State.line_upd_part s i j _ _ fun _ => rfl
@[simp] theorem State.updBlc_line_tu (s : State) (i j : LineNo) (f : Blc → Blc) :
    ((s.updBlc i f).line j).tu = (s.line j).tu := State.line_upd_part s i j _ _ fun _ => rfl
@[simp] theorem State.updBlc_line_precRaised (s : State) (i j : LineNo) (f : Blc → Blc) :
    ((s.updBlc i f).line j).precRaised = (s.line j).precRaised := State.line_upd_part s i j _ _ fun _ => rfl
@[simp] theorem State.updBlc_line_acts (s : State) (i j : LineNo) (f : Blc → Blc) :
    ((s.updBlc i f).line j).acts = (s.line j).acts := State.line_upd_part s i j _ _ fun _ => rfl
@[simp] theorem State.updBlc_line_dp (s : State) (i j : LineNo) (f : Blc → Blc) :
    ((s.updBlc i f).line j).dp = (s.line j).dp := State.line_upd_part s i j _ _ fun _ => rfl
@[simp] theorem State.updBlc_line_fxc (s : State) (i j : LineNo) (f : Blc → Blc) :
    ((s.updBlc i f).line j).fxc = (s.line j).fxc := State.line_upd_part s i j _ _ fun _ => rfl
@[simp] theorem State.updBlc_line_window (s : State) (i j : LineNo) (f : Blc → Blc) :
    ((s.updBlc i f).line j).window = (s.line j).window := State.line_upd_part s i j _ _ fun _ => rfl
@[simp] theorem State.updBlc_line_vc (s : State) (i j : LineNo) (f : Blc → Blc) :
    ((s.updBlc i f).line j).vc = (s.line j).vc := State.line_upd_part s i j _ _ fun _ => rfl
@[simp] theorem State.updBlc_line_apc (s : State) (i j : LineNo) (f : Blc → Blc) :
    ((s.updBlc i f).line j).apc = (s.line j).apc := State.line_upd_part s i j _ _ fun _ => rfl
@[simp] theorem State.updBlc_line_cnt (s : State) (i j : LineNo) (f : Blc → Blc) :
    ((s.updBlc i f).line j).cnt = (s.line j).cnt := State.line_upd_part s i j _ _ fun _ => rfl

/-! `updFxc` -/

@[simp] theorem State.updFxc_pending (s : State) (i : LineNo) (f : Fxc → Fxc) : (s.updFxc i f).pending = s.pending := rfl
@[simp] theorem State.updFxc_now (s : State) (i : LineNo) (f : Fxc → Fxc) : (s.updFxc i f).now = s.now := rfl
@[simp] theorem State.updFxc_phase (s : State) (i : LineNo) (f : Fxc → Fxc) : (s.updFxc i f).phase = s.phase := rfl
@[simp] theorem State.updFxc_cause (s : State) (i : LineNo) (f : Fxc → Fxc) : (s.updFxc i f).cause = s.cause := rfl
@[simp] theorem State.updFxc_gd (s : State) (i : LineNo) (f : Fxc → Fxc) : (s.updFxc i f).gd = s.gd := rfl
@[simp] theorem State.updFxc_ct (s : State) (i : LineNo) (f : Fxc → Fxc) : (s.updFxc i f).ct = s.ct := rfl
@[simp] theorem State.updFxc_bm (s : State) (i : LineNo) (f : Fxc → Fxc) : (s.updFxc i f).bm = s.bm := rfl
@[simp] theorem State.updFxc_stc (s : State) (i : LineNo) (f : Fxc → Fxc) : (s.updFxc i f).stc = s.stc := rfl
@[simp] theorem State.updFxc_lp (s : State) (i : LineNo) (f : Fxc → Fxc) : (s.updFxc i f).lp = s.lp := rfl
@[simp] theorem State.updFxc_nu (s : State) (i : LineNo) (f : Fxc → Fxc) : (s.updFxc i f).nu = s.nu := rfl
@[simp] theorem State.updFxc_sl (s : State) (i : LineNo) (f : Fxc → Fxc) : (s.updFxc i f).sl = s.sl := rfl
@[simp] theorem State.updFxc_cnt (s : State) (i : LineNo) (f : Fxc → Fxc) : (s.updFxc i f).cnt = s.cnt := rfl
@[simp] theorem State.updFxc_freeCount (s : State) (i : LineNo) (f : Fxc → Fxc) : (s.updFxc i f).freeCount = s.freeCount := rfl
@[simp] theorem State.updFxc_line_fxc (s : State) (i : LineNo) (f : Fxc → Fxc) :
    ((s.updFxc i f).line i).fxc = f (s.line i).fxc := by simp [State.updFxc]
theorem State.updFxc_line_ne (s : State) {i j : LineNo} (f : Fxc → Fxc) (h : j ≠ i) :
    (s.updFxc i f).line j = s.line j := State.line_upd_ne s _ h
@[simp] theorem State.updFxc_line_lif (s : State) (i j : LineNo) (f : Fxc → Fxc) :
    ((s.updFxc i f).line j).lif = (s.line j).lif := State.line_upd_part s i j _ _ fun _ => rfl
@[simp] theorem State.updFxc_line_cc (s : State) (i j : LineNo) (f : Fxc → Fxc) :
    ((s.updFxc i f).line j).cc = (s.line j).cc := State.line_upd_part s i j _ _ fun _ => rfl
@[simp] theorem State.updFxc_line_tu (s : State) (i j : LineNo) (f : Fxc → Fxc) :
    ((s.updFxc i f).line j).tu = (s.line j).tu := State.line_upd_part s i j _ _ fun _ => rfl
@[simp] theorem State.updFxc_line_precRaised (s : State) (i j : LineNo) (f : Fxc → Fxc) :
    ((s.updFxc i f).line j).precRaised = (s.line j).precRaised := State.line_upd_part s i j _ _ fun _ => rfl
@[simp] theorem State.updFxc_line_acts (s : State) (i j : LineNo) (f : Fxc → Fxc) :
    ((s.updFxc i f).line j).acts = (s.line j).acts := State.line_upd_part s i j _ _ fun _ => rfl
@[simp] theorem State.updFxc_line_dp (s : State) (i j : LineNo) (f : Fxc → Fxc) :
    ((s.updFxc i f).line j).dp = (s.line j).dp := State.line_upd_part s i j _ _ fun _ => rfl
@[simp] theorem State.updFxc_line_blc (s : State) (i j : LineNo) (f : Fxc → Fxc) :
    ((s.updFxc i f).line j).blc = (s.line j).blc := State.line_upd_part s i j _ _ fun _ => rfl
@[simp] theorem State.updFxc_line_window (s : State) (i j : LineNo) (f : Fxc → Fxc) :
    ((s.updFxc i f).line j).window = (s.line j).window := State.line_upd_part s i j _ _ fun _ => rfl
@[simp] theorem State.updFxc_line_vc (s : State) (i j : LineNo) (f : Fxc → Fxc) :
    ((s.updFxc i f).line j).vc = (s.line j).vc := State.line_upd_part s i j _ _ fun _ => rfl
@[simp] theorem State.updFxc_line_apc (s : State) (i j : LineNo) (f : Fxc → Fxc) :
    ((s.updFxc i f).line j).apc = (s.line j).apc := State.line_upd_part s i j _ _ fun _ => rfl
@[simp] theorem State.updFxc_line_cnt (s : State) (i j : LineNo) (f : Fxc → Fxc) :
    ((s.updFxc i f).line j).cnt = (s.line j).cnt := State.line_upd_part s i j _ _ fun _ => rfl

/-! `updVc` -/

@[simp] theorem State.updVc_pending (s : State) (i : LineNo) (f : Vc → Vc) : (s.updVc i f).pending = s.pending := rfl
@[simp] theorem State.updVc_now (s : State) (i : LineNo) (f : Vc → Vc) : (s.updVc i f).now = s.now := rfl
@[simp] theorem State.updVc_phase (s : State) (i : LineNo) (f : Vc → Vc) : (s.updVc i f).phase = s.phase := rfl
@[simp] theorem State.updVc_cause (s : State) (i : LineNo) (f : Vc → Vc) : (s.updVc i f).cause = s.cause := rfl
@[simp] theorem State.updVc_gd (s : State) (i : LineNo) (f : Vc → Vc) : (s.updVc i f).gd = s.gd := rfl
@[simp] theorem State.updVc_ct (s : State) (i : LineNo) (f : Vc → Vc) : (s.updVc i f).ct = s.ct := rfl
@[simp] theorem State.updVc_bm (s : State) (i : LineNo) (f : Vc → Vc) : (s.updVc i f).bm = s.bm := rfl
@[simp] theorem State.updVc_stc (s : State) (i : LineNo) (f : Vc → Vc) : (s.updVc i f).stc = s.stc := rfl
@[simp] theorem State.updVc_lp (s : State) (i : LineNo) (f : Vc → Vc) : (s.updVc i f).lp = s.lp := rfl
@[simp] theorem State.updVc_nu (s : State) (i : LineNo) (f : Vc → Vc) : (s.updVc i f).nu = s.nu := rfl
@[simp] theorem State.updVc_sl (s : State) (i : LineNo) (f : Vc → Vc) : (s.updVc i f).sl = s.sl := rfl
@[simp] theorem State.updVc_cnt (s : State) (i : LineNo) (f : Vc → Vc) : (s.updVc i f).cnt = s.cnt := rfl
@[simp] theorem State.updVc_freeCount (s : State) (i : LineNo) (f : Vc → Vc) : (s.updVc i f).freeCount = s.freeCount := rfl
@[simp] theorem State.updVc_line_vc (s : State) (i : LineNo) (f : Vc → Vc) :
    ((s.updVc i f).line i).vc = f (s.line i).vc := by simp [State.updVc]
theorem State.updVc_line_ne (s : State) {i j : LineNo} (f : Vc → Vc) (h : j ≠ i) :
    (s.updVc i f).line j = s.line j := State.line_upd_ne s _ h
@[simp] theorem State.updVc_line_lif (s : State) (i j : LineNo) (f : Vc → Vc) :
    ((s.updVc i f).line j).lif = (s.line j).lif := State.line_upd_part s i j _ _ fun _ => rfl
@[simp] theorem State.updVc_line_cc (s : State) (i j : LineNo) (f : Vc → Vc) :
    ((s.updVc i f).line j).cc = (s.line j).cc := State.line_upd_part s i j _ _ fun _ => rfl
@[simp] theorem State.updVc_line_tu (s : State) (i j : LineNo) (f : Vc → Vc) :
    ((s.updVc i f).line j).tu = (s.line j).tu := State.line_upd_part s i j _ _ fun _ => rfl
@[simp] theorem State.updVc_line_precRaised (s : State) (i j : LineNo) (f : Vc → Vc) :
    ((s.updVc i f).line j).precRaised = (s.line j).precRaised := State.line_upd_part s i j _ _ fun _ => rfl
@[simp] theorem State.updVc_line_acts (s : State) (i j : LineNo) (f : Vc → Vc) :
    ((s.updVc i f).line j).acts = (s.line j).acts := State.line_upd_part s i j _ _ fun _ => rfl
@[simp] theorem State.updVc_line_dp (s : State) (i j : LineNo) (f : Vc → Vc) :
    ((s.updVc i f).line j).dp = (s.line j).dp := State.line_upd_part s i j _ _ fun _ => rfl
@[simp] theorem State.updVc_line_blc (s : State) (i j : LineNo) (f : Vc → Vc) :
    ((s.updVc i f).line j).blc = (s.line j).blc := State.line_upd_part s i j _ _ fun _ => rfl
@[simp] theorem State.updVc_line_fxc (s : State) (i j : LineNo) (f : Vc → Vc) :
    ((s.updVc i f).line j).fxc = (s.line j).fxc := State.line_upd_part s i j _ _ fun _ => rfl
@[simp] theorem State.updVc_line_window (s : State) (i j : LineNo) (f : Vc → Vc) :
    ((s.updVc i f).line j).window = (s.line j).window := State.line_upd_part s i j _ _ fun _ => rfl
@[simp] theorem State.updVc_line_apc (s : State) (i j : LineNo) (f : Vc → Vc) :
    ((s.updVc i f).line j).apc = (s.line j).apc := State.line_upd_part s i j _ _ fun _ => rfl
@[simp] theorem State.updVc_line_cnt (s : State) (i j : LineNo) (f : Vc → Vc) :
    ((s.updVc i f).line j).cnt = (s.line j).cnt := State.line_upd_part s i j _ _ fun _ => rfl

/-! `updApc` -/

@[simp] theorem State.updApc_pending (s : State) (i : LineNo) (f : Apc → Apc) : (s.updApc i f).pending = s.pending := rfl
@[simp] theorem State.updApc_now (s : State) (i : LineNo) (f : Apc → Apc) : (s.updApc i f).now = s.now := rfl
@[simp] theorem State.updApc_phase (s : State) (i : LineNo) (f : Apc → Apc) : (s.updApc i f).phase = s.phase := rfl
@[simp] theorem State.updApc_cause (s : State) (i : LineNo) (f : Apc → Apc) : (s.updApc i f).cause = s.cause := rfl
@[simp] theorem State.updApc_gd (s : State) (i : LineNo) (f : Apc → Apc) : (s.updApc i f).gd = s.gd := rfl
@[simp] theorem State.updApc_ct (s : State) (i : LineNo) (f : Apc → Apc) : (s.updApc i f).ct = s.ct := rfl
@[simp] theorem State.updApc_bm (s : State) (i : LineNo) (f : Apc → Apc) : (s.updApc i f).bm = s.bm := rfl
@[simp] theorem State.updApc_stc (s : State) (i : LineNo) (f : Apc → Apc) : (s.updApc i f).stc = s.stc := rfl
@[simp] theorem State.updApc_lp (s : State) (i : LineNo) (f : Apc → Apc) : (s.updApc i f).lp = s.lp := rfl
@[simp] theorem State.updApc_nu (s : State) (i : LineNo) (f : Apc → Apc) : (s.updApc i f).nu = s.nu := rfl
@[simp] theorem State.updApc_sl (s : State) (i : LineNo) (f : Apc → Apc) : (s.updApc i f).sl = s.sl := rfl
@[simp] theorem State.updApc_cnt (s : State) (i : LineNo) (f : Apc → Apc) : (s.updApc i f).cnt = s.cnt := rfl
@[simp] theorem State.updApc_freeCount (s : State) (i : LineNo) (f : Apc → Apc) : (s.updApc i f).freeCount = s.freeCount := rfl
@[simp] theorem State.updApc_line_apc (s : State) (i : LineNo) (f : Apc → Apc) :
    ((s.updApc i f).line i).apc = f (s.line i).apc := by simp [State.updApc]
theorem State.updApc_line_ne (s : State) {i j : LineNo} (f : Apc → Apc) (h : j ≠ i) :
    (s.updApc i f).line j = s.line j := State.line_upd_ne s _ h
@[simp] theorem State.updApc_line_lif (s : State) (i j : LineNo) (f : Apc → Apc) :
    ((s.updApc i f).line j).lif = (s.line j).lif := State.line_upd_part s i j _ _ fun _ => rfl
@[simp] theorem State.updApc_line_cc (s : State) (i j : LineNo) (f : Apc → Apc) :
    ((s.updApc i f).line j).cc = (s.line j).cc := State.line_upd_part s i j _ _ fun _ => rfl
@[simp] theorem State.updApc_line_tu (s : State) (i j : LineNo) (f : Apc → Apc) :
    ((s.updApc i f).line j).tu = (s.line j).tu := State.line_upd_part s i j _ _ fun _ => rfl
@[simp] theorem State.updApc_line_precRaised (s : State) (i j : LineNo) (f : Apc → Apc) :
    ((s.updApc i f).line j).precRaised = (s.line j).precRaised := State.line_upd_part s i j _ _ fun _ => rfl
@[simp] theorem State.updApc_line_acts (s : State) (i j : LineNo) (f : Apc → Apc) :
    ((s.updApc i f).line j).acts = (s.line j).acts := State.line_upd_part s i j _ _ fun _ => rfl
@[simp] theorem State.updApc_line_dp (s : State) (i j : LineNo) (f : Apc → Apc) :
    ((s.updApc i f).line j).dp = (s.line j).dp := State.line_upd_part s i j _ _ fun _ => rfl
@[simp] theorem State.updApc_line_blc (s : State) (i j : LineNo) (f : Apc → Apc) :
    ((s.updApc i f).line j).blc = (s.line j).blc := State.line_upd_part s i j _ _ fun _ => rfl
@[simp] theorem State.updApc_line_fxc (s : State) (i j : LineNo) (f : Apc → Apc) :
    ((s.updApc i f).line j).fxc = (s.line j).fxc := State.line_upd_part s i j _ _ fun _ => rfl
@[simp] theorem State.updApc_line_window (s : State) (i j : LineNo) (f : Apc → Apc) :
    ((s.updApc i f).line j).window = (s.line j).window := State.line_upd_part s i j _ _ fun _ => rfl
@[simp] theorem State.updApc_line_vc (s : State) (i j : LineNo) (f : Apc → Apc) :
    ((s.updApc i f).line j).vc = (s.line j).vc := State.line_upd_part s i j _ _ fun _ => rfl
@[simp] theorem State.updApc_line_cnt (s : State) (i j : LineNo) (f : Apc → Apc) :
    ((s.updApc i f).line j).cnt = (s.line j).cnt := State.line_upd_part s i j _ _ fun _ => rfl

/-! `updCnt` -/

@[simp] theorem State.updCnt_pending (s : State) (i : LineNo) (f : LineCounters → LineCounters) : (s.updCnt i f).pending = s.pending := rfl
@[simp] theorem State.updCnt_now (s : State) (i : LineNo) (f : LineCounters → LineCounters) : (s.updCnt i f).now = s.now := rfl
@[simp] theorem State.updCnt_phase (s : State) (i : LineNo) (f : LineCounters → LineCounters) : (s.updCnt i f).phase = s.phase := rfl
@[simp] theorem State.updCnt_cause (s : State) (i : LineNo) (f : LineCounters → LineCounters) : (s.updCnt i f).cause = s.cause := rfl
@[simp] theorem State.updCnt_gd (s : State) (i : LineNo) (f : LineCounters → LineCounters) : (s.updCnt i f).gd = s.gd := rfl
@[simp] theorem State.updCnt_ct (s : State) (i : LineNo) (f : LineCounters → LineCounters) : (s.updCnt i f).ct = s.ct := rfl
@[simp] theorem State.updCnt_bm (s : State) (i : LineNo) (f : LineCounters → LineCounters) : (s.updCnt i f).bm = s.bm := rfl
@[simp] theorem State.updCnt_stc (s : State) (i : LineNo) (f : LineCounters → LineCounters) : (s.updCnt i f).stc = s.stc := rfl
@[simp] theorem State.updCnt_lp (s : State) (i : LineNo) (f : LineCounters → LineCounters) : (s.updCnt i f).lp = s.lp := rfl
@[simp] theorem State.updCnt_nu (s : State) (i : LineNo) (f : LineCounters → LineCounters) : (s.updCnt i f).nu = s.nu := rfl
@[simp] theorem State.updCnt_sl (s : State) (i : LineNo) (f : LineCounters → LineCounters) : (s.updCnt i f).sl = s.sl := rfl
@[simp] theorem State.updCnt_cnt (s : State) (i : LineNo) (f : LineCounters → LineCounters) : (s.updCnt i f).cnt = s.cnt := rfl
@[simp] theorem State.updCnt_freeCount (s : State) (i : LineNo) (f : LineCounters → LineCounters) : (s.updCnt i f).freeCount = s.freeCount := rfl
@[simp] theorem State.updCnt_line_cnt (s : State) (i : LineNo) (f : LineCounters → LineCounters) :
    ((s.updCnt i f).line i).cnt = f (s.line i).cnt := by simp [State.updCnt]
theorem State.updCnt_line_ne (s : State) {i j : LineNo} (f : LineCounters → LineCounters) (h : j ≠ i) :
    (s.updCnt i f).line j = s.line j := State.line_upd_ne s _ h
@[simp] theorem State.updCnt_line_lif (s : State) (i j : LineNo) (f : LineCounters → LineCounters) :
    ((s.updCnt i f).line j).lif = (s.line j).lif := State.line_upd_part s i j _ _ fun _ => rfl
@[simp] theorem State.updCnt_line_cc (s : State) (i j : LineNo) (f : LineCounters → LineCounters) :
    ((s.updCnt i f).line j).cc = (s.line j).cc := State.line_upd_part s i j _ _ fun _ => rfl
@[simp] theorem State.updCnt_line_tu (s : State) (i j : LineNo) (f : LineCounters → LineCounters) :
    ((s.updCnt i f).line j).tu = (s.line j).tu := State.line_upd_part s i j _ _ fun _ => rfl
@[simp] theorem State.updCnt_line_precRaised (s : State) (i j : LineNo) (f : LineCounters → LineCounters) :
    ((s.updCnt i f).line j).precRaised = (s.line j).precRaised := State.line_upd_part s i j _ _ fun _ => rfl
@[simp] theorem State.updCnt_line_acts (s : State) (i j : LineNo) (f : LineCounters → LineCounters) :
    ((s.updCnt i f).line j).acts = (s.line j).acts := State.line_upd_part s i j _ _ fun _ => rfl
@[simp] theorem State.updCnt_line_dp (s : State) (i j : LineNo) (f : LineCounters → LineCounters) :
    ((s.updCnt i f).line j).dp = (s.line j).dp := State.line_upd_part s i j _ _ fun _ => rfl
@[simp] theorem State.updCnt_line_blc (s : State) (i j : LineNo) (f : LineCounters → LineCounters) :
    ((s.updCnt i f).line j).blc = (s.line j).blc := State.line_upd_part s i j _ _ fun _ => rfl
@[simp] theorem State.updCnt_line_fxc (s : State) (i j : LineNo) (f : LineCounters → LineCounters) :
    ((s.updCnt i f).line j).fxc = (s.line j).fxc := State.line_upd_part s i j _ _ fun _ => rfl
@[simp] theorem State.updCnt_line_window (s : State) (i j : LineNo) (f : LineCounters → LineCounters) :
    ((s.updCnt i f).line j).window = (s.line j).window := State.line_upd_part s i j _ _ fun _ => rfl
@[simp] theorem State.updCnt_line_vc (s : State) (i j : LineNo) (f : LineCounters → LineCounters) :
    ((s.updCnt i f).line j).vc = (s.line j).vc := State.line_upd_part s i j _ _ fun _ => rfl
@[simp] theorem State.updCnt_line_apc (s : State) (i j : LineNo) (f : LineCounters → LineCounters) :
    ((s.updCnt i f).line j).apc = (s.line j).apc := State.line_upd_part s i j _ _ fun _ => rfl

/-! `setFlag` -/

@[simp] theorem State.setFlag_pending (s : State) (k : Notice) (i : LineNo) (b : Bool) : (s.setFlag k i b).pending = s.pending := rfl
@[simp] theorem State.setFlag_now (s : State) (k : Notice) (i : LineNo) (b : Bool) : (s.setFlag k i b).now = s.now := rfl
@[simp] theorem State.setFlag_phase (s : State) (k : Notice) (i : LineNo) (b : Bool) : (s.setFlag k i b).phase = s.phase := rfl
@[simp] theorem State.setFlag_cause (s : State) (k : Notice) (i : LineNo) (b : Bool) : (s.setFlag k i b).cause = s.cause := rfl
@[simp] theorem State.setFlag_gd (s : State) (k : Notice) (i : LineNo) (b : Bool) : (s.setFlag k i b).gd = s.gd := rfl
@[simp] theorem State.setFlag_ct (s : State) (k : Notice) (i : LineNo) (b : Bool) : (s.setFlag k i b).ct = s.ct := rfl
@[simp] theorem State.setFlag_bm (s : State) (k : Notice) (i : LineNo) (b : Bool) : (s.setFlag k i b).bm = s.bm := rfl
@[simp] theorem State.setFlag_stc (s : State) (k : Notice) (i : LineNo) (b : Bool) : (s.setFlag k i b).stc = s.stc := rfl
@[simp] theorem State.setFlag_lp (s : State) (k : Notice) (i : LineNo) (b : Bool) : (s.setFlag k i b).lp = s.lp := rfl
@[simp] theorem State.setFlag_sl (s : State) (k : Notice) (i : LineNo) (b : Bool) : (s.setFlag k i b).sl = s.sl := rfl
@[simp] theorem State.setFlag_cnt (s : State) (k : Notice) (i : LineNo) (b : Bool) : (s.setFlag k i b).cnt = s.cnt := rfl
@[simp] theorem State.setFlag_freeCount (s : State) (k : Notice) (i : LineNo) (b : Bool) : (s.setFlag k i b).freeCount = s.freeCount := rfl
@[simp] theorem State.setFlag_lines (s : State) (k : Notice) (i : LineNo) (b : Bool) : (s.setFlag k i b).lines = s.lines := rfl
@[simp] theorem State.setFlag_line (s : State) (k : Notice) (i : LineNo) (b : Bool) (j : LineNo) : (s.setFlag k i b).line j = s.line j := rfl

/-! `raise` -/

@[simp] theorem State.raise_pending (s : State) (k : Notice) (i : LineNo) : (s.raise k i).pending = s.pending := rfl
@[simp] theorem State.raise_now (s : State) (k : Notice) (i : LineNo) : (s.raise k i).now = s.now := rfl
@[simp] theorem State.raise_phase (s : State) (k : Notice) (i : LineNo) : (s.raise k i).phase = s.phase := rfl
@[simp] theorem State.raise_cause (s : State) (k : Notice) (i : LineNo) : (s.raise k i).cause = s.cause := rfl
@[simp] theorem State.raise_gd (s : State) (k : Notice) (i : LineNo) : (s.raise k i).gd = s.gd := rfl
@[simp] theorem State.raise_ct (s : State) (k : Notice) (i : LineNo) : (s.raise k i).ct = s.ct := rfl
@[simp] theorem State.raise_bm (s : State) (k : Notice) (i : LineNo) : (s.raise k i).bm = s.bm := rfl
@[simp] theorem State.raise_stc (s : State) (k : Notice) (i : LineNo) : (s.raise k i).stc = s.stc := rfl
@[simp] theorem State.raise_lp (s : State) (k : Notice) (i : LineNo) : (s.raise k i).lp = s.lp := rfl
@[simp] theorem State.raise_sl (s : State) (k : Notice) (i : LineNo) : (s.raise k i).sl = s.sl := rfl
@[simp] theorem State.raise_cnt (s : State) (k : Notice) (i : LineNo) : (s.raise k i).cnt = s.cnt := rfl
@[simp] theorem State.raise_freeCount (s : State) (k : Notice) (i : LineNo) : (s.raise k i).freeCount = s.freeCount := rfl
@[simp] theorem State.raise_lines (s : State) (k : Notice) (i : LineNo) : (s.raise k i).lines = s.lines := rfl
@[simp] theorem State.raise_line (s : State) (k : Notice) (i : LineNo) (j : LineNo) : (s.raise k i).line j = s.line j := rfl

/-! `raisePart` -/

@[simp] theorem State.raisePart_pending (s : State) (k : Notice) : (s.raisePart k).pending = s.pending := rfl
@[simp] theorem State.raisePart_now (s : State) (k : Notice) : (s.raisePart k).now = s.now := rfl
@[simp] theorem State.raisePart_phase (s : State) (k : Notice) : (s.raisePart k).phase = s.phase := rfl
@[simp] theorem State.raisePart_cause (s : State) (k : Notice) : (s.raisePart k).cause = s.cause := rfl
@[simp] theorem State.raisePart_gd (s : State) (k : Notice) : (s.raisePart k).gd = s.gd := rfl
@[simp] theorem State.raisePart_ct (s : State) (k : Notice) : (s.raisePart k).ct = s.ct := rfl
@[simp] theorem State.raisePart_bm (s : State) (k : Notice) : (s.raisePart k).bm = s.bm := rfl
@[simp] theorem State.raisePart_stc (s : State) (k : Notice) : (s.raisePart k).stc = s.stc := rfl
@[simp] theorem State.raisePart_lp (s : State) (k : Notice) : (s.raisePart k).lp = s.lp := rfl
@[simp] theorem State.raisePart_sl (s : State) (k : Notice) : (s.raisePart k).sl = s.sl := rfl
@[simp] theorem State.raisePart_cnt (s : State) (k : Notice) : (s.raisePart k).cnt = s.cnt := rfl
@[simp] theorem State.raisePart_freeCount (s : State) (k : Notice) : (s.raisePart k).freeCount = s.freeCount := rfl
@[simp] theorem State.raisePart_lines (s : State) (k : Notice) : (s.raisePart k).lines = s.lines := rfl
@[simp] theorem State.raisePart_line (s : State) (k : Notice) (j : LineNo) : (s.raisePart k).line j = s.line j := rfl

/-! `reach` -/

@[simp] theorem State.reach_pending (s : State) (d : Nat) : (s.reach d).pending = s.pending := rfl
@[simp] theorem State.reach_phase (s : State) (d : Nat) : (s.reach d).phase = s.phase := rfl
@[simp] theorem State.reach_cause (s : State) (d : Nat) : (s.reach d).cause = s.cause := rfl
@[simp] theorem State.reach_gd (s : State) (d : Nat) : (s.reach d).gd = s.gd := rfl
@[simp] theorem State.reach_ct (s : State) (d : Nat) : (s.reach d).ct = s.ct := rfl
@[simp] theorem State.reach_bm (s : State) (d : Nat) : (s.reach d).bm = s.bm := rfl
@[simp] theorem State.reach_stc (s : State) (d : Nat) : (s.reach d).stc = s.stc := rfl
@[simp] theorem State.reach_lp (s : State) (d : Nat) : (s.reach d).lp = s.lp := rfl
@[simp] theorem State.reach_nu (s : State) (d : Nat) : (s.reach d).nu = s.nu := rfl
@[simp] theorem State.reach_sl (s : State) (d : Nat) : (s.reach d).sl = s.sl := rfl
@[simp] theorem State.reach_cnt (s : State) (d : Nat) : (s.reach d).cnt = s.cnt := rfl
@[simp] theorem State.reach_freeCount (s : State) (d : Nat) : (s.reach d).freeCount = s.freeCount := rfl
@[simp] theorem State.reach_lines (s : State) (d : Nat) : (s.reach d).lines = s.lines := rfl
@[simp] theorem State.reach_line (s : State) (d : Nat) (j : LineNo) : (s.reach d).line j = s.line j := rfl

/-! `trim` -/

@[simp] theorem State.trim_pending (s : State) (id n : Nat) : (s.trim id n).pending = s.pending := rfl
@[simp] theorem State.trim_now (s : State) (id n : Nat) : (s.trim id n).now = s.now := rfl
@[simp] theorem State.trim_phase (s : State) (id n : Nat) : (s.trim id n).phase = s.phase := rfl
@[simp] theorem State.trim_cause (s : State) (id n : Nat) : (s.trim id n).cause = s.cause := rfl
@[simp] theorem State.trim_gd (s : State) (id n : Nat) : (s.trim id n).gd = s.gd := rfl
@[simp] theorem State.trim_ct (s : State) (id n : Nat) : (s.trim id n).ct = s.ct := rfl
@[simp] theorem State.trim_bm (s : State) (id n : Nat) : (s.trim id n).bm = s.bm := rfl
@[simp] theorem State.trim_lp (s : State) (id n : Nat) : (s.trim id n).lp = s.lp := rfl
@[simp] theorem State.trim_nu (s : State) (id n : Nat) : (s.trim id n).nu = s.nu := rfl
@[simp] theorem State.trim_sl (s : State) (id n : Nat) : (s.trim id n).sl = s.sl := rfl
@[simp] theorem State.trim_cnt (s : State) (id n : Nat) : (s.trim id n).cnt = s.cnt := rfl
@[simp] theorem State.trim_freeCount (s : State) (id n : Nat) : (s.trim id n).freeCount = s.freeCount := rfl
@[simp] theorem State.trim_lines (s : State) (id n : Nat) : (s.trim id n).lines = s.lines := rfl
@[simp] theorem State.trim_line (s : State) (id n : Nat) (j : LineNo) : (s.trim id n).line j = s.line j := rfl

/-! `freeEntry` -/

@[simp] theorem State.freeEntry_pending (s : State) (id : Nat) : (s.freeEntry id).pending = s.pending := rfl
@[simp] theorem State.freeEntry_now (s : State) (id : Nat) : (s.freeEntry id).now = s.now := rfl
@[simp] theorem State.freeEntry_phase (s : State) (id : Nat) : (s.freeEntry id).phase = s.phase := rfl
@[simp] theorem State.freeEntry_cause (s : State) (id : Nat) : (s.freeEntry id).cause = s.cause := rfl
@[simp] theorem State.freeEntry_gd (s : State) (id : Nat) : (s.freeEntry id).gd = s.gd := rfl
@[simp] theorem State.freeEntry_ct (s : State) (id : Nat) : (s.freeEntry id).ct = s.ct := rfl
@[simp] theorem State.freeEntry_bm (s : State) (id : Nat) : (s.freeEntry id).bm = s.bm := rfl
@[simp] theorem State.freeEntry_lp (s : State) (id : Nat) : (s.freeEntry id).lp = s.lp := rfl
@[simp] theorem State.freeEntry_nu (s : State) (id : Nat) : (s.freeEntry id).nu = s.nu := rfl
@[simp] theorem State.freeEntry_sl (s : State) (id : Nat) : (s.freeEntry id).sl = s.sl := rfl
@[simp] theorem State.freeEntry_cnt (s : State) (id : Nat) : (s.freeEntry id).cnt = s.cnt := rfl
@[simp] theorem State.freeEntry_freeCount (s : State) (id : Nat) : (s.freeEntry id).freeCount = s.freeCount := rfl
@[simp] theorem State.freeEntry_lines (s : State) (id : Nat) : (s.freeEntry id).lines = s.lines := rfl
@[simp] theorem State.freeEntry_line (s : State) (id : Nat) (j : LineNo) : (s.freeEntry id).line j = s.line j := rfl

/-! `withLive` -/

@[simp] theorem State.withLive_pending (s : State) (t : Settings) : (s.withLive t).pending = s.pending := rfl
@[simp] theorem State.withLive_now (s : State) (t : Settings) : (s.withLive t).now = s.now := rfl
@[simp] theorem State.withLive_phase (s : State) (t : Settings) : (s.withLive t).phase = s.phase := rfl
@[simp] theorem State.withLive_cause (s : State) (t : Settings) : (s.withLive t).cause = s.cause := rfl
@[simp] theorem State.withLive_gd (s : State) (t : Settings) : (s.withLive t).gd = s.gd := rfl
@[simp] theorem State.withLive_ct (s : State) (t : Settings) : (s.withLive t).ct = s.ct := rfl
@[simp] theorem State.withLive_bm (s : State) (t : Settings) : (s.withLive t).bm = s.bm := rfl
@[simp] theorem State.withLive_stc (s : State) (t : Settings) : (s.withLive t).stc = s.stc := rfl
@[simp] theorem State.withLive_lp (s : State) (t : Settings) : (s.withLive t).lp = s.lp := rfl
@[simp] theorem State.withLive_nu (s : State) (t : Settings) : (s.withLive t).nu = s.nu := rfl
@[simp] theorem State.withLive_cnt (s : State) (t : Settings) : (s.withLive t).cnt = s.cnt := rfl
@[simp] theorem State.withLive_freeCount (s : State) (t : Settings) : (s.withLive t).freeCount = s.freeCount := rfl
@[simp] theorem State.withLive_lines (s : State) (t : Settings) : (s.withLive t).lines = s.lines := rfl
@[simp] theorem State.withLive_line (s : State) (t : Settings) (j : LineNo) : (s.withLive t).line j = s.line j := rfl

/-! `addReply` -/

@[simp] theorem State.addReply_pending (s : State) (r : Reply) : (s.addReply r).pending = s.pending := rfl
@[simp] theorem State.addReply_now (s : State) (r : Reply) : (s.addReply r).now = s.now := rfl
@[simp] theorem State.addReply_phase (s : State) (r : Reply) : (s.addReply r).phase = s.phase := rfl
@[simp] theorem State.addReply_cause (s : State) (r : Reply) : (s.addReply r).cause = s.cause := rfl
@[simp] theorem State.addReply_gd (s : State) (r : Reply) : (s.addReply r).gd = s.gd := rfl
@[simp] theorem State.addReply_ct (s : State) (r : Reply) : (s.addReply r).ct = s.ct := rfl
@[simp] theorem State.addReply_bm (s : State) (r : Reply) : (s.addReply r).bm = s.bm := rfl
@[simp] theorem State.addReply_stc (s : State) (r : Reply) : (s.addReply r).stc = s.stc := rfl
@[simp] theorem State.addReply_nu (s : State) (r : Reply) : (s.addReply r).nu = s.nu := rfl
@[simp] theorem State.addReply_sl (s : State) (r : Reply) : (s.addReply r).sl = s.sl := rfl
@[simp] theorem State.addReply_cnt (s : State) (r : Reply) : (s.addReply r).cnt = s.cnt := rfl
@[simp] theorem State.addReply_freeCount (s : State) (r : Reply) : (s.addReply r).freeCount = s.freeCount := rfl
@[simp] theorem State.addReply_lines (s : State) (r : Reply) : (s.addReply r).lines = s.lines := rfl
@[simp] theorem State.addReply_line (s : State) (r : Reply) (j : LineNo) : (s.addReply r).line j = s.line j := rfl

/-! `hunt` -/

@[simp] theorem State.hunt_pending (s : State) : (s.hunt).pending = s.pending := rfl
@[simp] theorem State.hunt_now (s : State) : (s.hunt).now = s.now := rfl
@[simp] theorem State.hunt_phase (s : State) : (s.hunt).phase = s.phase := rfl
@[simp] theorem State.hunt_cause (s : State) : (s.hunt).cause = s.cause := rfl
@[simp] theorem State.hunt_gd (s : State) : (s.hunt).gd = s.gd := rfl
@[simp] theorem State.hunt_ct (s : State) : (s.hunt).ct = s.ct := rfl
@[simp] theorem State.hunt_bm (s : State) : (s.hunt).bm = s.bm := rfl
@[simp] theorem State.hunt_stc (s : State) : (s.hunt).stc = s.stc := rfl
@[simp] theorem State.hunt_nu (s : State) : (s.hunt).nu = s.nu := rfl
@[simp] theorem State.hunt_sl (s : State) : (s.hunt).sl = s.sl := rfl
@[simp] theorem State.hunt_cnt (s : State) : (s.hunt).cnt = s.cnt := rfl
@[simp] theorem State.hunt_freeCount (s : State) : (s.hunt).freeCount = s.freeCount := rfl
@[simp] theorem State.hunt_lines (s : State) : (s.hunt).lines = s.lines := rfl
@[simp] theorem State.hunt_line (s : State) (j : LineNo) : (s.hunt).line j = s.line j := rfl

/-! `collect` -/

@[simp] theorem State.collect_pending (s : State) (b : List Byte) : (s.collect b).pending = s.pending := rfl
@[simp] theorem State.collect_now (s : State) (b : List Byte) : (s.collect b).now = s.now := rfl
@[simp] theorem State.collect_phase (s : State) (b : List Byte) : (s.collect b).phase = s.phase := rfl
@[simp] theorem State.collect_cause (s : State) (b : List Byte) : (s.collect b).cause = s.cause := rfl
@[simp] theorem State.collect_gd (s : State) (b : List Byte) : (s.collect b).gd = s.gd := rfl
@[simp] theorem State.collect_ct (s : State) (b : List Byte) : (s.collect b).ct = s.ct := rfl
@[simp] theorem State.collect_bm (s : State) (b : List Byte) : (s.collect b).bm = s.bm := rfl
@[simp] theorem State.collect_stc (s : State) (b : List Byte) : (s.collect b).stc = s.stc := rfl
@[simp] theorem State.collect_nu (s : State) (b : List Byte) : (s.collect b).nu = s.nu := rfl
@[simp] theorem State.collect_sl (s : State) (b : List Byte) : (s.collect b).sl = s.sl := rfl
@[simp] theorem State.collect_cnt (s : State) (b : List Byte) : (s.collect b).cnt = s.cnt := rfl
@[simp] theorem State.collect_freeCount (s : State) (b : List Byte) : (s.collect b).freeCount = s.freeCount := rfl
@[simp] theorem State.collect_lines (s : State) (b : List Byte) : (s.collect b).lines = s.lines := rfl
@[simp] theorem State.collect_line (s : State) (b : List Byte) (j : LineNo) : (s.collect b).line j = s.line j := rfl

/-! `tick` -/

@[simp] theorem State.tick_pending (s : State) : (s.tick).pending = s.pending := rfl
@[simp] theorem State.tick_phase (s : State) : (s.tick).phase = s.phase := rfl
@[simp] theorem State.tick_cause (s : State) : (s.tick).cause = s.cause := rfl
@[simp] theorem State.tick_gd (s : State) : (s.tick).gd = s.gd := rfl
@[simp] theorem State.tick_ct (s : State) : (s.tick).ct = s.ct := rfl
@[simp] theorem State.tick_bm (s : State) : (s.tick).bm = s.bm := rfl
@[simp] theorem State.tick_stc (s : State) : (s.tick).stc = s.stc := rfl
@[simp] theorem State.tick_lp (s : State) : (s.tick).lp = s.lp := rfl
@[simp] theorem State.tick_nu (s : State) : (s.tick).nu = s.nu := rfl
@[simp] theorem State.tick_sl (s : State) : (s.tick).sl = s.sl := rfl
@[simp] theorem State.tick_cnt (s : State) : (s.tick).cnt = s.cnt := rfl
@[simp] theorem State.tick_freeCount (s : State) : (s.tick).freeCount = s.freeCount := rfl
@[simp] theorem State.tick_lines (s : State) : (s.tick).lines = s.lines := rfl
@[simp] theorem State.tick_line (s : State) (j : LineNo) : (s.tick).line j = s.line j := rfl

@[simp] theorem State.reach_now (s : State) (d : Nat) : (s.reach d).now = max s.now d := rfl

@[simp] theorem State.tick_now (s : State) : s.tick.now = s.now + 1 := rfl

/-! ## The call-progress tone detector -/

@[simp] theorem Tu.cpStops_cp (t : Tu) : t.cpStops.cp = .quiet := rfl
@[simp] theorem Tu.cpStops_toneInFrame (t : Tu) : t.cpStops.toneInFrame = false := rfl
@[simp] theorem Tu.cpStops_clid (t : Tu) : t.cpStops.clid = t.clid := rfl
@[simp] theorem Tu.cpStops_toneList (t : Tu) : t.cpStops.toneList = t.toneList := rfl
@[simp] theorem Tu.cpStops_toneDue (t : Tu) : t.cpStops.toneDue = t.toneDue := rfl
@[simp] theorem Tu.cpStops_digits (t : Tu) : t.cpStops.digits = t.digits := rfl
@[simp] theorem Tu.cpStops_toneHeard (t : Tu) : t.cpStops.toneHeard = false := rfl

/-! ## The bits of the hand-out -/

@[simp] theorem State.settled_due (s : State) : s.settled.bm.due = false := rfl
@[simp] theorem State.settled_offer (s : State) : s.settled.bm.offer = false := rfl
@[simp] theorem State.settled_pending (s : State) : s.settled.pending = s.pending := rfl
@[simp] theorem State.settled_now (s : State) : s.settled.now = s.now := rfl
@[simp] theorem State.settled_phase (s : State) : s.settled.phase = s.phase := rfl
@[simp] theorem State.settled_cause (s : State) : s.settled.cause = s.cause := rfl
@[simp] theorem State.settled_gd (s : State) : s.settled.gd = s.gd := rfl
@[simp] theorem State.settled_ct (s : State) : s.settled.ct = s.ct := rfl
@[simp] theorem State.settled_stc (s : State) : s.settled.stc = s.stc := rfl
@[simp] theorem State.settled_lp (s : State) : s.settled.lp = s.lp := rfl
@[simp] theorem State.settled_nu (s : State) : s.settled.nu = s.nu := rfl
@[simp] theorem State.settled_sl (s : State) : s.settled.sl = s.sl := rfl
@[simp] theorem State.settled_cnt (s : State) : s.settled.cnt = s.cnt := rfl
@[simp] theorem State.settled_freeCount (s : State) : s.settled.freeCount = s.freeCount := rfl
@[simp] theorem State.settled_lines (s : State) : s.settled.lines = s.lines := rfl
@[simp] theorem State.settled_line (s : State) (j : LineNo) : s.settled.line j = s.line j := rfl
@[simp] theorem State.settled_settled (s : State) : s.settled.settled = s.settled := rfl

/-- A state in which no release waits is settled. -/
theorem State.settled_of_clear {s : State} (h : s.bm.due = false) (h' : s.bm.offer = false) : s.settled = s := by
  rcases s with ⟨_, _, _, _, _, _, _, ⟨_, _, d, o⟩, _, _, _, _, _, _⟩
  simp_all [State.settled]

end Sys2Proof.Machine
end

