-- ==== Sys2Proof/Laws/Memory.lean ====
section
/-! SUPPORT. The store memory (R116, log 8): every memory operation keeps the canonical form, a read gives what was last
written, and every other operation leaves the memory as it is. -/

set_option linter.unusedSimpArgs false

namespace Sys2Proof.Machine

open Sys2Proof

/-! ## One byte -/

theorem memWrite_keys (a : Nat) (b : Byte) : ∀ (m : List Host.Cell), ∀ c ∈ memWrite m a b, c ∈ m ∨ c.1 = a
  | [], c, h => by
    unfold memWrite at h; split at h <;> simp_all
  | x :: r, c, h => by
    unfold memWrite at h
    split at h
    · split at h
      · exact Or.inl h
      · rcases List.mem_cons.1 h with h | h
        · exact Or.inr (by rw [h])
        · exact Or.inl h
    · split at h
      · split at h
        · exact Or.inl (List.mem_cons_of_mem _ h)
        · rcases List.mem_cons.1 h with h | h
          · exact Or.inr (by rw [h])
          · exact Or.inl (List.mem_cons_of_mem _ h)
      · rcases List.mem_cons.1 h with h | h
        · exact Or.inl (by simp [h])
        · rcases memWrite_keys a b r c h with h | h
          · exact Or.inl (List.mem_cons_of_mem _ h)
          · exact Or.inr h

/-- A write keeps the canonical form. -/
theorem memWrite_wf (a : Nat) (b : Byte) : ∀ (m : List Host.Cell), memWf m → memWf (memWrite m a b)
  | [], _ => by
    unfold memWrite; split <;> simp_all [memWf]
  | x :: r, h => by
    obtain ⟨hp, hz⟩ := h
    obtain ⟨hx, hr⟩ := List.pairwise_cons.1 hp
    have wr : memWf r := ⟨hr, fun c hc => hz c (List.mem_cons_of_mem _ hc)⟩
    have zx : x.2 ≠ unlistedByte := hz x (by simp)
    unfold memWrite
    split
    · next lt =>
      split
      · exact ⟨hp, hz⟩
      · next nz =>
        refine ⟨List.pairwise_cons.2 ⟨fun c hc => ?_, hp⟩, fun c hc => ?_⟩
        · rcases List.mem_cons.1 hc with h | h
          · rw [h]; exact lt
          · exact Nat.lt_trans lt (hx c h)
        · rcases List.mem_cons.1 hc with h | h
          · rw [h]; exact nz
          · exact hz c h
    · next nlt =>
      split
      · next eq =>
        split
        · exact wr
        · next nz =>
          refine ⟨List.pairwise_cons.2 ⟨fun c hc => ?_, hr⟩, fun c hc => ?_⟩
          · have := hx c hc
            simp only; omega
          · rcases List.mem_cons.1 hc with h | h
            · rw [h]; exact nz
            · exact wr.2 c h
      · next ne =>
        have w := memWrite_wf a b r wr
        refine ⟨List.pairwise_cons.2 ⟨fun c hc => ?_, w.1⟩, fun c hc => ?_⟩
        · rcases memWrite_keys a b r c hc with h | h
          · exact hx c h
          · omega
        · rcases List.mem_cons.1 hc with h | h
          · rw [h]; exact zx
          · exact w.2 c h

theorem memRead_below {m : List Host.Cell} {a : Nat} (h : ∀ c ∈ m, a < c.1) : memRead m a = unlistedByte := by
  induction m with
  | nil => rfl
  | cons x r ih =>
    have : x.1 ≠ a := by have := h x (by simp); omega
    simp [memRead, this, ih fun c hc => h c (List.mem_cons_of_mem _ hc)]

/-- A read at the address written gives the byte written. -/
theorem memRead_memWrite_self (a : Nat) (b : Byte) : ∀ (m : List Host.Cell), memWf m → memRead (memWrite m a b) a = b
  | [], _ => by unfold memWrite; split <;> simp_all [memRead]
  | x :: r, h => by
    obtain ⟨hp, hz⟩ := h
    obtain ⟨hx, hr⟩ := List.pairwise_cons.1 hp
    have wr : memWf r := ⟨hr, fun c hc => hz c (List.mem_cons_of_mem _ hc)⟩
    unfold memWrite
    split
    · next lt =>
      split
      · next z =>
        rw [z]
        refine memRead_below fun c hc => ?_
        rcases List.mem_cons.1 hc with h | h
        · rw [h]; exact lt
        · exact Nat.lt_trans lt (hx c h)
      · simp [memRead]
    · split
      · next eq =>
        split
        · next z => rw [z]; exact memRead_below fun c hc => by have := hx c hc; omega
        · simp [memRead]
      · next ne =>
        have : x.1 ≠ a := fun e => ne e.symm
        simp [memRead, this, memRead_memWrite_self a b r wr]

/-- A write leaves every other address as it reads. -/
theorem memRead_memWrite_ne {a x : Nat} (b : Byte) (hne : x ≠ a) :
    ∀ (m : List Host.Cell), memWf m → memRead (memWrite m a b) x = memRead m x
  | [], _ => by
    unfold memWrite; split
    · rfl
    · simp [memRead, Ne.symm hne]
  | c :: r, h => by
    obtain ⟨hp, hz⟩ := h
    obtain ⟨hx, hr⟩ := List.pairwise_cons.1 hp
    have wr : memWf r := ⟨hr, fun c hc => hz c (List.mem_cons_of_mem _ hc)⟩
    unfold memWrite
    split
    · split
      · rfl
      · simp [memRead, Ne.symm hne]
    · split
      · next eq =>
        have cx : c.1 ≠ x := by omega
        split
        · simp [memRead, cx]
        · simp [memRead, cx, Ne.symm hne]
      · by_cases e : c.1 = x
        · simp [memRead, e]
        · simp [memRead, e, memRead_memWrite_ne b hne r wr]

/-! ## Ranges -/

theorem memWf_filter {m : List Host.Cell} (p : Host.Cell → Bool) (h : memWf m) : memWf (m.filter p) :=
  ⟨h.1.filter p, fun c hc => h.2 c (List.mem_filter.1 hc).1⟩

theorem memClear_wf {m : List Host.Cell} (a n : Nat) (h : memWf m) : memWf (memClear m a n) := memWf_filter _ h

theorem memCopy_wf {m : List Host.Cell} (src dst n : Nat) (h : memWf m) : memWf (memCopy m src dst n) := by
  unfold memCopy
  suffices ∀ (l : List Host.Cell) (x : List Host.Cell), memWf x →
      memWf (l.foldl (fun acc c => memWrite acc (c.1 - src + dst) c.2) x) from this _ _ (memClear_wf _ _ h)
  intro l
  induction l with
  | nil => intro x hx; exact hx
  | cons c r ih => intro x hx; exact ih _ (memWrite_wf _ _ _ hx)

/-! ## The store's own operations -/

@[simp] theorem Stc.setEntry_mem (t : Stc) (id : Nat) (e : Option Entry) : (t.setEntry id e).mem = t.mem := rfl
@[simp] theorem Stc.updEntry_mem (t : Stc) (id : Nat) (f : Entry → Entry) : (t.updEntry id f).mem = t.mem := rfl
@[simp] theorem Stc.damage_mem (t : Stc) (id : Nat) : (t.damage id).mem = t.mem := rfl
@[simp] theorem Stc.startMove_mem (t : Stc) (now id new : Nat) : (t.startMove now id new).mem = t.mem := rfl
@[simp] theorem Stc.soft_mem (t : Stc) : t.soft.mem = t.mem := rfl

theorem Stc.alloc_mem {t t' : Stc} {k : EntryKind} {n id : Nat} {b : Entry → Entry}
    (h : t.alloc k n b = .ok (t', id)) : t'.mem = t.mem := by
  unfold Stc.alloc at h
  split at h
  · cases h
  · split at h
    · cases h
    · cases h; rfl

theorem Stc.cover_mem {t t' : Stc} {id p : Nat} (h : t.cover id p = some t') : t'.mem = t.mem := by
  unfold Stc.cover at h
  (repeat' split at h) <;> cases h <;> rfl

theorem Stc.writeByte_wf {t : Stc} (a : Nat) (b : Byte) (h : memWf t.mem) : memWf (t.writeByte a b).mem :=
  memWrite_wf a b _ h

theorem Stc.writeBytes_wf (l : List Byte) : ∀ {t : Stc} (a : Nat), memWf t.mem → memWf (t.writeBytes a l).mem := by
  induction l with
  | nil => intro t a h; exact h
  | cons b r ih => intro t a h; exact ih (a + 1) (Stc.writeByte_wf a b h)

theorem Stc.zero_wf {t : Stc} (a n : Nat) (h : memWf t.mem) : memWf (t.zero a n).mem := memClear_wf a n h

theorem Stc.writeHeader_wf {t : Stc} (id : Nat) (e : Entry) (k : Nat) (p : Int) (x : Nat) (h : memWf t.mem) :
    memWf (t.writeHeader id e k p x).mem := Stc.writeBytes_wf _ _ h

theorem Stc.appendByte_wf {t : Stc} (id : Nat) (x : Int × Nat) (b : Byte) (h : memWf t.mem) :
    memWf (t.appendByte id x b).mem := by
  unfold Stc.appendByte
  split
  · exact h
  · simp only [Stc.updEntry_mem]
    split
    · exact Stc.writeByte_wf _ _ (Stc.writeHeader_wf _ _ _ _ _ h)
    · exact Stc.writeByte_wf _ _ h

theorem Stc.zeroPart_wf {t : Stc} (id p c : Nat) (h : memWf t.mem) : memWf (t.zeroPart id p c).mem := by
  unfold Stc.zeroPart
  split
  · exact h
  · next e _ =>
    simp only [Stc.updEntry_mem]
    suffices ∀ (l : List Nat) (x : Stc), memWf x.mem →
        memWf (l.foldl (fun t k => t.zero (t.addr id e (p * 16384 + k * 1024)) (min 1024 (c * 128 - k * 1024))) x).mem
      from this _ _ h
    intro l
    induction l with
    | nil => intro x hx; exact hx
    | cons k r ih => intro x hx; exact ih _ (Stc.zero_wf _ _ hx)

theorem Stc.copyCell_wf {t : Stc} (e : Entry) (src dst : Nat) (h : memWf t.mem) : memWf (t.copyCell e src dst).mem := by
  unfold Stc.copyCell
  simp only
  split
  · exact Stc.writeBytes_wf _ _ (memCopy_wf _ _ _ h)
  · exact memCopy_wf _ _ _ h

theorem State.mem_foldl {α : Type} (f : State → α → State) (h : ∀ s a, (f s a).stc.mem = s.stc.mem) :
    ∀ (l : List α) (s : State), (l.foldl f s).stc.mem = s.stc.mem
  | [], _ => rfl
  | a :: r, s => by rw [List.foldl_cons, State.mem_foldl f h r, h]

/-! ## Operations that leave the memory as it is, and those that write it -/

@[simp] theorem State.setFlag_mem (s : State) (k : Notice) (i : LineNo) (b : Bool) :
    (s.setFlag k i b).stc.mem = s.stc.mem := rfl

@[simp] theorem State.raise_mem (s : State) (k : Notice) (i : LineNo) :
    (s.raise k i).stc.mem = s.stc.mem := rfl

@[simp] theorem State.raisePart_mem (s : State) (k : Notice) :
    (s.raisePart k).stc.mem = s.stc.mem := rfl

@[simp] theorem State.upd_mem (s : State) (i : LineNo) (f : Line → Line) :
    (s.upd i f).stc.mem = s.stc.mem := rfl

@[simp] theorem State.updLif_mem (s : State) (i : LineNo) (f : Lif → Lif) :
    (s.updLif i f).stc.mem = s.stc.mem := rfl

@[simp] theorem State.updCc_mem (s : State) (i : LineNo) (f : Cc → Cc) :
    (s.updCc i f).stc.mem = s.stc.mem := rfl

@[simp] theorem State.updTu_mem (s : State) (i : LineNo) (f : Tu → Tu) :
    (s.updTu i f).stc.mem = s.stc.mem := rfl

@[simp] theorem State.updDp_mem (s : State) (i : LineNo) (f : Dp → Dp) :
    (s.updDp i f).stc.mem = s.stc.mem := rfl

@[simp] theorem State.updBlc_mem (s : State) (i : LineNo) (f : Blc → Blc) :
    (s.updBlc i f).stc.mem = s.stc.mem := rfl

@[simp] theorem State.updFxc_mem (s : State) (i : LineNo) (f : Fxc → Fxc) :
    (s.updFxc i f).stc.mem = s.stc.mem := rfl

@[simp] theorem State.updVc_mem (s : State) (i : LineNo) (f : Vc → Vc) :
    (s.updVc i f).stc.mem = s.stc.mem := rfl

@[simp] theorem State.updApc_mem (s : State) (i : LineNo) (f : Apc → Apc) :
    (s.updApc i f).stc.mem = s.stc.mem := rfl

@[simp] theorem State.updCnt_mem (s : State) (i : LineNo) (f : LineCounters → LineCounters) :
    (s.updCnt i f).stc.mem = s.stc.mem := rfl

@[simp] theorem State.reach_mem (s : State) (d : Nat) :
    (s.reach d).stc.mem = s.stc.mem := rfl

theorem onExpiry_wf (t : Option Nat) (s : State) (f : State → State) (hf : ∀ x, memWf x.stc.mem → memWf (f x).stc.mem)
    (h : memWf s.stc.mem) : memWf (onExpiry t s f).stc.mem := by
  unfold onExpiry; split
  · exact h
  · exact hf _ h

@[simp] theorem State.emptySlots_mem (s : State) (p : Attach → Bool) :
    (s.emptySlots p).stc.mem = s.stc.mem := rfl

@[simp] theorem State.setSlot_mem (s : State) (i slot : LineNo) (a : Option Attach) :
    (s.setSlot i slot a).stc.mem = s.stc.mem := rfl

@[simp] theorem State.closeEntry_mem (s : State) (id : Nat) :
    (s.closeEntry id).stc.mem = s.stc.mem := rfl

@[simp] theorem State.freeEntry_mem (s : State) (id : Nat) :
    (s.freeEntry id).stc.mem = s.stc.mem := rfl

@[simp] theorem State.tryDelete_mem (s : State) (id : Nat) :
    (s.tryDelete id).1.stc.mem = s.stc.mem := by
  unfold State.tryDelete; (repeat' split) <;> simp_all

@[simp] theorem State.addActs_mem (s : State) (i : LineNo) (a : List Activity) :
    (s.addActs i a).stc.mem = s.stc.mem := rfl

@[simp] theorem State.endActs_mem (s : State) (i : LineNo) (a : List Activity) :
    (s.endActs i a).stc.mem = s.stc.mem := by
  unfold State.endActs; (repeat' split) <;> simp_all

@[simp] theorem State.setCounted_mem (s : State) (i : LineNo) (c : Cls) :
    (s.setCounted i c).stc.mem = s.stc.mem := by
  unfold State.setCounted; (repeat' split) <;> simp_all

@[simp] theorem State.dropPending_mem (s : State) (i : LineNo) :
    (s.dropPending i).stc.mem = s.stc.mem := by
  unfold State.dropPending; (repeat' split) <;> simp_all

@[simp] theorem State.joinPending_mem (s : State) (i : LineNo) (a : Ask) (r : Requester) :
    (s.joinPending i a r).stc.mem = s.stc.mem := rfl

@[simp] theorem State.seize_mem (s : State) (i : LineNo) :
    (s.seize i).stc.mem = s.stc.mem := by
  unfold State.seize; (repeat' split) <;> simp_all

@[simp] theorem State.release_mem (s : State) (i : LineNo) :
    (s.release i).stc.mem = s.stc.mem := by
  unfold State.release; (repeat' split) <;> simp_all

@[simp] theorem State.flashOrder_mem (s : State) (i : LineNo) :
    (s.flashOrder i).1.stc.mem = s.stc.mem := by
  unfold State.flashOrder; (repeat' split) <;> simp_all

@[simp] theorem State.breakOrder_mem (s : State) (i : LineNo) (n : Nat) :
    (s.breakOrder i n).1.stc.mem = s.stc.mem := by
  unfold State.breakOrder; (repeat' split) <;> simp_all

@[simp] theorem State.recomputeGroups_mem (s : State) :
    (s.recomputeGroups).stc.mem = s.stc.mem := by
  simp only [State.recomputeGroups]; (repeat' split) <;> simp_all

@[simp] theorem State.applyResult_mem (s : State) (i : LineNo) (good : Bool) :
    (s.applyResult i good).stc.mem = s.stc.mem := by
  simp only [State.applyResult]; (repeat' split) <;> simp_all

@[simp] theorem State.enterSeized_mem (s : State) (i : LineNo) (kind : CallKind) (dial : List DialElem) (m : DialMethod) (conn : Option Conn) :
    (s.enterSeized i kind dial m conn).stc.mem = s.stc.mem := by simp [State.enterSeized]

@[simp] theorem State.recordEvent_mem (s : State) (e : QEvent) :
    (s.recordEvent e).stc.mem = s.stc.mem := by
  unfold State.recordEvent; (repeat' split) <;> simp_all

@[simp] theorem State.dispatchTo_mem (s : State) (c : GroupCall) (i : LineNo) (entry : Nat) :
    (s.dispatchTo c i entry).stc.mem = s.stc.mem := by simp [State.dispatchTo]

@[simp] theorem State.setRec_mem (s : State) (k : Nat) (r : EntryRec) :
    (s.setRec k r).stc.mem = s.stc.mem := rfl

@[simp] theorem State.dispatchEntry_mem (s : State) (k : Nat) (r : EntryRec) (i : LineNo) :
    (s.dispatchEntry k r i).stc.mem = s.stc.mem := by simp [State.dispatchEntry]

@[simp] theorem State.lineEvent_mem (s : State) (i : LineNo) :
    (s.lineEvent i).stc.mem = s.stc.mem := by
  simp only [State.lineEvent]; (repeat' split) <;> simp_all

@[simp] theorem State.offerEntry_mem (s : State) (k : Nat) :
    (s.offerEntry k).stc.mem = s.stc.mem := by
  unfold State.offerEntry; (repeat' split) <;> simp_all

@[simp] theorem State.walkQueue_mem (s : State) : s.walkQueue.stc.mem = s.stc.mem :=
  State.mem_foldl _ State.offerEntry_mem _ _

@[simp] theorem State.freeAssigned_mem (s : State) (i : LineNo) :
    (s.freeAssigned i).stc.mem = s.stc.mem := rfl

@[simp] theorem State.glareReturn_mem (s : State) (i : LineNo) :
    (s.glareReturn i).stc.mem = s.stc.mem := by
  unfold State.glareReturn; (repeat' split) <;> simp_all

@[simp] theorem State.toIdle_mem (s : State) (i : LineNo) :
    (s.toIdle i).stc.mem = s.stc.mem := rfl

@[simp] theorem State.superviseLine_mem (s : State) (i : LineNo) (good : Bool) :
    (s.superviseLine i good).stc.mem = s.stc.mem := by
  simp only [State.superviseLine]; (repeat' split) <;> simp_all

@[simp] theorem State.linkPumpLeft_mem (s : State) (i : LineNo) :
    (s.linkPumpLeft i).stc.mem = s.stc.mem := rfl

@[simp] theorem State.beginExchange_mem (s : State) (i : LineNo) :
    (s.beginExchange i).stc.mem = s.stc.mem := rfl

@[simp] theorem State.enterRateChange_mem (s : State) (i : LineNo) (up : Bool) (target : Cls) :
    (s.enterRateChange i up target).stc.mem = s.stc.mem := by
  simp only [State.enterRateChange]; (repeat' split) <;> simp_all

@[simp] theorem State.owe_mem (s : State) (i : LineNo) (c : Cls) :
    (s.owe i c).stc.mem = s.stc.mem := rfl

@[simp] theorem State.stepDown_mem (s : State) (i : LineNo) :
    (s.stepDown i).stc.mem = s.stc.mem := by
  simp only [State.stepDown]; (repeat' split) <;> simp_all

@[simp] theorem State.considerReclaim_mem (s : State) :
    (s.considerReclaim).stc.mem = s.stc.mem := by
  unfold State.considerReclaim; (repeat' split) <;> simp_all

@[simp] theorem State.reclaimCheck_mem (s : State) (i : LineNo) :
    (s.reclaimCheck i).stc.mem = s.stc.mem := by
  unfold State.reclaimCheck; (repeat' split) <;> simp_all

@[simp] theorem State.request_mem (s : State) (i : LineNo) (ends : List Activity) (a : Ask) (r : Requester) :
    (s.request i ends a r).1.stc.mem = s.stc.mem := by
  simp only [State.request]; (repeat' split) <;> simp_all

@[simp] theorem State.closeClid_mem (s : State) (i : LineNo) :
    (s.closeClid i).stc.mem = s.stc.mem := by
  unfold State.closeClid; (repeat' split) <;> simp_all

@[simp] theorem State.closeOp_mem (s : State) (i : LineNo) (r : VoiceOutcome) :
    (s.closeOp i r).stc.mem = s.stc.mem := by
  unfold State.closeOp; (repeat' split) <;> simp_all

@[simp] theorem State.finishOp_mem (s : State) (i : LineNo) (r : VoiceOutcome) :
    (s.finishOp i r).stc.mem = s.stc.mem := by
  unfold State.finishOp; (repeat' split) <;> simp_all

@[simp] theorem State.trim_mem (s : State) (id n : Nat) :
    (s.trim id n).stc.mem = s.stc.mem := rfl

@[simp] theorem State.planOutcome_mem (s : State) (i : LineNo) (r : PlanResult) :
    (s.planOutcome i r).stc.mem = s.stc.mem := rfl

@[simp] theorem State.settleMessage_mem (s : State) (i : LineNo) : (s.settleMessage i).1.stc.mem = s.stc.mem := by
  unfold State.settleMessage
  split
  · rfl
  · simp only
    split <;> split <;> simp

@[simp] theorem State.dropMessage_mem (s : State) (id : Nat) :
    (s.dropMessage id).stc.mem = s.stc.mem := by simp [State.dropMessage]

@[simp] theorem State.planInactive_mem (s : State) (i : LineNo) :
    (s.planInactive i).stc.mem = s.stc.mem := rfl

@[simp] theorem State.planRecordingEnds_mem (s : State) (i : LineNo) :
    (s.planRecordingEnds i).stc.mem = s.stc.mem := by
  unfold State.planRecordingEnds; (repeat' split) <;> simp_all

@[simp] theorem State.digitTrim_mem (s : State) (o : VoiceOp) :
    (s.digitTrim o).stc.mem = s.stc.mem := by
  unfold State.digitTrim; (repeat' split) <;> simp_all

@[simp] theorem State.stopOp_mem (s : State) (i : LineNo) (r : VoiceOutcome) :
    (s.stopOp i r).stc.mem = s.stc.mem := by
  unfold State.stopOp; (repeat' split) <;> simp_all

@[simp] theorem State.voiceClears_mem (s : State) (i : LineNo) :
    (s.voiceClears i).stc.mem = s.stc.mem := by
  unfold State.voiceClears; (repeat' split) <;> simp_all

@[simp] theorem State.planClears_mem (s : State) (i : LineNo) :
    (s.planClears i).stc.mem = s.stc.mem := by
  unfold State.planClears; (repeat' split) <;> simp_all

@[simp] theorem State.closePage_mem (s : State) (i : LineNo) (j : FaxJob) (id missing : Nat) :
    (s.closePage i j id missing).stc.mem = s.stc.mem := rfl

@[simp] theorem State.closeIncomplete_mem (s : State) (i : LineNo) :
    (s.closeIncomplete i).stc.mem = s.stc.mem := by
  unfold State.closeIncomplete; (repeat' split) <;> simp_all

@[simp] theorem State.endJob_mem (s : State) (i : LineNo) (r : FaxOutcome) :
    (s.endJob i r).stc.mem = s.stc.mem := by simp [State.endJob]

@[simp] theorem State.faxClears_mem (s : State) (i : LineNo) :
    (s.faxClears i).stc.mem = s.stc.mem := by
  unfold State.faxClears; (repeat' split) <;> simp_all

@[simp] theorem State.linkClears_mem (s : State) (i : LineNo) :
    (s.linkClears i).stc.mem = s.stc.mem := rfl

@[simp] theorem State.budgetClears_mem (s : State) (i : LineNo) :
    (s.budgetClears i).stc.mem = s.stc.mem := by simp [State.budgetClears]

@[simp] theorem State.ccClears_mem (s : State) (i : LineNo) (r : EndReason) :
    (s.ccClears i r).stc.mem = s.stc.mem := rfl

@[simp] theorem State.toneClears_mem (s : State) (i : LineNo) :
    (s.toneClears i).stc.mem = s.stc.mem := by simp [State.toneClears]

@[simp] theorem State.clearWith_mem (s : State) (i : LineNo) (r : EndReason) :
    (s.clearWith i r).stc.mem = s.stc.mem := by
  unfold State.clearWith; (repeat' split) <;> simp_all

@[simp] theorem State.startClearing_mem (s : State) (i : LineNo) :
    (s.startClearing i).stc.mem = s.stc.mem := by
  unfold State.startClearing; (repeat' split) <;> simp_all

@[simp] theorem State.joinCause_mem (s : State) (i : LineNo) (c : Cause) :
    (s.joinCause i c).stc.mem = s.stc.mem := by
  unfold State.joinCause; (repeat' split) <;> simp_all

@[simp] theorem State.raiseCause_mem (s : State) (i : LineNo) (c : Cause) :
    (s.raiseCause i c).stc.mem = s.stc.mem := by simp [State.raiseCause]

@[simp] theorem State.progressFails_mem (s : State) (i : LineNo) (o : Outcome) :
    (s.progressFails i o).stc.mem = s.stc.mem := by simp [State.progressFails]

@[simp] theorem State.sendEvent_mem (s : State) (i : LineNo) (isResend : Bool) :
    (s.sendEvent i isResend).stc.mem = s.stc.mem := by
  simp only [State.sendEvent]; (repeat' split) <;> simp_all

@[simp] theorem State.txRose_mem (s : State) (i : LineNo) :
    (s.txRose i).stc.mem = s.stc.mem := by
  simp only [State.txRose]; (repeat' split) <;> simp_all

@[simp] theorem State.txFell_mem (s : State) (i : LineNo) :
    (s.txFell i).stc.mem = s.stc.mem := by
  simp only [State.txFell]; (repeat' split) <;> simp_all

@[simp] theorem State.sendSetup_mem (s : State) (i : LineNo) :
    (s.sendSetup i).stc.mem = s.stc.mem := rfl

@[simp] theorem State.resendBlock_mem (s : State) (i : LineNo) (k : Block) :
    (s.resendBlock i k).stc.mem = s.stc.mem := by simp [State.resendBlock]

@[simp] theorem State.newBlock_mem (s : State) (i : LineNo) :
    (s.newBlock i).stc.mem = s.stc.mem := by
  simp only [State.newBlock]; (repeat' split) <;> simp_all

@[simp] theorem State.startEc_mem (s : State) (i : LineNo) :
    (s.startEc i).stc.mem = s.stc.mem := by
  simp only [State.startEc]; (repeat' split) <;> simp_all

@[simp] theorem State.startTx_mem (s : State) (i : LineNo) :
    (s.startTx i).stc.mem = s.stc.mem := by
  simp only [State.startTx]; (repeat' split) <;> simp_all

@[simp] theorem State.startTry_mem (s : State) (i : LineNo) (n : Nat) :
    (s.startTry i n).stc.mem = s.stc.mem := by simp [State.startTry]

@[simp] theorem State.linkPumpRuns_mem (s : State) (i : LineNo) :
    (s.linkPumpRuns i).stc.mem = s.stc.mem := by
  simp only [State.linkPumpRuns]; (repeat' split) <;> simp_all

@[simp] theorem State.linkWaits_mem (s : State) (i : LineNo) :
    (s.linkWaits i).stc.mem = s.stc.mem := rfl

@[simp] theorem State.startTraining_mem (s : State) (i : LineNo) (f : Family) (floor : Cls) :
    (s.startTraining i f floor).stc.mem = s.stc.mem := rfl

@[simp] theorem State.setClass_mem (s : State) (i : LineNo) (c : Cls) :
    (s.setClass i c).stc.mem = s.stc.mem := by
  simp only [State.setClass]; (repeat' split) <;> simp_all

@[simp] theorem State.orderStands_mem (s : State) (i : LineNo) :
    (s.orderStands i).stc.mem = s.stc.mem := by
  simp only [State.orderStands]; (repeat' split) <;> simp_all

@[simp] theorem State.enterRetraining_mem (s : State) (i : LineNo) :
    (s.enterRetraining i).stc.mem = s.stc.mem := by
  simp only [State.enterRetraining]; (repeat' split) <;> simp_all

@[simp] theorem State.trainingSucceeds_mem (s : State) (i : LineNo) (agreed : Cls) :
    (s.trainingSucceeds i agreed).stc.mem = s.stc.mem := by
  simp only [State.trainingSucceeds]; (repeat' split) <;> simp_all

@[simp] theorem State.trainingFails_mem (s : State) (i : LineNo) :
    (s.trainingFails i).stc.mem = s.stc.mem := by
  simp only [State.trainingFails]; (repeat' split) <;> simp_all

@[simp] theorem State.completeTraining_mem (s : State) (i : LineNo) :
    (s.completeTraining i).stc.mem = s.stc.mem := by
  unfold State.completeTraining; (repeat' split) <;> simp_all

@[simp] theorem State.trainingRead_mem (s : State) (i : LineNo) :
    (s.trainingRead i).stc.mem = s.stc.mem := by
  unfold State.trainingRead; (repeat' split) <;> simp_all

@[simp] theorem State.completeRateChange_mem (s : State) (i : LineNo) :
    (s.completeRateChange i).stc.mem = s.stc.mem := by
  unfold State.completeRateChange; (repeat' split) <;> simp_all

@[simp] theorem State.askForward_mem (s : State) (i : LineNo) (cur next : Cls) :
    (s.askForward i cur next).1.stc.mem = s.stc.mem := by
  unfold State.askForward; (repeat' split) <;> simp_all

@[simp] theorem State.updJob_mem (s : State) (i : LineNo) (f : FaxJob → FaxJob) :
    (s.updJob i f).stc.mem = s.stc.mem := rfl

@[simp] theorem State.faxSend_mem (s : State) (i : LineNo) (m : FaxMsg) :
    (s.faxSend i m).stc.mem = s.stc.mem := rfl

@[simp] theorem State.faxAsk_mem (s : State) (i : LineNo) (m : FaxMsg) :
    (s.faxAsk i m).stc.mem = s.stc.mem := rfl

@[simp] theorem State.senderWait_mem (s : State) (i : LineNo) :
    (s.senderWait i).stc.mem = s.stc.mem := rfl

@[simp] theorem State.faxTell_mem (s : State) (i : LineNo) (m : FaxMsg) :
    (s.faxTell i m).stc.mem = s.stc.mem := rfl

@[simp] theorem State.failJob_mem (s : State) (i : LineNo) (r : FaxOutcome) :
    (s.failJob i r).stc.mem = s.stc.mem := by simp [State.failJob]

@[simp] theorem State.doneJob_mem (s : State) (i : LineNo) :
    (s.doneJob i).stc.mem = s.stc.mem := by simp [State.doneJob]

@[simp] theorem State.startReceive_mem (s : State) (i : LineNo) :
    (s.startReceive i).stc.mem = s.stc.mem := rfl

@[simp] theorem State.startJob_mem (s : State) (i : LineNo) :
    (s.startJob i).stc.mem = s.stc.mem := by
  unfold State.startJob; (repeat' split) <;> simp_all

@[simp] theorem State.newJob_mem (s : State) (i : LineNo) (j : FaxJob) :
    (s.newJob i j).stc.mem = s.stc.mem := rfl

@[simp] theorem State.planJob_mem (s : State) (i : LineNo) (policy : Policy) :
    (s.planJob i policy).stc.mem = s.stc.mem := by simp [State.planJob]

@[simp] theorem State.startPart_mem (s : State) (i : LineNo) (p : Nat) :
    (s.startPart i p).stc.mem = s.stc.mem := by
  unfold State.startPart; (repeat' split) <;> simp_all

@[simp] theorem State.beginSendPage_mem (s : State) (i : LineNo) :
    (s.beginSendPage i).stc.mem = s.stc.mem := by
  unfold State.beginSendPage; (repeat' split) <;> simp_all

@[simp] theorem State.sendPageClose_mem (s : State) (i : LineNo) (j : FaxJob) :
    (s.sendPageClose i j).stc.mem = s.stc.mem := rfl

@[simp] theorem State.afterPart_mem (s : State) (i : LineNo) :
    (s.afterPart i).stc.mem = s.stc.mem := by
  unfold State.afterPart; (repeat' split) <;> simp_all

@[simp] theorem State.startCheck_mem (s : State) (i : LineNo) (c : Cls) (after : AfterCheck) :
    (s.startCheck i c after).stc.mem = s.stc.mem := by
  simp only [State.startCheck]; (repeat' split) <;> simp_all

@[simp] theorem State.announceCheck_mem (s : State) (i : LineNo) (c : Cls) (after : AfterCheck) :
    (s.announceCheck i c after).stc.mem = s.stc.mem := by simp [State.announceCheck]

@[simp] theorem State.checkEnds_mem (s : State) (i : LineNo) (c : Cls) :
    (s.checkEnds i c).stc.mem = s.stc.mem := by
  simp only [State.checkEnds]; (repeat' split) <;> simp_all

@[simp] theorem State.checkAccepted_mem (s : State) (i : LineNo) (c : Cls) (acc : Nat) :
    (s.checkAccepted i c acc).stc.mem = s.stc.mem := by
  unfold State.checkAccepted; (repeat' split) <;> simp_all

@[simp] theorem State.checkRejected_mem (s : State) (i : LineNo) (c : Cls) (named : Option Cls) :
    (s.checkRejected i c named).stc.mem = s.stc.mem := by
  unfold State.checkRejected; (repeat' split) <;> simp_all

@[simp] theorem State.faxCheckRead_mem (s : State) (i : LineNo) :
    (s.faxCheckRead i).stc.mem = s.stc.mem := by
  simp only [State.faxCheckRead]; (repeat' split) <;> simp_all

@[simp] theorem State.countResent_mem (s : State) (i : LineNo) (n : Nat) :
    (s.countResent i n).stc.mem = s.stc.mem := rfl

@[simp] theorem State.sendBoundary_mem (s : State) (i : LineNo) (n : List Nat) :
    (s.sendBoundary i n).stc.mem = s.stc.mem := by
  unfold State.sendBoundary; (repeat' split) <;> simp_all

@[simp] theorem State.receiveBoundary_mem (s : State) (i : LineNo) (missing : List Nat) :
    (s.receiveBoundary i missing).stc.mem = s.stc.mem := by
  unfold State.receiveBoundary; (repeat' split) <;> simp_all

@[simp] theorem State.receiveResend_mem (s : State) (i : LineNo) (missing : List Nat) :
    (s.receiveResend i missing).stc.mem = s.stc.mem := rfl

@[simp] theorem State.receiveRetrain_mem (s : State) (i : LineNo) (missing : List Nat) (cur : Cls) :
    (s.receiveRetrain i missing cur).stc.mem = s.stc.mem := by simp [State.receiveRetrain]

@[simp] theorem State.judgeRound_mem (s : State) (i : LineNo) (j : FaxJob) :
    (s.judgeRound i j).stc.mem = s.stc.mem := by
  unfold State.judgeRound; (repeat' split) <;> simp_all

@[simp] theorem State.sendRetrain_mem (s : State) (i : LineNo) (missing : List Nat) (cur : Cls) (named : Option Cls) :
    (s.sendRetrain i missing cur named).stc.mem = s.stc.mem := by
  unfold State.sendRetrain; (repeat' split) <;> simp_all

@[simp] theorem State.followMap_mem (s : State) (i : LineNo) (j : FaxJob) (missing : List Nat) (a : MapAction) :
    (s.followMap i j missing a).stc.mem = s.stc.mem := by
  unfold State.followMap; (repeat' split) <;> simp_all

theorem State.takePart_wf {s : State} (i : LineNo) (id p c : Nat) (last : Bool) (h : memWf s.stc.mem) :
    memWf (s.takePart i id p c last).stc.mem := by
  unfold State.takePart
  split
  · simpa using h
  · next t ht =>
    simp only [State.senderWait_mem, State.updJob_mem]
    exact Stc.zeroPart_wf _ _ _ (by rw [Stc.cover_mem ht]; exact h)

theorem State.beginReceivePage_wf {s : State} (i : LineNo) (j : FaxJob) (c : Nat) (last : Bool) (h : memWf s.stc.mem) :
    memWf (s.beginReceivePage i j c last).stc.mem := by
  unfold State.beginReceivePage
  simp only
  split
  · simpa using h
  · simpa using h
  · next t id ht =>
    refine State.takePart_wf _ _ _ _ _ ?_
    simp only [State.updJob_mem, State.setSlot_mem]
    rw [Stc.alloc_mem ht]; exact h

theorem State.takeHeader_wf {s : State} (i : LineNo) (j : FaxJob) (p c : Nat) (last : Bool) (h : memWf s.stc.mem) :
    memWf (s.takeHeader i j p c last).stc.mem := by
  unfold State.takeHeader
  (repeat' split) <;> first
    | exact State.beginReceivePage_wf _ _ _ _ h
    | exact State.takePart_wf _ _ _ _ _ h
    | simpa using h

theorem State.storeFrame_wf {s : State} (i : LineNo) (j : FaxJob) (n : Nat) (b : List Byte) (h : memWf s.stc.mem) :
    memWf (s.storeFrame i j n b).stc.mem := by
  unfold State.storeFrame
  split
  · exact h
  · split
    · exact h
    · simp only [State.updJob_mem]; exact Stc.writeBytes_wf _ _ h

@[simp] theorem State.completePage_mem (s : State) (i : LineNo) (j : FaxJob) (id : Nat) (more : Bool) :
    (s.completePage i j id more).stc.mem = s.stc.mem := by
  unfold State.completePage
  exact (State.faxTell_mem _ i .pageConfirmation).trans (State.closePage_mem s i j id j.pageMissing)

@[simp] theorem State.readFrame_mem (s : State) (i : LineNo) (j : FaxJob) (n : Nat) :
    (s.readFrame i j n).1.stc.mem = s.stc.mem := by
  unfold State.readFrame
  split
  · rfl
  · split
    · rfl
    · simp only
      split <;> simp

@[simp] theorem State.answerAgain_mem (s : State) (i : LineNo) (j : FaxJob) (k : FaxKind) :
    (s.answerAgain i j k).stc.mem = s.stc.mem := by
  simp only [State.answerAgain]; (repeat' split) <;> simp_all

@[simp] theorem State.faxConnected_mem (s : State) (i : LineNo) :
    (s.faxConnected i).stc.mem = s.stc.mem := by
  unfold State.faxConnected; (repeat' split) <;> simp_all

@[simp] theorem State.ccConnected_mem (s : State) (i : LineNo) :
    (s.ccConnected i).stc.mem = s.stc.mem := rfl

@[simp] theorem State.planFaxStarts_mem (s : State) (i : LineNo) :
    (s.planFaxStarts i).stc.mem = s.stc.mem := by simp [State.planFaxStarts]

@[simp] theorem State.connectedStarts_mem (s : State) (i : LineNo) :
    (s.connectedStarts i).stc.mem = s.stc.mem := by
  simp only [State.connectedStarts]; (repeat' split) <;> simp_all

@[simp] theorem State.enterConnected_mem (s : State) (i : LineNo) :
    (s.enterConnected i).stc.mem = s.stc.mem := by simp [State.enterConnected]

@[simp] theorem State.askConnection_mem (s : State) (i : LineNo) :
    (s.askConnection i).stc.mem = s.stc.mem := by
  simp only [State.askConnection]; (repeat' split) <;> simp_all

@[simp] theorem State.planEnding_mem (s : State) (i : LineNo) (r : PlanResult) :
    (s.planEnding i r).stc.mem = s.stc.mem := by simp [State.planEnding]

@[simp] theorem State.planNotRecorded_mem (s : State) (i : LineNo) :
    (s.planNotRecorded i).stc.mem = s.stc.mem := by simp [State.planNotRecorded]

@[simp] theorem State.planRecorded_mem (s : State) (i : LineNo) :
    (s.planRecorded i).stc.mem = s.stc.mem := by simp [State.planRecorded]

@[simp] theorem State.opGranted_mem (s : State) (i : LineNo) :
    (s.opGranted i).stc.mem = s.stc.mem := by
  unfold State.opGranted; (repeat' split) <;> simp_all

@[simp] theorem State.recordStep_mem (s : State) (i : LineNo) : (s.recordStep i).stc.mem = s.stc.mem := by
  unfold State.recordStep
  simp only
  split
  · simp
  · next t id ht =>
    split <;> simp [Stc.alloc_mem ht]

@[simp] theorem State.chooseMailbox_mem (s : State) (i : LineNo) (m : Nat) :
    (s.chooseMailbox i m).stc.mem = s.stc.mem := by simp [State.chooseMailbox]

@[simp] theorem State.mailboxLook_mem (s : State) (i : LineNo) :
    (s.mailboxLook i).stc.mem = s.stc.mem := by
  unfold State.mailboxLook; (repeat' split) <;> simp_all

@[simp] theorem State.mailboxStep_mem (s : State) (i : LineNo) :
    (s.mailboxStep i).stc.mem = s.stc.mem := by
  simp only [State.mailboxStep]; (repeat' split) <;> simp_all

@[simp] theorem State.enterGreeting_mem (s : State) (i : LineNo) (id : Nat) :
    (s.enterGreeting i id).stc.mem = s.stc.mem := rfl

@[simp] theorem State.greetingEnds_mem (s : State) (i : LineNo) (r : VoiceOutcome) :
    (s.greetingEnds i r).stc.mem = s.stc.mem := by
  simp only [State.greetingEnds]; split <;> simp

@[simp] theorem State.opEnds_mem (s : State) (i : LineNo) (r : VoiceOutcome) :
    (s.opEnds i r).stc.mem = s.stc.mem := by
  unfold State.opEnds; (repeat' split) <;> simp_all

@[simp] theorem State.enterAnswering_mem (s : State) (i : LineNo) (k : CallKind) (c : Option Conn) :
    (s.enterAnswering i k c).stc.mem = s.stc.mem := by simp [State.enterAnswering]

@[simp] theorem State.answerVoice_mem (s : State) (i : LineNo) (p : Profile) :
    (s.answerVoice i p).stc.mem = s.stc.mem := by simp [State.answerVoice]

@[simp] theorem State.answerModem_mem (s : State) (i : LineNo) (p : Profile) (st : PlanState) (k : CallKind) (c : Conn) :
    (s.answerModem i p st k c).stc.mem = s.stc.mem := by simp [State.answerModem]

@[simp] theorem State.answerOrder_mem (s : State) (i : LineNo) :
    (s.answerOrder i).stc.mem = s.stc.mem := by
  unfold State.answerOrder; (repeat' split) <;> simp_all

@[simp] theorem State.answerDecision_mem (s : State) (i : LineNo) :
    (s.answerDecision i).stc.mem = s.stc.mem := by
  unfold State.answerDecision; (repeat' split) <;> simp_all

@[simp] theorem State.planAnswered_mem (s : State) (i : LineNo) :
    (s.planAnswered i).stc.mem = s.stc.mem := by
  unfold State.planAnswered; (repeat' split) <;> simp_all

@[simp] theorem State.planAsks_mem (s : State) (i : LineNo) :
    (s.planAsks i).stc.mem = s.stc.mem := by
  simp only [State.planAsks]; (repeat' split) <;> simp_all

@[simp] theorem State.planFaxGranted_mem (s : State) (i : LineNo) :
    (s.planFaxGranted i).stc.mem = s.stc.mem := by simp [State.planFaxGranted]

@[simp] theorem State.faxHandoff_mem (s : State) (i : LineNo) :
    (s.faxHandoff i).stc.mem = s.stc.mem := by
  simp only [State.faxHandoff]; (repeat' split) <;> simp_all

@[simp] theorem State.planFaxFailed_mem (s : State) (i : LineNo) :
    (s.planFaxFailed i).stc.mem = s.stc.mem := by
  simp only [State.planFaxFailed]; (repeat' split) <;> simp_all

@[simp] theorem State.grantTo_mem (s : State) (i : LineNo) (r : Requester) :
    (s.grantTo i r).stc.mem = s.stc.mem := by
  unfold State.grantTo; (repeat' split) <;> simp_all

@[simp] theorem State.grant_mem (s : State) (p : Pending) (acts : List Activity) :
    (s.grant p acts).stc.mem = s.stc.mem := by simp [State.grant]

@[simp] theorem State.opFails_mem (s : State) (i : LineNo) :
    (s.opFails i).stc.mem = s.stc.mem := by
  unfold State.opFails; (repeat' split) <;> simp_all

@[simp] theorem State.planRecordFails_mem (s : State) (i : LineNo) :
    (s.planRecordFails i).stc.mem = s.stc.mem := by
  unfold State.planRecordFails; (repeat' split) <;> simp_all

@[simp] theorem State.failTo_mem (s : State) (i : LineNo) (r : Requester) :
    (s.failTo i r).stc.mem = s.stc.mem := by
  unfold State.failTo; (repeat' split) <;> simp_all

@[simp] theorem State.settled_mem (s : State) :
    (s.settled).stc.mem = s.stc.mem := rfl

@[simp] theorem State.handOutEnds_mem (s : State) :
    (s.handOutEnds).stc.mem = s.stc.mem := by
  unfold State.handOutEnds; (repeat' split) <;> simp_all

theorem settleN_mem : ∀ (n : Nat) (s : State), (settleN n s).stc.mem = s.stc.mem
  | 0, _ => rfl
  | n + 1, s => by
    unfold settleN
    split
    · split
      · simp
      · split
        · simp
        · rw [settleN_mem n]; simp
    · rfl

@[simp] theorem State.settle_mem (s : State) : s.settle.stc.mem = s.stc.mem := settleN_mem 32 s

@[simp] theorem refuse_mem (s : State) (st : Status) :
    (refuse s st).state.stc.mem = s.stc.mem := rfl

@[simp] theorem okWith_mem (s : State) (f : List Byte) :
    (okWith s f).state.stc.mem = s.stc.mem := rfl

theorem onLine_wf (s : State) (line : Nat) (f : LineNo → Answer) (hf : ∀ i, memWf (f i).state.stc.mem)
    (h : memWf s.stc.mem) : memWf (onLine s line f).state.stc.mem := by
  unfold onLine; split
  · exact hf _
  · exact h

@[simp] theorem State.enterRinging_mem (s : State) (i : LineNo) :
    (s.enterRinging i).stc.mem = s.stc.mem := rfl

@[simp] theorem State.ring_mem (s : State) (i : LineNo) :
    (s.ring i).stc.mem = s.stc.mem := by
  unfold State.ring; (repeat' split) <;> simp_all

@[simp] theorem State.glare_mem (s : State) (i : LineNo) :
    (s.glare i).stc.mem = s.stc.mem := by
  unfold State.glare; (repeat' split) <;> simp_all

@[simp] theorem State.abandoned_mem (s : State) (i : LineNo) :
    (s.abandoned i).stc.mem = s.stc.mem := by
  unfold State.abandoned; (repeat' split) <;> simp_all

@[simp] theorem State.enterProgress_mem (s : State) (i : LineNo) :
    (s.enterProgress i).stc.mem = s.stc.mem := by
  unfold State.enterProgress; split <;> rfl

@[simp] theorem State.beginElem_mem (s : State) (i : LineNo) (e : DialElem) :
    (s.beginElem i e).1.stc.mem = s.stc.mem := by
  simp only [State.beginElem]; (repeat' split) <;> simp_all

theorem State.dialFrom_mem (i : LineNo) : ∀ (l : List DialElem) (s : State), (s.dialFrom i l).stc.mem = s.stc.mem
  | [], s => by simp [State.dialFrom]
  | e :: r, s => by
    unfold State.dialFrom
    simp only
    split
    · simp
    · rw [State.dialFrom_mem i r]
      exact State.beginElem_mem s i e

@[simp] theorem State.elemEnds_mem (s : State) (i : LineNo) : (s.elemEnds i).stc.mem = s.stc.mem := by
  simp only [State.elemEnds, State.dialFrom_mem]; rfl

@[simp] theorem State.beginDialling_mem (s : State) (i : LineNo) : (s.beginDialling i).stc.mem = s.stc.mem := by
  simp only [State.beginDialling, State.dialFrom_mem]; rfl

@[simp] theorem State.progressConnects_mem (s : State) (i : LineNo) :
    (s.progressConnects i).stc.mem = s.stc.mem := by simp [State.progressConnects]

@[simp] theorem State.noBusy_mem (s : State) (i : LineNo) :
    (s.noBusy i).stc.mem = s.stc.mem := rfl

@[simp] theorem State.busyHangup_mem (s : State) (i : LineNo) :
    (s.busyHangup i).stc.mem = s.stc.mem := by
  unfold State.busyHangup; (repeat' split) <;> simp_all

@[simp] theorem State.busyCycle_mem (s : State) (i : LineNo) :
    (s.busyCycle i).stc.mem = s.stc.mem := by
  simp only [State.busyCycle]; (repeat' split) <;> simp_all

@[simp] theorem State.markBusyStart_mem (s : State) (i : LineNo) :
    (s.markBusyStart i).stc.mem = s.stc.mem := by
  unfold State.markBusyStart; (repeat' split) <;> simp_all

@[simp] theorem State.toneStarts_mem (s : State) (i : LineNo) :
    (s.toneStarts i).stc.mem = s.stc.mem := by simp [State.toneStarts]

@[simp] theorem State.toneEnded_mem (s : State) (i : LineNo) (cp : CpTone) :
    (s.toneEnded i cp).stc.mem = s.stc.mem := rfl

@[simp] theorem State.ringback_mem (s : State) (i : LineNo) :
    (s.ringback i).stc.mem = s.stc.mem := by
  unfold State.ringback; (repeat' split) <;> simp_all

@[simp] theorem State.callerKnown_mem (s : State) (i : LineNo) (c : Caller) :
    (s.callerKnown i c).stc.mem = s.stc.mem := by simp [State.callerKnown]

@[simp] theorem State.countClidBad_mem (s : State) :
    (s.countClidBad).stc.mem = s.stc.mem := rfl

@[simp] theorem State.clidMessage_mem (s : State) (i : LineNo) (b : List Byte) :
    (s.clidMessage i b).stc.mem = s.stc.mem := by
  unfold State.clidMessage; (repeat' split) <;> simp_all

@[simp] theorem State.openClid_mem (s : State) (i : LineNo) :
    (s.openClid i).stc.mem = s.stc.mem := by
  unfold State.openClid; (repeat' split) <;> simp_all

@[simp] theorem State.flashDone_mem (s : State) (i : LineNo) :
    (s.flashDone i).stc.mem = s.stc.mem := by
  unfold State.flashDone; (repeat' split) <;> simp_all

@[simp] theorem State.breakDone_mem (s : State) (i : LineNo) :
    (s.breakDone i).stc.mem = s.stc.mem := rfl

@[simp] theorem State.makeDone_mem (s : State) (i : LineNo) :
    (s.makeDone i).stc.mem = s.stc.mem := by
  unfold State.makeDone; (repeat' split) <;> simp_all

@[simp] theorem State.ringOnset_mem (s : State) (i : LineNo) :
    (s.ringOnset i).stc.mem = s.stc.mem := by simp [State.ringOnset]

@[simp] theorem State.burst_mem (s : State) (i : LineNo) :
    (s.burst i).stc.mem = s.stc.mem := by
  unfold State.burst; (repeat' split) <;> simp_all

@[simp] theorem State.measure_mem (s : State) (i : LineNo) (volts : Nat) :
    (s.measure i volts).stc.mem = s.stc.mem := by simp [State.measure]

@[simp] theorem State.candidateEnds_mem (s : State) (i : LineNo) (volts : Nat) :
    (s.candidateEnds i volts).stc.mem = s.stc.mem := by
  unfold State.candidateEnds; (repeat' split) <;> simp_all

@[simp] theorem State.burstEnds_mem (s : State) (i : LineNo) :
    (s.burstEnds i).stc.mem = s.stc.mem := by
  simp only [State.burstEnds]; (repeat' split) <;> simp_all

@[simp] theorem State.abandonExpires_mem (s : State) (i : LineNo) :
    (s.abandonExpires i).stc.mem = s.stc.mem := by simp [State.abandonExpires]

@[simp] theorem State.blankingDone_mem (s : State) (i : LineNo) (current : Bool) :
    (s.blankingDone i current).stc.mem = s.stc.mem := rfl

@[simp] theorem State.loopLost_mem (s : State) (i : LineNo) :
    (s.loopLost i).stc.mem = s.stc.mem := by simp [State.loopLost]

@[simp] theorem State.checkLine_mem (s : State) (i : LineNo) (volts : Nat) :
    (s.checkLine i volts).stc.mem = s.stc.mem := by
  unfold State.checkLine; (repeat' split) <;> simp_all

@[simp] theorem State.dialTone_mem (s : State) (i : LineNo) :
    (s.dialTone i).stc.mem = s.stc.mem := by
  unfold State.dialTone; (repeat' split) <;> simp_all

@[simp] theorem State.noDialTone_mem (s : State) (i : LineNo) :
    (s.noDialTone i).stc.mem = s.stc.mem := by simp [State.noDialTone]

@[simp] theorem State.cpStart_mem (s : State) (i : LineNo) :
    (s.cpStart i).stc.mem = s.stc.mem := by
  simp only [State.cpStart]; (repeat' split) <;> simp_all

@[simp] theorem State.cpEnd_mem (s : State) (i : LineNo) :
    (s.cpEnd i).stc.mem = s.stc.mem := by
  simp only [State.cpEnd]; (repeat' split) <;> simp_all

@[simp] theorem State.cpSilent_mem (s : State) (i : LineNo) :
    (s.cpSilent i).stc.mem = s.stc.mem := by simp [State.cpSilent]

@[simp] theorem State.speechFrame_mem (s : State) (i : LineNo) (samples : List Int) :
    (s.speechFrame i samples).stc.mem = s.stc.mem := by
  simp only [State.speechFrame]; (repeat' split) <;> simp_all

@[simp] theorem State.ringbackGone_mem (s : State) (i : LineNo) :
    (s.ringbackGone i).stc.mem = s.stc.mem := by
  unfold State.ringbackGone; (repeat' split) <;> simp_all

@[simp] theorem State.settleDone_mem (s : State) (i : LineNo) :
    (s.settleDone i).stc.mem = s.stc.mem := by
  unfold State.settleDone; (repeat' split) <;> simp_all

@[simp] theorem State.queueDigit_mem (s : State) (i : LineNo) (d : Dtmf) :
    (s.queueDigit i d).stc.mem = s.stc.mem := by
  unfold State.queueDigit; (repeat' split) <;> simp_all

@[simp] theorem State.digitStops_mem (s : State) (i : LineNo) :
    (s.digitStops i).stc.mem = s.stc.mem := by
  unfold State.digitStops; (repeat' split) <;> simp_all

@[simp] theorem State.toneDigitDone_mem (s : State) (i : LineNo) :
    (s.toneDigitDone i).stc.mem = s.stc.mem := rfl

@[simp] theorem State.guardDone_mem (s : State) (i : LineNo) :
    (s.guardDone i).stc.mem = s.stc.mem := by
  simp only [State.guardDone]; split <;> simp

@[simp] theorem takeCall_mem (s : State) (line kind maxc floor : Nat) (dial : List (Nat × Nat)) :
    (takeCall s line kind maxc floor dial).state.stc.mem = s.stc.mem := by
  simp only [takeCall, onLine, onPart, onEntry, okWith, refuse]; (repeat' split) <;> simp

@[simp] theorem takeAnsr_mem (s : State) (line kind maxc floor : Nat) :
    (takeAnsr s line kind maxc floor).state.stc.mem = s.stc.mem := by
  simp only [takeAnsr, onLine, onPart, onEntry, okWith, refuse]; (repeat' split) <;> simp

@[simp] theorem takeDigr_mem (s : State) (line : Nat) :
    (takeDigr s line).state.stc.mem = s.stc.mem := by
  simp only [takeDigr, onLine, onPart, onEntry, okWith, refuse]; (repeat' split) <;> simp

@[simp] theorem takeTone_mem (s : State) (line : Nat) (digits : List Byte) :
    (takeTone s line digits).state.stc.mem = s.stc.mem := by
  simp only [takeTone, onLine, onPart, onEntry, okWith, refuse]; (repeat' split) <;> simp

@[simp] theorem State.startDrain_mem (s : State) (i : LineNo) :
    (s.startDrain i).stc.mem = s.stc.mem := by
  unfold State.startDrain; (repeat' split) <;> simp_all

@[simp] theorem State.rels_mem (s : State) (i : LineNo) (drain : Bool) :
    (s.rels i drain).state.stc.mem = s.stc.mem := by
  simp only [State.rels]; (repeat' split) <;> simp_all

@[simp] theorem takeRels_mem (s : State) (line drain : Nat) :
    (takeRels s line drain).state.stc.mem = s.stc.mem := by
  simp only [takeRels, onLine, onPart, onEntry, okWith, refuse]; (repeat' split) <;> simp

theorem onPart_wf (s : State) (line : Nat) (a : Answer) (hf : memWf a.state.stc.mem)
    (h : memWf s.stc.mem) : memWf (onPart s line a).state.stc.mem := by
  unfold onPart; split
  · exact hf
  · exact h

@[simp] theorem State.dispatchNew_mem (s : State) (c : GroupCall) (i : LineNo) :
    (s.dispatchNew c i).state.stc.mem = s.stc.mem := by
  unfold State.dispatchNew; (repeat' split) <;> simp_all

@[simp] theorem State.queueCall_mem (s : State) (c : GroupCall) (k : Nat) :
    (s.queueCall c k).state.stc.mem = s.stc.mem := rfl

@[simp] theorem State.groupCall_mem (s : State) (c : GroupCall) :
    (s.groupCall c).state.stc.mem = s.stc.mem := by
  unfold State.groupCall; (repeat' split) <;> simp_all

@[simp] theorem takeCallGroup_mem (s : State) (line group kind maxc floor wait hostTag : Nat) (dial : List (Nat × Nat)) :
    (takeCallGroup s line group kind maxc floor wait hostTag dial).state.stc.mem = s.stc.mem := by
  simp only [takeCallGroup, onLine, onPart, onEntry, okWith, refuse]; (repeat' split) <;> simp

@[simp] theorem State.entryExpires_mem (s : State) (k : Nat) (r : EntryRec) :
    (s.entryExpires k r).stc.mem = s.stc.mem := by simp [State.entryExpires]

@[simp] theorem takeCncl_mem (s : State) (line entry : Nat) :
    (takeCncl s line entry).state.stc.mem = s.stc.mem := by
  simp only [takeCncl, onLine, onPart, onEntry, okWith, refuse]; (repeat' split) <;> simp

@[simp] theorem takeCtad_mem (s : State) (line : Nat) (number : List Byte) (cls : Nat) (label : List Byte) :
    (takeCtad s line number cls label).state.stc.mem = s.stc.mem := by
  simp only [takeCtad, onLine, onPart, onEntry, okWith, refuse]; (repeat' split) <;> simp

@[simp] theorem takeCtdl_mem (s : State) (line position : Nat) :
    (takeCtdl s line position).state.stc.mem = s.stc.mem := by
  simp only [takeCtdl, onLine, onPart, onEntry, okWith, refuse]; (repeat' split) <;> simp

@[simp] theorem takeCtrd_mem (s : State) (line start : Nat) :
    (takeCtrd s line start).state.stc.mem = s.stc.mem := by
  simp only [takeCtrd, onLine, onPart, onEntry, okWith, refuse]; (repeat' split) <;> simp

@[simp] theorem State.pendingFails_mem (s : State) (p : Pending) :
    (s.pendingFails p).stc.mem = s.stc.mem := by simp [State.pendingFails]

@[simp] theorem takeBudg_mem (s : State) (line : Nat) :
    (takeBudg s line).state.stc.mem = s.stc.mem := by
  simp only [takeBudg, onLine, onPart, onEntry, okWith, refuse]; (repeat' split) <;> simp

@[simp] theorem State.dataTrainingReading_mem (s : State) (i : LineNo) (q : Nat) :
    (s.dataTrainingReading i q).stc.mem = s.stc.mem := by
  simp only [State.dataTrainingReading]; (repeat' split) <;> simp_all

@[simp] theorem State.faxTrainingReading_mem (s : State) (i : LineNo) (q : Nat) :
    (s.faxTrainingReading i q).stc.mem = s.stc.mem := by
  simp only [State.faxTrainingReading]; (repeat' split) <;> simp_all

@[simp] theorem State.runningTests_mem (s : State) (i : LineNo) :
    (s.runningTests i).stc.mem = s.stc.mem := by
  simp only [State.runningTests]; (repeat' split) <;> simp_all

@[simp] theorem State.runningReading_mem (s : State) (i : LineNo) (q : Nat) :
    (s.runningReading i q).stc.mem = s.stc.mem := by
  unfold State.runningReading; (repeat' split) <;> simp_all

@[simp] theorem State.takeOffer_mem (s : State) (i : LineNo) (c : Cls) :
    (s.takeOffer i c).stc.mem = s.stc.mem := by
  unfold State.takeOffer; (repeat' split) <;> simp_all

@[simp] theorem State.confirm_mem (s : State) (i : LineNo) (begun : Nat) :
    (s.confirm i begun).stc.mem = s.stc.mem := by
  unfold State.confirm; (repeat' split) <;> simp_all

@[simp] theorem State.decline_mem (s : State) (i : LineNo) :
    (s.decline i).stc.mem = s.stc.mem := rfl

@[simp] theorem State.remoteRate_mem (s : State) (i : LineNo) (c cur : Cls) :
    (s.remoteRate i c cur).stc.mem = s.stc.mem := by
  simp only [State.remoteRate]; (repeat' split) <;> simp_all

@[simp] theorem State.setupEc_mem (s : State) (i : LineNo) (window size : Nat) :
    (s.setupEc i window size).stc.mem = s.stc.mem := by simp [State.setupEc]

@[simp] theorem State.setupPlain_mem (s : State) (i : LineNo) :
    (s.setupPlain i).stc.mem = s.stc.mem := by simp [State.setupPlain]

@[simp] theorem State.transmitted_mem (s : State) (i : LineNo) :
    (s.transmitted i).stc.mem = s.stc.mem := by
  unfold State.transmitted; (repeat' split) <;> simp_all

@[simp] theorem State.countBadCheck_mem (s : State) (i : LineNo) :
    (s.countBadCheck i).stc.mem = s.stc.mem := rfl

@[simp] theorem State.takeSup_mem (s : State) (i : LineNo) (kind : SupKind) (n : Nat) :
    (s.takeSup i kind n).stc.mem = s.stc.mem := by simp [State.takeSup]

@[simp] theorem State.retryExpires_mem (s : State) (i : LineNo) :
    (s.retryExpires i).stc.mem = s.stc.mem := by
  unfold State.retryExpires; (repeat' split) <;> simp_all

@[simp] theorem State.answerBlock_mem (s : State) (i : LineNo) (k : SupKind) :
    (s.answerBlock i k).stc.mem = s.stc.mem := by simp [State.answerBlock]

@[simp] theorem State.appendBlock_mem (s : State) (i : LineNo) (p : List Byte) :
    (s.appendBlock i p).stc.mem = s.stc.mem := by simp [State.appendBlock]

@[simp] theorem State.takeBlock_mem (s : State) (i : LineNo) (seq : Nat) (p : List Byte) :
    (s.takeBlock i seq p).stc.mem = s.stc.mem := by
  simp only [State.takeBlock]; (repeat' split) <;> simp_all

@[simp] theorem State.plainByte_mem (s : State) (i : LineNo) (x : Byte) :
    (s.plainByte i x).stc.mem = s.stc.mem := by
  unfold State.plainByte; (repeat' split) <;> simp_all

@[simp] theorem State.takeData_mem (s : State) (i : LineNo) (bytes : List Byte) :
    (s.takeData i bytes).stc.mem = s.stc.mem := by simp [State.takeData]

@[simp] theorem takeFlow_mem (s : State) (line value : Nat) :
    (takeFlow s line value).state.stc.mem = s.stc.mem := by
  simp only [takeFlow, onLine, onPart, onEntry, okWith, refuse]; (repeat' split) <;> simp

@[simp] theorem State.notReadyTest_mem (s : State) (i : LineNo) :
    (s.notReadyTest i).stc.mem = s.stc.mem := by
  simp only [State.notReadyTest]; (repeat' split) <;> simp_all

@[simp] theorem State.formDataOut_mem (s : State) (i : LineNo) :
    (s.formDataOut i).1.stc.mem = s.stc.mem := by simp [State.formDataOut]

@[simp] theorem State.acceptJob_mem (s : State) (i : LineNo) (j : FaxJob) :
    (s.acceptJob i j).state.stc.mem = s.stc.mem := by
  unfold State.acceptJob; (repeat' split) <;> simp_all

@[simp] theorem takeFaxs_mem (s : State) (line : Nat) (pages : List Nat) (resolution width policy : Nat) :
    (takeFaxs s line pages resolution width policy).state.stc.mem = s.stc.mem := by
  simp only [takeFaxs, onLine, onPart, onEntry, okWith, refuse]; (repeat' split) <;> simp

@[simp] theorem takeFaxr_mem (s : State) (line policy : Nat) :
    (takeFaxr s line policy).state.stc.mem = s.stc.mem := by
  simp only [takeFaxr, onLine, onPart, onEntry, okWith, refuse]; (repeat' split) <;> simp

@[simp] theorem takeFxst_mem (s : State) (line : Nat) :
    (takeFxst s line).state.stc.mem = s.stc.mem := by
  simp only [takeFxst, onLine, onPart, onEntry, okWith, refuse]; (repeat' split) <;> simp

@[simp] theorem takeFxab_mem (s : State) (line : Nat) :
    (takeFxab s line).state.stc.mem = s.stc.mem := by
  simp only [takeFxab, onLine, onPart, onEntry, okWith, refuse]; (repeat' split) <;> simp

@[simp] theorem State.noJob_mem (s : State) (i : LineNo) :
    (s.noJob i).stc.mem = s.stc.mem := by simp [State.noJob]

@[simp] theorem State.answerMissing_mem (s : State) (i : LineNo) (m : FaxMsg) (tries : Nat) :
    (s.answerMissing i m tries).stc.mem = s.stc.mem := by
  unfold State.answerMissing; (repeat' split) <;> simp_all

@[simp] theorem State.senderMissing_mem (s : State) (i : LineNo) :
    (s.senderMissing i).stc.mem = s.stc.mem := by
  unfold State.senderMissing; (repeat' split) <;> simp_all

theorem State.atJob_wf (s : State) (i : LineNo) (d : FaxDir) (f : FaxJob → State) (hf : ∀ j, memWf (f j).stc.mem)
    (h : memWf s.stc.mem) : memWf (s.atJob i d f).stc.mem := by
  unfold State.atJob
  split
  · split
    · exact hf _
    · exact h
  · exact h

@[simp] theorem State.unreadable_mem (s : State) (i : LineNo) :
    (s.unreadable i).stc.mem = s.stc.mem := by
  unfold State.unreadable; (repeat' split) <;> simp_all

@[simp] theorem State.takeCapability_mem (s : State) (i : LineNo) (j : FaxJob) (highest : Cls) (fine : Bool) (widest reserve : Nat) :
    (s.takeCapability i j highest fine widest reserve).stc.mem = s.stc.mem := by
  unfold State.takeCapability; (repeat' split) <;> simp_all

@[simp] theorem State.takeChoice_mem (s : State) (i : LineNo) (c : Cls) (resolution width : Nat) :
    (s.takeChoice i c resolution width).stc.mem = s.stc.mem := by
  unfold State.takeChoice; (repeat' split) <;> simp_all

@[simp] theorem State.takeConfirmation_mem (s : State) (i : LineNo) (j : FaxJob) (accepted : Bool) :
    (s.takeConfirmation i j accepted).stc.mem = s.stc.mem := by
  unfold State.takeConfirmation; (repeat' split) <;> simp_all

@[simp] theorem State.takeAnnouncement_mem (s : State) (i : LineNo) (j : FaxJob) (c : Cls) :
    (s.takeAnnouncement i j c).stc.mem = s.stc.mem := by
  unfold State.takeAnnouncement; (repeat' split) <;> simp_all

@[simp] theorem State.burstSent_mem (s : State) (i : LineNo) (j : FaxJob) :
    (s.burstSent i j).stc.mem = s.stc.mem := by
  unfold State.burstSent; (repeat' split) <;> simp_all

@[simp] theorem State.takeVerdict_mem (s : State) (i : LineNo) (rejected : Option Cls) :
    (s.takeVerdict i rejected).stc.mem = s.stc.mem := by
  unfold State.takeVerdict; (repeat' split) <;> simp_all

theorem State.takeFrame_wf {s : State} (i : LineNo) (j : FaxJob) (n : Nat) (b : List Byte) (h : memWf s.stc.mem) :
    memWf (s.takeFrame i j n b).stc.mem := by
  unfold State.takeFrame
  (repeat' split) <;> first
    | simpa using State.storeFrame_wf _ _ _ _ h
    | simpa using h

theorem State.readRound_mem (i : LineNo) (j : FaxJob) :
    ∀ (l : List Nat) (s : State), (s.readRound i j l).1.stc.mem = s.stc.mem
  | [], _ => rfl
  | n :: r, s => by
    simp only [State.readRound]
    rw [State.readRound_mem i j r, State.readFrame_mem]

@[simp] theorem State.roundSent_mem (s : State) (i : LineNo) (j : FaxJob) : (s.roundSent i j).stc.mem = s.stc.mem := by
  simp only [State.roundSent, State.faxAsk_mem]
  exact State.readRound_mem i j j.missing s

@[simp] theorem State.takeRoundEnd_mem (s : State) (i : LineNo) (j : FaxJob) :
    (s.takeRoundEnd i j).stc.mem = s.stc.mem := by
  unfold State.takeRoundEnd; (repeat' split) <;> simp_all

@[simp] theorem State.takeClose_mem (s : State) (i : LineNo) (j : FaxJob) (more : Bool) :
    (s.takeClose i j more).stc.mem = s.stc.mem := by
  unfold State.takeClose; (repeat' split) <;> simp_all

@[simp] theorem State.pageConfirmed_mem (s : State) (i : LineNo) (j : FaxJob) :
    (s.pageConfirmed i j).stc.mem = s.stc.mem := by
  simp only [State.pageConfirmed]; (repeat' split) <;> simp_all

@[simp] theorem State.takeRelease_mem (s : State) (i : LineNo) (j : FaxJob) :
    (s.takeRelease i j).stc.mem = s.stc.mem := by
  unfold State.takeRelease; (repeat' split) <;> simp_all

theorem onEntry_wf (s : State) (id : Nat) (f : Entry → Answer) (hf : ∀ e, memWf (f e).state.stc.mem)
    (h : memWf s.stc.mem) : memWf (onEntry s id f).state.stc.mem := by
  unfold onEntry
  split
  · exact h
  · split
    · exact hf _
    · exact h

@[simp] theorem takeScrt_mem (s : State) (line kind extent mailbox : Nat) :
    (takeScrt s line kind extent mailbox).state.stc.mem = s.stc.mem := by
  unfold takeScrt onPart
  split
  · split
    · rfl
    · split
      · rfl
      · next t id ht => exact Stc.alloc_mem ht
  · rfl

@[simp] theorem takeScls_mem (s : State) (line id : Nat) :
    (takeScls s line id).state.stc.mem = s.stc.mem := by
  simp only [takeScls, onLine, onPart, onEntry, okWith, refuse]; (repeat' split) <;> simp

@[simp] theorem takeSdel_mem (s : State) (line id : Nat) :
    (takeSdel s line id).state.stc.mem = s.stc.mem := by
  simp only [takeSdel, onLine, onPart, onEntry, okWith, refuse]; (repeat' split) <;> simp

@[simp] theorem takeAtch_mem (s : State) (line slot id right : Nat) :
    (takeAtch s line slot id right).state.stc.mem = s.stc.mem := by
  simp only [takeAtch, onLine, onPart, onEntry, okWith, refuse]; (repeat' split) <;> simp

@[simp] theorem takeDtch_mem (s : State) (line slot : Nat) :
    (takeDtch s line slot).state.stc.mem = s.stc.mem := by
  simp only [takeDtch, onLine, onPart, onEntry, okWith, refuse]; (repeat' split) <;> simp

theorem takeSwrt_wf {s : State} (line id : Nat) (bytes : List Byte) (h : memWf s.stc.mem) :
    memWf (takeSwrt s line id bytes).state.stc.mem := by
  unfold takeSwrt
  refine onPart_wf _ _ _ ?_ h
  split
  · exact h
  · refine onEntry_wf _ _ _ (fun e => ?_) h
    split
    · exact h
    · split
      · exact h
      · suffices ∀ (l : List Byte) (t : Stc), memWf t.mem →
            memWf (l.foldl (fun t b => t.appendByte id (0, 16) b) t).mem from this _ _ h
        intro l
        induction l with
        | nil => intro t ht; exact ht
        | cons b r ih => intro t ht; exact ih _ (Stc.appendByte_wf _ _ _ ht)

@[simp] theorem takeSred_mem (s : State) (line id offset count : Nat) :
    (takeSred s line id offset count).state.stc.mem = s.stc.mem := by
  simp only [takeSred, onLine, onPart, onEntry, okWith, refuse]; (repeat' split) <;> simp

@[simp] theorem takeSlst_mem (s : State) (line start : Nat) :
    (takeSlst s line start).state.stc.mem = s.stc.mem := by
  simp only [takeSlst, onLine, onPart, onEntry, okWith, refuse]; (repeat' split) <;> simp

@[simp] theorem takeSsta_mem (s : State) (line : Nat) :
    (takeSsta s line).state.stc.mem = s.stc.mem := by
  simp only [takeSsta, onLine, onPart, onEntry, okWith, refuse]; (repeat' split) <;> simp

@[simp] theorem State.packEnds_mem (s : State) (o : PackOutcome) :
    (s.packEnds o).stc.mem = s.stc.mem := rfl

@[simp] theorem State.walkLast_mem (s : State) (voice : Bool) : (s.walkLast voice).stc.mem = s.stc.mem := by
  unfold State.walkLast; split <;> simp

@[simp] theorem State.packWalk_mem (s : State) : s.packWalk.stc.mem = s.stc.mem := by
  unfold State.packWalk
  split
  · simp
  · split <;> simp
  · simp

@[simp] theorem takePackStart_mem (s : State) (line region : Nat) :
    (takePackStart s line region).state.stc.mem = s.stc.mem := by
  simp only [takePackStart, onLine, onPart, onEntry, okWith, refuse]; (repeat' split) <;> simp

@[simp] theorem takePackStop_mem (s : State) (line : Nat) :
    (takePackStop s line).state.stc.mem = s.stc.mem := by
  simp only [takePackStop, onLine, onPart, onEntry, okWith, refuse]; (repeat' split) <;> simp

@[simp] theorem takePack_mem (s : State) (line action region : Nat) :
    (takePack s line action region).state.stc.mem = s.stc.mem := by
  unfold takePack; (repeat' split) <;> simp_all

@[simp] theorem State.moveDone_mem (s : State) (m : Move) (e : Entry) : (s.moveDone m e).stc.mem = s.stc.mem := by
  unfold State.moveDone
  simp only
  split
  · simp
  · simp

theorem State.moveCell_wf {s : State} (m : Move) (e : Entry) (h : memWf s.stc.mem) :
    memWf (s.moveCell m e).stc.mem := by
  have w := Stc.copyCell_wf e (e.kind.cell m.old m.mark) (e.kind.cell m.new m.mark) h
  unfold State.moveCell
  simp only
  split
  · rw [State.moveDone_mem]; split <;> exact w
  · split <;> exact w

@[simp] theorem State.voiceParity_mem (s : State) (i : LineNo) (id : Nat) :
    (s.voiceParity i id).stc.mem = s.stc.mem := rfl

@[simp] theorem State.setOp_mem (s : State) (i : LineNo) (o : VoiceOp) :
    (s.setOp i o).stc.mem = s.stc.mem := rfl

@[simp] theorem State.playStarts_mem (s : State) (i : LineNo) (o : VoiceOp) :
    (s.playStarts i o).stc.mem = s.stc.mem := rfl

@[simp] theorem State.loadCoder_mem (s : State) (i : LineNo) (o : VoiceOp) (e : Entry) :
    (s.loadCoder i o e).stc.mem = s.stc.mem := by
  simp only [State.loadCoder]; (repeat' split) <;> simp_all

@[simp] theorem State.recordStarts_mem (s : State) (i : LineNo) (o : VoiceOp) (e : Entry) :
    (s.recordStarts i o e).stc.mem = s.stc.mem := by
  simp only [State.recordStarts]; (repeat' split) <;> simp_all

@[simp] theorem State.playOut_mem (s : State) (i : LineNo) (o : VoiceOp) (n : Nat) :
    (s.playOut i o n).stc.mem = s.stc.mem := rfl

@[simp] theorem State.playCell_mem (s : State) (i : LineNo) (o : VoiceOp) (e : Entry) :
    (s.playCell i o e).stc.mem = s.stc.mem := by
  simp only [State.playCell]; (repeat' split) <;> simp_all

@[simp] theorem State.nextRepeat_mem (s : State) (i : LineNo) (o : VoiceOp) :
    (s.nextRepeat i o).stc.mem = s.stc.mem := rfl

@[simp] theorem State.repeatEnds_mem (s : State) (i : LineNo) (o : VoiceOp) :
    (s.repeatEnds i o).stc.mem = s.stc.mem := by
  unfold State.repeatEnds; (repeat' split) <;> simp_all

@[simp] theorem State.reachCell_mem (s : State) (i : LineNo) (o : VoiceOp) :
    (s.reachCell i o).stc.mem = s.stc.mem := by
  simp only [State.reachCell]; (repeat' split) <;> simp_all

@[simp] theorem State.gapEnds_mem (s : State) (i : LineNo) (o : VoiceOp) :
    (s.gapEnds i o).stc.mem = s.stc.mem := rfl

@[simp] theorem State.silentOut_mem (s : State) (i : LineNo) (o : VoiceOp) :
    (s.silentOut i o).stc.mem = s.stc.mem := rfl

@[simp] theorem State.frameStarts_mem (s : State) (i : LineNo) :
    (s.frameStarts i).stc.mem = s.stc.mem := rfl

@[simp] theorem State.frameBoundary_mem (s : State) (i : LineNo) :
    (s.frameBoundary i).stc.mem = s.stc.mem := by
  unfold State.frameBoundary; (repeat' split) <;> simp_all

@[simp] theorem State.playFrame_mem (s : State) (i : LineNo) (o : VoiceOp) :
    (s.playFrame i o).stc.mem = s.stc.mem := by
  unfold State.playFrame; (repeat' split) <;> simp_all

theorem recSample_wf (o : VoiceOp) (r : RecRun) (x : Int) (h : memWf r.stc.mem) : memWf (recSample o r x).stc.mem := by
  unfold recSample
  split
  · exact h
  · split
    · exact h
    · simp only
      split
      · split
        · exact Stc.writeHeader_wf _ _ _ _ _ h
        · exact h
      · exact Stc.writeByte_wf _ _ h

theorem State.recSamples_wf {s : State} (i : LineNo) (o : VoiceOp) (l : List Int) (h : memWf s.stc.mem) :
    memWf (s.recSamples i o l).1.stc.mem := by
  unfold State.recSamples
  simp only [State.updVc_stc]
  suffices ∀ (l : List Int) (r : RecRun), memWf r.stc.mem → memWf (l.foldl (recSample o) r).stc.mem from this _ _ h
  intro l
  induction l with
  | nil => intro r hr; exact hr
  | cons x r ih => intro y hy; exact ih _ (recSample_wf o y x hy)

@[simp] theorem State.digitEnd_mem (s : State) (i : LineNo) (o : VoiceOp) :
    (s.digitEnd i o).stc.mem = s.stc.mem := by simp [State.digitEnd]

@[simp] theorem State.judgeSilence_mem (s : State) (i : LineNo) (o : VoiceOp) (level : Nat) :
    (s.judgeSilence i o level).stc.mem = s.stc.mem := by
  simp only [State.judgeSilence]; (repeat' split) <;> simp_all

theorem State.recordFrame_wf {s : State} (i : LineNo) (o : VoiceOp) (l : List Int) (h : memWf s.stc.mem) :
    memWf (s.recordFrame i o l).stc.mem := by
  have w := State.recSamples_wf i o (l.drop o.frameFill) h
  unfold State.recordFrame
  simp only
  split
  · simpa using w
  · split <;> simpa using w

theorem State.limitReached_wf {s : State} (i : LineNo) (o : VoiceOp) (l : List Int) (h : memWf s.stc.mem) :
    memWf (s.limitReached i o l).stc.mem := by
  have w := State.recSamples_wf i o (l.take (80 - o.frameFill)) h
  unfold State.limitReached
  simp only
  split
  · simpa using w
  · exact w

@[simp] theorem State.startOp_mem (s : State) (i : LineNo) (o : VoiceOp) (a : Activity) :
    (s.startOp i o a).stc.mem = s.stc.mem := by
  simp only [State.startOp]; (repeat' split) <;> simp_all

@[simp] theorem takePlay_mem (s : State) (line slot startCell repeats gap stopOnDigit : Nat) :
    (takePlay s line slot startCell repeats gap stopOnDigit).state.stc.mem = s.stc.mem := by
  simp only [takePlay, voiceCheck, onLine, onPart, okWith, refuse]; (repeat' split) <;> simp

@[simp] theorem takeRecd_mem (s : State) (line slot limit silence threshold stopOnDigit : Nat) :
    (takeRecd s line slot limit silence threshold stopOnDigit).state.stc.mem = s.stc.mem := by
  simp only [takeRecd, voiceCheck, onLine, onPart, okWith, refuse]; (repeat' split) <;> simp

@[simp] theorem takePaus_mem (s : State) (line value : Nat) :
    (takePaus s line value).state.stc.mem = s.stc.mem := by
  simp only [takePaus, onLine, onPart, onEntry, okWith, refuse]; (repeat' split) <;> simp

@[simp] theorem State.stopWaiting_mem (s : State) (i : LineNo) (o : VoiceOp) :
    (s.stopWaiting i o).stc.mem = s.stc.mem := by
  unfold State.stopWaiting; (repeat' split) <;> simp_all

@[simp] theorem takeVstp_mem (s : State) (line : Nat) :
    (takeVstp s line).state.stc.mem = s.stc.mem := by
  simp only [takeVstp, onLine, onPart, onEntry, okWith, refuse]; (repeat' split) <;> simp

@[simp] theorem State.callingBurst_mem (s : State) (i : LineNo) :
    (s.callingBurst i).stc.mem = s.stc.mem := by
  simp only [State.callingBurst]; (repeat' split) <;> simp_all

@[simp] theorem State.takeOp_mem (s : State) (i : LineNo) :
    (s.takeOp i).1.stc.mem = s.stc.mem := by
  unfold State.takeOp; (repeat' split) <;> simp_all

@[simp] theorem State.planTaken_mem (s : State) (i : LineNo) :
    (s.planTaken i).stc.mem = s.stc.mem := by simp [State.planTaken]

@[simp] theorem takeTake_mem (s : State) (line : Nat) :
    (takeTake s line).state.stc.mem = s.stc.mem := by
  simp only [takeTake, onLine, onPart, onEntry, okWith, refuse]; (repeat' split) <;> simp

@[simp] theorem State.softLif_mem (s : State) (i : LineNo) :
    (s.softLif i).stc.mem = s.stc.mem := by simp [State.softLif]

@[simp] theorem State.softCheck_mem (s : State) (i : LineNo) :
    (s.softCheck i).stc.mem = s.stc.mem := by
  unfold State.softCheck; (repeat' split) <;> simp_all

@[simp] theorem State.softCc_mem (s : State) (i : LineNo) :
    (s.softCc i).stc.mem = s.stc.mem := by
  unfold State.softCc; (repeat' split) <;> simp_all

@[simp] theorem State.softBlocks_mem (s : State) (i : LineNo) :
    (s.softBlocks i).stc.mem = s.stc.mem := rfl

@[simp] theorem State.softLine_mem (s : State) (i : LineNo) :
    (s.softLine i).stc.mem = s.stc.mem := by simp [State.softLine]

@[simp] theorem State.softLines_mem (s : State) : s.softLines.stc.mem = s.stc.mem :=
  State.mem_foldl _ (fun t i => State.softLine_mem t i) _ _

@[simp] theorem State.softReset_mem (s : State) : s.softReset.stc.mem = s.stc.mem :=
  by simp [State.softReset]

@[simp] theorem State.hardReset_mem (s : State) (c : ResetCause) :
    (s.hardReset c).stc.mem = s.stc.mem := rfl

@[simp] theorem State.withLive_mem (s : State) (t : Settings) :
    (s.withLive t).stc.mem = s.stc.mem := rfl

@[simp] theorem takeNmsk_mem (s : State) (line : Nat) (settings : List (List Byte × Nat × Nat × Nat)) :
    (takeNmsk s line settings).state.stc.mem = s.stc.mem := by
  simp only [takeNmsk, onLine, onPart, onEntry, okWith, refuse]; (repeat' split) <;> simp

@[simp] theorem takeGetp_mem (s : State) (line section_ sline : Nat) :
    (takeGetp s line section_ sline).state.stc.mem = s.stc.mem := by
  simp only [takeGetp, onLine, onPart, onEntry, okWith, refuse]; (repeat' split) <;> simp

@[simp] theorem State.settingTakes_mem (s : State) (code : Nat) (old : Settings) :
    (s.settingTakes code old).stc.mem = s.stc.mem := by
  unfold State.settingTakes
  split
  · rw [State.mem_foldl _ State.lineEvent_mem]; simp
  · rfl
  · rfl

@[simp] theorem takeSetp_mem (s : State) (line section_ : Nat) (contents : List Byte) :
    (takeSetp s line section_ contents).state.stc.mem = s.stc.mem := by
  simp only [takeSetp, onLine, onPart, onEntry, okWith, refuse]; (repeat' split) <;> simp

@[simp] theorem takeSave_mem (s : State) (line : Nat) :
    (takeSave s line).state.stc.mem = s.stc.mem := by
  simp only [takeSave, onLine, onPart, onEntry, okWith, refuse]; (repeat' split) <;> simp

@[simp] theorem takeRsetSoft_mem (s : State) (line : Nat) :
    (takeRsetSoft s line).state.stc.mem = s.stc.mem := by
  simp only [takeRsetSoft, onLine, onPart, onEntry, okWith, refuse]; (repeat' split) <;> simp

@[simp] theorem takeRsetHard_mem (s : State) (line : Nat) :
    (takeRsetHard s line).state.stc.mem = s.stc.mem := by
  simp only [takeRsetHard, onLine, onPart, onEntry, okWith, refuse]; (repeat' split) <;> simp

@[simp] theorem takeRset_mem (s : State) (line kind : Nat) :
    (takeRset s line kind).state.stc.mem = s.stc.mem := by
  unfold takeRset; (repeat' split) <;> simp_all

@[simp] theorem takeCntr_mem (s : State) (line selector clear : Nat) :
    (takeCntr s line selector clear).state.stc.mem = s.stc.mem := by
  simp only [takeCntr, onLine, onPart, onEntry, okWith, refuse]; (repeat' split) <;> simp

@[simp] theorem State.applySettings_mem (s : State) :
    (s.applySettings).stc.mem = s.stc.mem := rfl

@[simp] theorem State.startUpEnds_mem (s : State) (read : Option (List Byte)) :
    (s.startUpEnds read).stc.mem = s.stc.mem := rfl

end Sys2Proof.Machine
end

