-- ==== Sys2Proof/Laws/Outer.lean ====
section
/-! SUPPORT. What no effect of an event or of a request touches, other than through the Link Port and the Settings Loader:
the queue of commands, the phase, the Link Port and the settings. One lemma per operation, so that no proof about these
unfolds one. -/

namespace Sys2Proof.Machine

open Sys2Proof

/-- The queue of commands, the phase, the Link Port and the settings. -/
def State.outer (s : State) : List Instr × Phase × Lp × Sl := (s.pending, s.phase, s.lp, s.sl)

@[simp] theorem State.outer_mk (p n ph c l g ct b st lp nu sl cn fc) :
    State.outer ⟨p, n, ph, c, l, g, ct, b, st, lp, nu, sl, cn, fc⟩ = (p, ph, lp, sl) := rfl

@[simp] theorem State.outer_fold (s : State) : (s.pending, s.phase, s.lp, s.sl) = s.outer := rfl

/-- The four parts of two equal outer states are equal. -/
theorem State.outer_eq {s t : State} (h : s.outer = t.outer) :
    s.pending = t.pending ∧ s.phase = t.phase ∧ s.lp = t.lp ∧ s.sl = t.sl := by
  simpa only [State.outer, Prod.mk.injEq] using h

theorem State.outer_foldl {α : Type} (f : State → α → State) (h : ∀ s a, (f s a).outer = s.outer) :
    ∀ (l : List α) (s : State), (l.foldl f s).outer = s.outer
  | [], _ => rfl
  | a :: r, s => by rw [List.foldl_cons, State.outer_foldl f h r, h]

@[simp] theorem State.setFlag_outer (s : State) (k : Notice) (i : LineNo) (b : Bool) :
    (s.setFlag k i b).outer = s.outer := rfl

@[simp] theorem State.raise_outer (s : State) (k : Notice) (i : LineNo) :
    (s.raise k i).outer = s.outer := rfl

@[simp] theorem State.raisePart_outer (s : State) (k : Notice) :
    (s.raisePart k).outer = s.outer := rfl

@[simp] theorem State.upd_outer (s : State) (i : LineNo) (f : Line → Line) :
    (s.upd i f).outer = s.outer := rfl

@[simp] theorem State.updLif_outer (s : State) (i : LineNo) (f : Lif → Lif) :
    (s.updLif i f).outer = s.outer := rfl

@[simp] theorem State.updCc_outer (s : State) (i : LineNo) (f : Cc → Cc) :
    (s.updCc i f).outer = s.outer := rfl

@[simp] theorem State.updTu_outer (s : State) (i : LineNo) (f : Tu → Tu) :
    (s.updTu i f).outer = s.outer := rfl

@[simp] theorem State.updDp_outer (s : State) (i : LineNo) (f : Dp → Dp) :
    (s.updDp i f).outer = s.outer := rfl

@[simp] theorem State.updBlc_outer (s : State) (i : LineNo) (f : Blc → Blc) :
    (s.updBlc i f).outer = s.outer := rfl

@[simp] theorem State.updFxc_outer (s : State) (i : LineNo) (f : Fxc → Fxc) :
    (s.updFxc i f).outer = s.outer := rfl

@[simp] theorem State.updVc_outer (s : State) (i : LineNo) (f : Vc → Vc) :
    (s.updVc i f).outer = s.outer := rfl

@[simp] theorem State.updApc_outer (s : State) (i : LineNo) (f : Apc → Apc) :
    (s.updApc i f).outer = s.outer := rfl

@[simp] theorem State.updCnt_outer (s : State) (i : LineNo) (f : LineCounters → LineCounters) :
    (s.updCnt i f).outer = s.outer := rfl

@[simp] theorem State.reach_outer (s : State) (d : Nat) :
    (s.reach d).outer = s.outer := rfl

theorem onExpiry_outer (t : Option Nat) (s : State) (f : State → State) (h : ∀ x, (f x).outer = x.outer) :
    (onExpiry t s f).outer = s.outer := by
  unfold onExpiry; split
  · rfl
  · rw [h]; rfl

@[simp] theorem State.emptySlots_outer (s : State) (p : Attach → Bool) :
    (s.emptySlots p).outer = s.outer := rfl

@[simp] theorem State.setSlot_outer (s : State) (i slot : LineNo) (a : Option Attach) :
    (s.setSlot i slot a).outer = s.outer := rfl

@[simp] theorem State.closeEntry_outer (s : State) (id : Nat) :
    (s.closeEntry id).outer = s.outer := rfl

@[simp] theorem State.freeEntry_outer (s : State) (id : Nat) :
    (s.freeEntry id).outer = s.outer := rfl

@[simp] theorem State.tryDelete_outer (s : State) (id : Nat) :
    (s.tryDelete id).1.outer = s.outer := by
  unfold State.tryDelete; (repeat' split) <;> simp_all

@[simp] theorem State.addActs_outer (s : State) (i : LineNo) (a : List Activity) :
    (s.addActs i a).outer = s.outer := rfl

@[simp] theorem State.endActs_outer (s : State) (i : LineNo) (a : List Activity) :
    (s.endActs i a).outer = s.outer := by
  unfold State.endActs; (repeat' split) <;> simp_all

@[simp] theorem State.setCounted_outer (s : State) (i : LineNo) (c : Cls) :
    (s.setCounted i c).outer = s.outer := by
  unfold State.setCounted; (repeat' split) <;> simp_all

@[simp] theorem State.dropPending_outer (s : State) (i : LineNo) :
    (s.dropPending i).outer = s.outer := by
  unfold State.dropPending; (repeat' split) <;> simp_all

@[simp] theorem State.joinPending_outer (s : State) (i : LineNo) (a : Ask) (r : Requester) :
    (s.joinPending i a r).outer = s.outer := rfl

@[simp] theorem State.seize_outer (s : State) (i : LineNo) :
    (s.seize i).outer = s.outer := by
  unfold State.seize; (repeat' split) <;> simp_all

@[simp] theorem State.release_outer (s : State) (i : LineNo) :
    (s.release i).outer = s.outer := by
  unfold State.release; (repeat' split) <;> simp_all

@[simp] theorem State.flashOrder_outer (s : State) (i : LineNo) :
    (s.flashOrder i).1.outer = s.outer := by
  unfold State.flashOrder; (repeat' split) <;> simp_all

@[simp] theorem State.breakOrder_outer (s : State) (i : LineNo) (n : Nat) :
    (s.breakOrder i n).1.outer = s.outer := by
  unfold State.breakOrder; (repeat' split) <;> simp_all

@[simp] theorem State.recomputeGroups_outer (s : State) :
    (s.recomputeGroups).outer = s.outer := by
  simp only [State.recomputeGroups]; (repeat' split) <;> simp_all

@[simp] theorem State.applyResult_outer (s : State) (i : LineNo) (good : Bool) :
    (s.applyResult i good).outer = s.outer := by
  simp only [State.applyResult]; (repeat' split) <;> simp_all

@[simp] theorem State.enterSeized_outer (s : State) (i : LineNo) (kind : CallKind) (dial : List DialElem) (m : DialMethod) (conn : Option Conn) :
    (s.enterSeized i kind dial m conn).outer = s.outer := by simp [State.enterSeized]

@[simp] theorem State.recordEvent_outer (s : State) (e : QEvent) :
    (s.recordEvent e).outer = s.outer := by
  unfold State.recordEvent; (repeat' split) <;> simp_all

@[simp] theorem State.dispatchTo_outer (s : State) (c : GroupCall) (i : LineNo) (entry : Nat) :
    (s.dispatchTo c i entry).outer = s.outer := by simp [State.dispatchTo]

@[simp] theorem State.setRec_outer (s : State) (k : Nat) (r : EntryRec) :
    (s.setRec k r).outer = s.outer := rfl

@[simp] theorem State.dispatchEntry_outer (s : State) (k : Nat) (r : EntryRec) (i : LineNo) :
    (s.dispatchEntry k r i).outer = s.outer := by simp [State.dispatchEntry]

@[simp] theorem State.lineEvent_outer (s : State) (i : LineNo) :
    (s.lineEvent i).outer = s.outer := by
  simp only [State.lineEvent]; (repeat' split) <;> simp_all

@[simp] theorem State.offerEntry_outer (s : State) (k : Nat) :
    (s.offerEntry k).outer = s.outer := by
  unfold State.offerEntry; (repeat' split) <;> simp_all

@[simp] theorem State.walkQueue_outer (s : State) : s.walkQueue.outer = s.outer :=
  State.outer_foldl _ State.offerEntry_outer _ _

@[simp] theorem State.freeAssigned_outer (s : State) (i : LineNo) :
    (s.freeAssigned i).outer = s.outer := rfl

@[simp] theorem State.glareReturn_outer (s : State) (i : LineNo) :
    (s.glareReturn i).outer = s.outer := by
  unfold State.glareReturn; (repeat' split) <;> simp_all

@[simp] theorem State.toIdle_outer (s : State) (i : LineNo) :
    (s.toIdle i).outer = s.outer := rfl

@[simp] theorem State.superviseLine_outer (s : State) (i : LineNo) (good : Bool) :
    (s.superviseLine i good).outer = s.outer := by
  simp only [State.superviseLine]; (repeat' split) <;> simp_all

@[simp] theorem State.linkPumpLeft_outer (s : State) (i : LineNo) :
    (s.linkPumpLeft i).outer = s.outer := rfl

@[simp] theorem State.beginExchange_outer (s : State) (i : LineNo) :
    (s.beginExchange i).outer = s.outer := rfl

@[simp] theorem State.enterRateChange_outer (s : State) (i : LineNo) (up : Bool) (target : Cls) :
    (s.enterRateChange i up target).outer = s.outer := by
  simp only [State.enterRateChange]; (repeat' split) <;> simp_all

@[simp] theorem State.owe_outer (s : State) (i : LineNo) (c : Cls) :
    (s.owe i c).outer = s.outer := rfl

@[simp] theorem State.stepDown_outer (s : State) (i : LineNo) :
    (s.stepDown i).outer = s.outer := by
  simp only [State.stepDown]; (repeat' split) <;> simp_all

@[simp] theorem State.considerReclaim_outer (s : State) :
    (s.considerReclaim).outer = s.outer := by
  unfold State.considerReclaim; (repeat' split) <;> simp_all

@[simp] theorem State.reclaimCheck_outer (s : State) (i : LineNo) :
    (s.reclaimCheck i).outer = s.outer := by
  unfold State.reclaimCheck; (repeat' split) <;> simp_all

@[simp] theorem State.request_outer (s : State) (i : LineNo) (ends : List Activity) (a : Ask) (r : Requester) :
    (s.request i ends a r).1.outer = s.outer := by
  simp only [State.request]; (repeat' split) <;> simp_all

@[simp] theorem State.closeClid_outer (s : State) (i : LineNo) :
    (s.closeClid i).outer = s.outer := by
  unfold State.closeClid; (repeat' split) <;> simp_all

@[simp] theorem State.closeOp_outer (s : State) (i : LineNo) (r : VoiceOutcome) :
    (s.closeOp i r).outer = s.outer := by
  unfold State.closeOp; (repeat' split) <;> simp_all

@[simp] theorem State.finishOp_outer (s : State) (i : LineNo) (r : VoiceOutcome) :
    (s.finishOp i r).outer = s.outer := by
  unfold State.finishOp; (repeat' split) <;> simp_all

@[simp] theorem State.trim_outer (s : State) (id n : Nat) :
    (s.trim id n).outer = s.outer := rfl

@[simp] theorem State.planOutcome_outer (s : State) (i : LineNo) (r : PlanResult) :
    (s.planOutcome i r).outer = s.outer := rfl

@[simp] theorem State.settleMessage_outer (s : State) (i : LineNo) :
    (s.settleMessage i).1.outer = s.outer := by
  simp only [State.settleMessage]; (repeat' split) <;> simp_all

@[simp] theorem State.dropMessage_outer (s : State) (id : Nat) :
    (s.dropMessage id).outer = s.outer := by simp [State.dropMessage]

@[simp] theorem State.planInactive_outer (s : State) (i : LineNo) :
    (s.planInactive i).outer = s.outer := rfl

@[simp] theorem State.planRecordingEnds_outer (s : State) (i : LineNo) :
    (s.planRecordingEnds i).outer = s.outer := by
  unfold State.planRecordingEnds; (repeat' split) <;> simp_all

@[simp] theorem State.digitTrim_outer (s : State) (o : VoiceOp) :
    (s.digitTrim o).outer = s.outer := by
  unfold State.digitTrim; (repeat' split) <;> simp_all

@[simp] theorem State.stopOp_outer (s : State) (i : LineNo) (r : VoiceOutcome) :
    (s.stopOp i r).outer = s.outer := by
  unfold State.stopOp; (repeat' split) <;> simp_all

@[simp] theorem State.voiceClears_outer (s : State) (i : LineNo) :
    (s.voiceClears i).outer = s.outer := by
  unfold State.voiceClears; (repeat' split) <;> simp_all

@[simp] theorem State.planClears_outer (s : State) (i : LineNo) :
    (s.planClears i).outer = s.outer := by
  unfold State.planClears; (repeat' split) <;> simp_all

@[simp] theorem State.closePage_outer (s : State) (i : LineNo) (j : FaxJob) (id missing : Nat) :
    (s.closePage i j id missing).outer = s.outer := rfl

@[simp] theorem State.closeIncomplete_outer (s : State) (i : LineNo) :
    (s.closeIncomplete i).outer = s.outer := by
  unfold State.closeIncomplete; (repeat' split) <;> simp_all

@[simp] theorem State.endJob_outer (s : State) (i : LineNo) (r : FaxOutcome) :
    (s.endJob i r).outer = s.outer := by simp [State.endJob]

@[simp] theorem State.faxClears_outer (s : State) (i : LineNo) :
    (s.faxClears i).outer = s.outer := by
  unfold State.faxClears; (repeat' split) <;> simp_all

@[simp] theorem State.linkClears_outer (s : State) (i : LineNo) :
    (s.linkClears i).outer = s.outer := rfl

@[simp] theorem State.budgetClears_outer (s : State) (i : LineNo) :
    (s.budgetClears i).outer = s.outer := by simp [State.budgetClears]

@[simp] theorem State.ccClears_outer (s : State) (i : LineNo) (r : EndReason) :
    (s.ccClears i r).outer = s.outer := rfl

@[simp] theorem State.toneClears_outer (s : State) (i : LineNo) :
    (s.toneClears i).outer = s.outer := by simp [State.toneClears]

@[simp] theorem State.clearWith_outer (s : State) (i : LineNo) (r : EndReason) :
    (s.clearWith i r).outer = s.outer := by
  unfold State.clearWith; (repeat' split) <;> simp_all

@[simp] theorem State.startClearing_outer (s : State) (i : LineNo) :
    (s.startClearing i).outer = s.outer := by
  unfold State.startClearing; (repeat' split) <;> simp_all

@[simp] theorem State.joinCause_outer (s : State) (i : LineNo) (c : Cause) :
    (s.joinCause i c).outer = s.outer := by
  unfold State.joinCause; (repeat' split) <;> simp_all

@[simp] theorem State.raiseCause_outer (s : State) (i : LineNo) (c : Cause) :
    (s.raiseCause i c).outer = s.outer := by simp [State.raiseCause]

@[simp] theorem State.progressFails_outer (s : State) (i : LineNo) (o : Outcome) :
    (s.progressFails i o).outer = s.outer := by simp [State.progressFails]

@[simp] theorem State.sendEvent_outer (s : State) (i : LineNo) (isResend : Bool) :
    (s.sendEvent i isResend).outer = s.outer := by
  simp only [State.sendEvent]; (repeat' split) <;> simp_all

@[simp] theorem State.txRose_outer (s : State) (i : LineNo) :
    (s.txRose i).outer = s.outer := by
  simp only [State.txRose]; (repeat' split) <;> simp_all

@[simp] theorem State.txFell_outer (s : State) (i : LineNo) :
    (s.txFell i).outer = s.outer := by
  simp only [State.txFell]; (repeat' split) <;> simp_all

@[simp] theorem State.sendSetup_outer (s : State) (i : LineNo) :
    (s.sendSetup i).outer = s.outer := rfl

@[simp] theorem State.resendBlock_outer (s : State) (i : LineNo) (k : Block) :
    (s.resendBlock i k).outer = s.outer := by simp [State.resendBlock]

@[simp] theorem State.newBlock_outer (s : State) (i : LineNo) :
    (s.newBlock i).outer = s.outer := by
  simp only [State.newBlock]; (repeat' split) <;> simp_all

@[simp] theorem State.startEc_outer (s : State) (i : LineNo) :
    (s.startEc i).outer = s.outer := by
  simp only [State.startEc]; (repeat' split) <;> simp_all

@[simp] theorem State.startTx_outer (s : State) (i : LineNo) :
    (s.startTx i).outer = s.outer := by
  simp only [State.startTx]; (repeat' split) <;> simp_all

@[simp] theorem State.startTry_outer (s : State) (i : LineNo) (n : Nat) :
    (s.startTry i n).outer = s.outer := by simp [State.startTry]

@[simp] theorem State.linkPumpRuns_outer (s : State) (i : LineNo) :
    (s.linkPumpRuns i).outer = s.outer := by
  simp only [State.linkPumpRuns]; (repeat' split) <;> simp_all

@[simp] theorem State.linkWaits_outer (s : State) (i : LineNo) :
    (s.linkWaits i).outer = s.outer := rfl

@[simp] theorem State.startTraining_outer (s : State) (i : LineNo) (f : Family) (floor : Cls) :
    (s.startTraining i f floor).outer = s.outer := rfl

@[simp] theorem State.setClass_outer (s : State) (i : LineNo) (c : Cls) :
    (s.setClass i c).outer = s.outer := by
  simp only [State.setClass]; (repeat' split) <;> simp_all

@[simp] theorem State.orderStands_outer (s : State) (i : LineNo) :
    (s.orderStands i).outer = s.outer := by
  simp only [State.orderStands]; (repeat' split) <;> simp_all

@[simp] theorem State.enterRetraining_outer (s : State) (i : LineNo) :
    (s.enterRetraining i).outer = s.outer := by
  simp only [State.enterRetraining]; (repeat' split) <;> simp_all

@[simp] theorem State.trainingSucceeds_outer (s : State) (i : LineNo) (agreed : Cls) :
    (s.trainingSucceeds i agreed).outer = s.outer := by
  simp only [State.trainingSucceeds]; (repeat' split) <;> simp_all

@[simp] theorem State.trainingFails_outer (s : State) (i : LineNo) :
    (s.trainingFails i).outer = s.outer := by
  simp only [State.trainingFails]; (repeat' split) <;> simp_all

@[simp] theorem State.completeTraining_outer (s : State) (i : LineNo) :
    (s.completeTraining i).outer = s.outer := by
  unfold State.completeTraining; (repeat' split) <;> simp_all

@[simp] theorem State.trainingRead_outer (s : State) (i : LineNo) :
    (s.trainingRead i).outer = s.outer := by
  unfold State.trainingRead; (repeat' split) <;> simp_all

@[simp] theorem State.completeRateChange_outer (s : State) (i : LineNo) :
    (s.completeRateChange i).outer = s.outer := by
  unfold State.completeRateChange; (repeat' split) <;> simp_all

@[simp] theorem State.askForward_outer (s : State) (i : LineNo) (cur next : Cls) :
    (s.askForward i cur next).1.outer = s.outer := by
  unfold State.askForward; (repeat' split) <;> simp_all

@[simp] theorem State.updJob_outer (s : State) (i : LineNo) (f : FaxJob → FaxJob) :
    (s.updJob i f).outer = s.outer := rfl

@[simp] theorem State.faxSend_outer (s : State) (i : LineNo) (m : FaxMsg) :
    (s.faxSend i m).outer = s.outer := rfl

@[simp] theorem State.faxAsk_outer (s : State) (i : LineNo) (m : FaxMsg) :
    (s.faxAsk i m).outer = s.outer := rfl

@[simp] theorem State.senderWait_outer (s : State) (i : LineNo) :
    (s.senderWait i).outer = s.outer := rfl

@[simp] theorem State.faxTell_outer (s : State) (i : LineNo) (m : FaxMsg) :
    (s.faxTell i m).outer = s.outer := rfl

@[simp] theorem State.failJob_outer (s : State) (i : LineNo) (r : FaxOutcome) :
    (s.failJob i r).outer = s.outer := by simp [State.failJob]

@[simp] theorem State.doneJob_outer (s : State) (i : LineNo) :
    (s.doneJob i).outer = s.outer := by simp [State.doneJob]

@[simp] theorem State.startReceive_outer (s : State) (i : LineNo) :
    (s.startReceive i).outer = s.outer := rfl

@[simp] theorem State.startJob_outer (s : State) (i : LineNo) :
    (s.startJob i).outer = s.outer := by
  unfold State.startJob; (repeat' split) <;> simp_all

@[simp] theorem State.newJob_outer (s : State) (i : LineNo) (j : FaxJob) :
    (s.newJob i j).outer = s.outer := rfl

@[simp] theorem State.planJob_outer (s : State) (i : LineNo) (policy : Policy) :
    (s.planJob i policy).outer = s.outer := by simp [State.planJob]

@[simp] theorem State.startPart_outer (s : State) (i : LineNo) (p : Nat) :
    (s.startPart i p).outer = s.outer := by
  unfold State.startPart; (repeat' split) <;> simp_all

@[simp] theorem State.beginSendPage_outer (s : State) (i : LineNo) :
    (s.beginSendPage i).outer = s.outer := by
  unfold State.beginSendPage; (repeat' split) <;> simp_all

@[simp] theorem State.sendPageClose_outer (s : State) (i : LineNo) (j : FaxJob) :
    (s.sendPageClose i j).outer = s.outer := rfl

@[simp] theorem State.afterPart_outer (s : State) (i : LineNo) :
    (s.afterPart i).outer = s.outer := by
  unfold State.afterPart; (repeat' split) <;> simp_all

@[simp] theorem State.startCheck_outer (s : State) (i : LineNo) (c : Cls) (after : AfterCheck) :
    (s.startCheck i c after).outer = s.outer := by
  simp only [State.startCheck]; (repeat' split) <;> simp_all

@[simp] theorem State.announceCheck_outer (s : State) (i : LineNo) (c : Cls) (after : AfterCheck) :
    (s.announceCheck i c after).outer = s.outer := by simp [State.announceCheck]

@[simp] theorem State.checkEnds_outer (s : State) (i : LineNo) (c : Cls) :
    (s.checkEnds i c).outer = s.outer := by
  simp only [State.checkEnds]; (repeat' split) <;> simp_all

@[simp] theorem State.checkAccepted_outer (s : State) (i : LineNo) (c : Cls) (acc : Nat) :
    (s.checkAccepted i c acc).outer = s.outer := by
  unfold State.checkAccepted; (repeat' split) <;> simp_all

@[simp] theorem State.checkRejected_outer (s : State) (i : LineNo) (c : Cls) (named : Option Cls) :
    (s.checkRejected i c named).outer = s.outer := by
  unfold State.checkRejected; (repeat' split) <;> simp_all

@[simp] theorem State.faxCheckRead_outer (s : State) (i : LineNo) :
    (s.faxCheckRead i).outer = s.outer := by
  simp only [State.faxCheckRead]; (repeat' split) <;> simp_all

@[simp] theorem State.countResent_outer (s : State) (i : LineNo) (n : Nat) :
    (s.countResent i n).outer = s.outer := rfl

@[simp] theorem State.sendBoundary_outer (s : State) (i : LineNo) (n : List Nat) :
    (s.sendBoundary i n).outer = s.outer := by
  unfold State.sendBoundary; (repeat' split) <;> simp_all

@[simp] theorem State.receiveBoundary_outer (s : State) (i : LineNo) (missing : List Nat) :
    (s.receiveBoundary i missing).outer = s.outer := by
  unfold State.receiveBoundary; (repeat' split) <;> simp_all

@[simp] theorem State.receiveResend_outer (s : State) (i : LineNo) (missing : List Nat) :
    (s.receiveResend i missing).outer = s.outer := rfl

@[simp] theorem State.receiveRetrain_outer (s : State) (i : LineNo) (missing : List Nat) (cur : Cls) :
    (s.receiveRetrain i missing cur).outer = s.outer := by simp [State.receiveRetrain]

@[simp] theorem State.judgeRound_outer (s : State) (i : LineNo) (j : FaxJob) :
    (s.judgeRound i j).outer = s.outer := by
  unfold State.judgeRound; (repeat' split) <;> simp_all

@[simp] theorem State.sendRetrain_outer (s : State) (i : LineNo) (missing : List Nat) (cur : Cls) (named : Option Cls) :
    (s.sendRetrain i missing cur named).outer = s.outer := by
  unfold State.sendRetrain; (repeat' split) <;> simp_all

@[simp] theorem State.followMap_outer (s : State) (i : LineNo) (j : FaxJob) (missing : List Nat) (a : MapAction) :
    (s.followMap i j missing a).outer = s.outer := by
  unfold State.followMap; (repeat' split) <;> simp_all

@[simp] theorem State.takePart_outer (s : State) (i : LineNo) (id p c : Nat) (last : Bool) :
    (s.takePart i id p c last).outer = s.outer := by
  unfold State.takePart; (repeat' split) <;> simp_all

@[simp] theorem State.beginReceivePage_outer (s : State) (i : LineNo) (j : FaxJob) (c : Nat) (last : Bool) :
    (s.beginReceivePage i j c last).outer = s.outer := by
  simp only [State.beginReceivePage]; (repeat' split) <;> simp_all

@[simp] theorem State.takeHeader_outer (s : State) (i : LineNo) (j : FaxJob) (p c : Nat) (last : Bool) :
    (s.takeHeader i j p c last).outer = s.outer := by
  unfold State.takeHeader; (repeat' split) <;> simp_all

@[simp] theorem State.storeFrame_outer (s : State) (i : LineNo) (j : FaxJob) (n : Nat) (b : List Byte) :
    (s.storeFrame i j n b).outer = s.outer := by
  unfold State.storeFrame; (repeat' split) <;> simp_all

@[simp] theorem State.completePage_outer (s : State) (i : LineNo) (j : FaxJob) (id : Nat) (more : Bool) :
    (s.completePage i j id more).outer = s.outer := by
  unfold State.completePage
  exact (State.faxTell_outer _ i .pageConfirmation).trans (State.closePage_outer s i j id j.pageMissing)

@[simp] theorem State.readFrame_outer (s : State) (i : LineNo) (j : FaxJob) (n : Nat) :
    (s.readFrame i j n).1.outer = s.outer := by
  simp only [State.readFrame]; (repeat' split) <;> simp_all

@[simp] theorem State.answerAgain_outer (s : State) (i : LineNo) (j : FaxJob) (k : FaxKind) :
    (s.answerAgain i j k).outer = s.outer := by
  simp only [State.answerAgain]; (repeat' split) <;> simp_all

@[simp] theorem State.faxConnected_outer (s : State) (i : LineNo) :
    (s.faxConnected i).outer = s.outer := by
  unfold State.faxConnected; (repeat' split) <;> simp_all

@[simp] theorem State.ccConnected_outer (s : State) (i : LineNo) :
    (s.ccConnected i).outer = s.outer := rfl

@[simp] theorem State.planFaxStarts_outer (s : State) (i : LineNo) :
    (s.planFaxStarts i).outer = s.outer := by simp [State.planFaxStarts]

@[simp] theorem State.connectedStarts_outer (s : State) (i : LineNo) :
    (s.connectedStarts i).outer = s.outer := by
  simp only [State.connectedStarts]; (repeat' split) <;> simp_all

@[simp] theorem State.enterConnected_outer (s : State) (i : LineNo) :
    (s.enterConnected i).outer = s.outer := by simp [State.enterConnected]

@[simp] theorem State.askConnection_outer (s : State) (i : LineNo) :
    (s.askConnection i).outer = s.outer := by
  simp only [State.askConnection]; (repeat' split) <;> simp_all

@[simp] theorem State.planEnding_outer (s : State) (i : LineNo) (r : PlanResult) :
    (s.planEnding i r).outer = s.outer := by simp [State.planEnding]

@[simp] theorem State.planNotRecorded_outer (s : State) (i : LineNo) :
    (s.planNotRecorded i).outer = s.outer := by simp [State.planNotRecorded]

@[simp] theorem State.planRecorded_outer (s : State) (i : LineNo) :
    (s.planRecorded i).outer = s.outer := by simp [State.planRecorded]

@[simp] theorem State.opGranted_outer (s : State) (i : LineNo) :
    (s.opGranted i).outer = s.outer := by
  unfold State.opGranted; (repeat' split) <;> simp_all

@[simp] theorem State.recordStep_outer (s : State) (i : LineNo) :
    (s.recordStep i).outer = s.outer := by
  simp only [State.recordStep]; (repeat' split) <;> simp_all

@[simp] theorem State.chooseMailbox_outer (s : State) (i : LineNo) (m : Nat) :
    (s.chooseMailbox i m).outer = s.outer := by simp [State.chooseMailbox]

@[simp] theorem State.mailboxLook_outer (s : State) (i : LineNo) :
    (s.mailboxLook i).outer = s.outer := by
  unfold State.mailboxLook; (repeat' split) <;> simp_all

@[simp] theorem State.mailboxStep_outer (s : State) (i : LineNo) :
    (s.mailboxStep i).outer = s.outer := by
  simp only [State.mailboxStep]; (repeat' split) <;> simp_all

@[simp] theorem State.enterGreeting_outer (s : State) (i : LineNo) (id : Nat) :
    (s.enterGreeting i id).outer = s.outer := rfl

@[simp] theorem State.greetingEnds_outer (s : State) (i : LineNo) (r : VoiceOutcome) :
    (s.greetingEnds i r).outer = s.outer := by
  simp only [State.greetingEnds]; split <;> simp

@[simp] theorem State.opEnds_outer (s : State) (i : LineNo) (r : VoiceOutcome) :
    (s.opEnds i r).outer = s.outer := by
  unfold State.opEnds; (repeat' split) <;> simp_all

@[simp] theorem State.enterAnswering_outer (s : State) (i : LineNo) (k : CallKind) (c : Option Conn) :
    (s.enterAnswering i k c).outer = s.outer := by simp [State.enterAnswering]

@[simp] theorem State.answerVoice_outer (s : State) (i : LineNo) (p : Profile) :
    (s.answerVoice i p).outer = s.outer := by simp [State.answerVoice]

@[simp] theorem State.answerModem_outer (s : State) (i : LineNo) (p : Profile) (st : PlanState) (k : CallKind) (c : Conn) :
    (s.answerModem i p st k c).outer = s.outer := by simp [State.answerModem]

@[simp] theorem State.answerOrder_outer (s : State) (i : LineNo) :
    (s.answerOrder i).outer = s.outer := by
  unfold State.answerOrder; (repeat' split) <;> simp_all

@[simp] theorem State.answerDecision_outer (s : State) (i : LineNo) :
    (s.answerDecision i).outer = s.outer := by
  unfold State.answerDecision; (repeat' split) <;> simp_all

@[simp] theorem State.planAnswered_outer (s : State) (i : LineNo) :
    (s.planAnswered i).outer = s.outer := by
  unfold State.planAnswered; (repeat' split) <;> simp_all

@[simp] theorem State.planAsks_outer (s : State) (i : LineNo) :
    (s.planAsks i).outer = s.outer := by
  simp only [State.planAsks]; (repeat' split) <;> simp_all

@[simp] theorem State.planFaxGranted_outer (s : State) (i : LineNo) :
    (s.planFaxGranted i).outer = s.outer := by simp [State.planFaxGranted]

@[simp] theorem State.faxHandoff_outer (s : State) (i : LineNo) :
    (s.faxHandoff i).outer = s.outer := by
  simp only [State.faxHandoff]; (repeat' split) <;> simp_all

@[simp] theorem State.planFaxFailed_outer (s : State) (i : LineNo) :
    (s.planFaxFailed i).outer = s.outer := by
  simp only [State.planFaxFailed]; (repeat' split) <;> simp_all

@[simp] theorem State.grantTo_outer (s : State) (i : LineNo) (r : Requester) :
    (s.grantTo i r).outer = s.outer := by
  unfold State.grantTo; (repeat' split) <;> simp_all

@[simp] theorem State.grant_outer (s : State) (p : Pending) (acts : List Activity) :
    (s.grant p acts).outer = s.outer := by simp [State.grant]

@[simp] theorem State.opFails_outer (s : State) (i : LineNo) :
    (s.opFails i).outer = s.outer := by
  unfold State.opFails; (repeat' split) <;> simp_all

@[simp] theorem State.planRecordFails_outer (s : State) (i : LineNo) :
    (s.planRecordFails i).outer = s.outer := by
  unfold State.planRecordFails; (repeat' split) <;> simp_all

@[simp] theorem State.failTo_outer (s : State) (i : LineNo) (r : Requester) :
    (s.failTo i r).outer = s.outer := by
  unfold State.failTo; (repeat' split) <;> simp_all

@[simp] theorem State.settled_outer (s : State) :
    (s.settled).outer = s.outer := rfl

@[simp] theorem State.handOutEnds_outer (s : State) :
    (s.handOutEnds).outer = s.outer := by
  unfold State.handOutEnds; (repeat' split) <;> simp_all

theorem settleN_outer : ∀ (n : Nat) (s : State), (settleN n s).outer = s.outer
  | 0, _ => rfl
  | n + 1, s => by
    unfold settleN
    split
    · split
      · simp
      · split
        · simp
        · rw [settleN_outer n]; simp
    · rfl

@[simp] theorem State.settle_outer (s : State) : s.settle.outer = s.outer := settleN_outer 32 s

@[simp] theorem refuse_outer (s : State) (st : Status) :
    (refuse s st).state.outer = s.outer := rfl

@[simp] theorem okWith_outer (s : State) (f : List Byte) :
    (okWith s f).state.outer = s.outer := rfl

theorem onLine_outer (s : State) (line : Nat) (f : LineNo → Answer) (h : ∀ i, (f i).state.outer = s.outer) :
    (onLine s line f).state.outer = s.outer := by
  unfold onLine; split
  · exact h _
  · rfl

@[simp] theorem State.enterRinging_outer (s : State) (i : LineNo) :
    (s.enterRinging i).outer = s.outer := rfl

@[simp] theorem State.ring_outer (s : State) (i : LineNo) :
    (s.ring i).outer = s.outer := by
  unfold State.ring; (repeat' split) <;> simp_all

@[simp] theorem State.glare_outer (s : State) (i : LineNo) :
    (s.glare i).outer = s.outer := by
  unfold State.glare; (repeat' split) <;> simp_all

@[simp] theorem State.abandoned_outer (s : State) (i : LineNo) :
    (s.abandoned i).outer = s.outer := by
  unfold State.abandoned; (repeat' split) <;> simp_all

@[simp] theorem State.enterProgress_outer (s : State) (i : LineNo) :
    (s.enterProgress i).outer = s.outer := by
  unfold State.enterProgress; split <;> rfl

@[simp] theorem State.beginElem_outer (s : State) (i : LineNo) (e : DialElem) :
    (s.beginElem i e).1.outer = s.outer := by
  simp only [State.beginElem]; (repeat' split) <;> simp_all

theorem State.dialFrom_outer (i : LineNo) : ∀ (l : List DialElem) (s : State), (s.dialFrom i l).outer = s.outer
  | [], s => by simp [State.dialFrom]
  | e :: r, s => by
    unfold State.dialFrom
    simp only
    split
    · simp
    · rw [State.dialFrom_outer i r]
      exact State.beginElem_outer s i e

@[simp] theorem State.elemEnds_outer (s : State) (i : LineNo) : (s.elemEnds i).outer = s.outer := by
  simp only [State.elemEnds, State.dialFrom_outer]; rfl

@[simp] theorem State.beginDialling_outer (s : State) (i : LineNo) : (s.beginDialling i).outer = s.outer := by
  simp only [State.beginDialling, State.dialFrom_outer]; rfl

@[simp] theorem State.progressConnects_outer (s : State) (i : LineNo) :
    (s.progressConnects i).outer = s.outer := by simp [State.progressConnects]

@[simp] theorem State.noBusy_outer (s : State) (i : LineNo) :
    (s.noBusy i).outer = s.outer := rfl

@[simp] theorem State.busyHangup_outer (s : State) (i : LineNo) :
    (s.busyHangup i).outer = s.outer := by
  unfold State.busyHangup; (repeat' split) <;> simp_all

@[simp] theorem State.busyCycle_outer (s : State) (i : LineNo) :
    (s.busyCycle i).outer = s.outer := by
  simp only [State.busyCycle]; (repeat' split) <;> simp_all

@[simp] theorem State.markBusyStart_outer (s : State) (i : LineNo) :
    (s.markBusyStart i).outer = s.outer := by
  unfold State.markBusyStart; (repeat' split) <;> simp_all

@[simp] theorem State.toneStarts_outer (s : State) (i : LineNo) :
    (s.toneStarts i).outer = s.outer := by simp [State.toneStarts]

@[simp] theorem State.toneEnded_outer (s : State) (i : LineNo) (cp : CpTone) :
    (s.toneEnded i cp).outer = s.outer := rfl

@[simp] theorem State.ringback_outer (s : State) (i : LineNo) :
    (s.ringback i).outer = s.outer := by
  unfold State.ringback; (repeat' split) <;> simp_all

@[simp] theorem State.callerKnown_outer (s : State) (i : LineNo) (c : Caller) :
    (s.callerKnown i c).outer = s.outer := by simp [State.callerKnown]

@[simp] theorem State.countClidBad_outer (s : State) :
    (s.countClidBad).outer = s.outer := rfl

@[simp] theorem State.clidMessage_outer (s : State) (i : LineNo) (b : List Byte) :
    (s.clidMessage i b).outer = s.outer := by
  unfold State.clidMessage; (repeat' split) <;> simp_all

@[simp] theorem State.openClid_outer (s : State) (i : LineNo) :
    (s.openClid i).outer = s.outer := by
  unfold State.openClid; (repeat' split) <;> simp_all

@[simp] theorem State.flashDone_outer (s : State) (i : LineNo) :
    (s.flashDone i).outer = s.outer := by
  unfold State.flashDone; (repeat' split) <;> simp_all

@[simp] theorem State.breakDone_outer (s : State) (i : LineNo) :
    (s.breakDone i).outer = s.outer := rfl

@[simp] theorem State.makeDone_outer (s : State) (i : LineNo) :
    (s.makeDone i).outer = s.outer := by
  unfold State.makeDone; (repeat' split) <;> simp_all

@[simp] theorem State.ringOnset_outer (s : State) (i : LineNo) :
    (s.ringOnset i).outer = s.outer := by simp [State.ringOnset]

@[simp] theorem State.burst_outer (s : State) (i : LineNo) :
    (s.burst i).outer = s.outer := by
  unfold State.burst; (repeat' split) <;> simp_all

@[simp] theorem State.measure_outer (s : State) (i : LineNo) (volts : Nat) :
    (s.measure i volts).outer = s.outer := by simp [State.measure]

@[simp] theorem State.candidateEnds_outer (s : State) (i : LineNo) (volts : Nat) :
    (s.candidateEnds i volts).outer = s.outer := by
  unfold State.candidateEnds; (repeat' split) <;> simp_all

@[simp] theorem State.burstEnds_outer (s : State) (i : LineNo) :
    (s.burstEnds i).outer = s.outer := by
  simp only [State.burstEnds]; (repeat' split) <;> simp_all

@[simp] theorem State.abandonExpires_outer (s : State) (i : LineNo) :
    (s.abandonExpires i).outer = s.outer := by simp [State.abandonExpires]

@[simp] theorem State.blankingDone_outer (s : State) (i : LineNo) (current : Bool) :
    (s.blankingDone i current).outer = s.outer := rfl

@[simp] theorem State.loopLost_outer (s : State) (i : LineNo) :
    (s.loopLost i).outer = s.outer := by simp [State.loopLost]

@[simp] theorem State.checkLine_outer (s : State) (i : LineNo) (volts : Nat) :
    (s.checkLine i volts).outer = s.outer := by
  unfold State.checkLine; (repeat' split) <;> simp_all

@[simp] theorem State.dialTone_outer (s : State) (i : LineNo) :
    (s.dialTone i).outer = s.outer := by
  unfold State.dialTone; (repeat' split) <;> simp_all

@[simp] theorem State.noDialTone_outer (s : State) (i : LineNo) :
    (s.noDialTone i).outer = s.outer := by simp [State.noDialTone]

@[simp] theorem State.cpStart_outer (s : State) (i : LineNo) :
    (s.cpStart i).outer = s.outer := by
  simp only [State.cpStart]; (repeat' split) <;> simp_all

@[simp] theorem State.cpEnd_outer (s : State) (i : LineNo) :
    (s.cpEnd i).outer = s.outer := by
  simp only [State.cpEnd]; (repeat' split) <;> simp_all

@[simp] theorem State.cpSilent_outer (s : State) (i : LineNo) :
    (s.cpSilent i).outer = s.outer := by simp [State.cpSilent]

@[simp] theorem State.speechFrame_outer (s : State) (i : LineNo) (samples : List Int) :
    (s.speechFrame i samples).outer = s.outer := by
  simp only [State.speechFrame]; (repeat' split) <;> simp_all

@[simp] theorem State.ringbackGone_outer (s : State) (i : LineNo) :
    (s.ringbackGone i).outer = s.outer := by
  unfold State.ringbackGone; (repeat' split) <;> simp_all

@[simp] theorem State.settleDone_outer (s : State) (i : LineNo) :
    (s.settleDone i).outer = s.outer := by
  unfold State.settleDone; (repeat' split) <;> simp_all

@[simp] theorem State.queueDigit_outer (s : State) (i : LineNo) (d : Dtmf) :
    (s.queueDigit i d).outer = s.outer := by
  unfold State.queueDigit; (repeat' split) <;> simp_all

@[simp] theorem State.digitStops_outer (s : State) (i : LineNo) :
    (s.digitStops i).outer = s.outer := by
  unfold State.digitStops; (repeat' split) <;> simp_all

@[simp] theorem State.toneDigitDone_outer (s : State) (i : LineNo) :
    (s.toneDigitDone i).outer = s.outer := rfl

@[simp] theorem State.guardDone_outer (s : State) (i : LineNo) :
    (s.guardDone i).outer = s.outer := by
  simp only [State.guardDone]; split <;> simp

@[simp] theorem takeCall_outer (s : State) (line kind maxc floor : Nat) (dial : List (Nat × Nat)) :
    (takeCall s line kind maxc floor dial).state.outer = s.outer := by
  simp only [takeCall, onLine, onPart, onEntry, okWith, refuse]; (repeat' split) <;> simp

@[simp] theorem takeAnsr_outer (s : State) (line kind maxc floor : Nat) :
    (takeAnsr s line kind maxc floor).state.outer = s.outer := by
  simp only [takeAnsr, onLine, onPart, onEntry, okWith, refuse]; (repeat' split) <;> simp

@[simp] theorem takeDigr_outer (s : State) (line : Nat) :
    (takeDigr s line).state.outer = s.outer := by
  simp only [takeDigr, onLine, onPart, onEntry, okWith, refuse]; (repeat' split) <;> simp

@[simp] theorem takeTone_outer (s : State) (line : Nat) (digits : List Byte) :
    (takeTone s line digits).state.outer = s.outer := by
  simp only [takeTone, onLine, onPart, onEntry, okWith, refuse]; (repeat' split) <;> simp

@[simp] theorem State.startDrain_outer (s : State) (i : LineNo) :
    (s.startDrain i).outer = s.outer := by
  unfold State.startDrain; (repeat' split) <;> simp_all

@[simp] theorem State.rels_outer (s : State) (i : LineNo) (drain : Bool) :
    (s.rels i drain).state.outer = s.outer := by
  simp only [State.rels]; (repeat' split) <;> simp_all

@[simp] theorem takeRels_outer (s : State) (line drain : Nat) :
    (takeRels s line drain).state.outer = s.outer := by
  simp only [takeRels, onLine, onPart, onEntry, okWith, refuse]; (repeat' split) <;> simp

theorem onPart_outer (s : State) (line : Nat) (a : Answer) (h : a.state.outer = s.outer) :
    (onPart s line a).state.outer = s.outer := by
  unfold onPart; split
  · exact h
  · rfl

@[simp] theorem State.dispatchNew_outer (s : State) (c : GroupCall) (i : LineNo) :
    (s.dispatchNew c i).state.outer = s.outer := by
  unfold State.dispatchNew; (repeat' split) <;> simp_all

@[simp] theorem State.queueCall_outer (s : State) (c : GroupCall) (k : Nat) :
    (s.queueCall c k).state.outer = s.outer := rfl

@[simp] theorem State.groupCall_outer (s : State) (c : GroupCall) :
    (s.groupCall c).state.outer = s.outer := by
  unfold State.groupCall; (repeat' split) <;> simp_all

@[simp] theorem takeCallGroup_outer (s : State) (line group kind maxc floor wait hostTag : Nat) (dial : List (Nat × Nat)) :
    (takeCallGroup s line group kind maxc floor wait hostTag dial).state.outer = s.outer := by
  simp only [takeCallGroup, onLine, onPart, onEntry, okWith, refuse]; (repeat' split) <;> simp

@[simp] theorem State.entryExpires_outer (s : State) (k : Nat) (r : EntryRec) :
    (s.entryExpires k r).outer = s.outer := by simp [State.entryExpires]

@[simp] theorem takeCncl_outer (s : State) (line entry : Nat) :
    (takeCncl s line entry).state.outer = s.outer := by
  simp only [takeCncl, onLine, onPart, onEntry, okWith, refuse]; (repeat' split) <;> simp

@[simp] theorem takeCtad_outer (s : State) (line : Nat) (number : List Byte) (cls : Nat) (label : List Byte) :
    (takeCtad s line number cls label).state.outer = s.outer := by
  simp only [takeCtad, onLine, onPart, onEntry, okWith, refuse]; (repeat' split) <;> simp

@[simp] theorem takeCtdl_outer (s : State) (line position : Nat) :
    (takeCtdl s line position).state.outer = s.outer := by
  simp only [takeCtdl, onLine, onPart, onEntry, okWith, refuse]; (repeat' split) <;> simp

@[simp] theorem takeCtrd_outer (s : State) (line start : Nat) :
    (takeCtrd s line start).state.outer = s.outer := by
  simp only [takeCtrd, onLine, onPart, onEntry, okWith, refuse]; (repeat' split) <;> simp

@[simp] theorem State.pendingFails_outer (s : State) (p : Pending) :
    (s.pendingFails p).outer = s.outer := by simp [State.pendingFails]

@[simp] theorem takeBudg_outer (s : State) (line : Nat) :
    (takeBudg s line).state.outer = s.outer := by
  simp only [takeBudg, onLine, onPart, onEntry, okWith, refuse]; (repeat' split) <;> simp

@[simp] theorem State.dataTrainingReading_outer (s : State) (i : LineNo) (q : Nat) :
    (s.dataTrainingReading i q).outer = s.outer := by
  simp only [State.dataTrainingReading]; (repeat' split) <;> simp_all

@[simp] theorem State.faxTrainingReading_outer (s : State) (i : LineNo) (q : Nat) :
    (s.faxTrainingReading i q).outer = s.outer := by
  simp only [State.faxTrainingReading]; (repeat' split) <;> simp_all

@[simp] theorem State.runningTests_outer (s : State) (i : LineNo) :
    (s.runningTests i).outer = s.outer := by
  simp only [State.runningTests]; (repeat' split) <;> simp_all

@[simp] theorem State.runningReading_outer (s : State) (i : LineNo) (q : Nat) :
    (s.runningReading i q).outer = s.outer := by
  unfold State.runningReading; (repeat' split) <;> simp_all

@[simp] theorem State.takeOffer_outer (s : State) (i : LineNo) (c : Cls) :
    (s.takeOffer i c).outer = s.outer := by
  unfold State.takeOffer; (repeat' split) <;> simp_all

@[simp] theorem State.confirm_outer (s : State) (i : LineNo) (begun : Nat) :
    (s.confirm i begun).outer = s.outer := by
  unfold State.confirm; (repeat' split) <;> simp_all

@[simp] theorem State.decline_outer (s : State) (i : LineNo) :
    (s.decline i).outer = s.outer := rfl

@[simp] theorem State.remoteRate_outer (s : State) (i : LineNo) (c cur : Cls) :
    (s.remoteRate i c cur).outer = s.outer := by
  simp only [State.remoteRate]; (repeat' split) <;> simp_all

@[simp] theorem State.setupEc_outer (s : State) (i : LineNo) (window size : Nat) :
    (s.setupEc i window size).outer = s.outer := by simp [State.setupEc]

@[simp] theorem State.setupPlain_outer (s : State) (i : LineNo) :
    (s.setupPlain i).outer = s.outer := by simp [State.setupPlain]

@[simp] theorem State.transmitted_outer (s : State) (i : LineNo) :
    (s.transmitted i).outer = s.outer := by
  unfold State.transmitted; (repeat' split) <;> simp_all

@[simp] theorem State.countBadCheck_outer (s : State) (i : LineNo) :
    (s.countBadCheck i).outer = s.outer := rfl

@[simp] theorem State.takeSup_outer (s : State) (i : LineNo) (kind : SupKind) (n : Nat) :
    (s.takeSup i kind n).outer = s.outer := by simp [State.takeSup]

@[simp] theorem State.retryExpires_outer (s : State) (i : LineNo) :
    (s.retryExpires i).outer = s.outer := by
  unfold State.retryExpires; (repeat' split) <;> simp_all

@[simp] theorem State.answerBlock_outer (s : State) (i : LineNo) (k : SupKind) :
    (s.answerBlock i k).outer = s.outer := by simp [State.answerBlock]

@[simp] theorem State.appendBlock_outer (s : State) (i : LineNo) (p : List Byte) :
    (s.appendBlock i p).outer = s.outer := by simp [State.appendBlock]

@[simp] theorem State.takeBlock_outer (s : State) (i : LineNo) (seq : Nat) (p : List Byte) :
    (s.takeBlock i seq p).outer = s.outer := by
  simp only [State.takeBlock]; (repeat' split) <;> simp_all

@[simp] theorem State.plainByte_outer (s : State) (i : LineNo) (x : Byte) :
    (s.plainByte i x).outer = s.outer := by
  unfold State.plainByte; (repeat' split) <;> simp_all

@[simp] theorem State.takeData_outer (s : State) (i : LineNo) (bytes : List Byte) :
    (s.takeData i bytes).outer = s.outer := by simp [State.takeData]

@[simp] theorem takeFlow_outer (s : State) (line value : Nat) :
    (takeFlow s line value).state.outer = s.outer := by
  simp only [takeFlow, onLine, onPart, onEntry, okWith, refuse]; (repeat' split) <;> simp

@[simp] theorem State.notReadyTest_outer (s : State) (i : LineNo) :
    (s.notReadyTest i).outer = s.outer := by
  simp only [State.notReadyTest]; (repeat' split) <;> simp_all

@[simp] theorem State.formDataOut_outer (s : State) (i : LineNo) :
    (s.formDataOut i).1.outer = s.outer := by simp [State.formDataOut]

@[simp] theorem State.acceptJob_outer (s : State) (i : LineNo) (j : FaxJob) :
    (s.acceptJob i j).state.outer = s.outer := by
  unfold State.acceptJob; (repeat' split) <;> simp_all

@[simp] theorem takeFaxs_outer (s : State) (line : Nat) (pages : List Nat) (resolution width policy : Nat) :
    (takeFaxs s line pages resolution width policy).state.outer = s.outer := by
  simp only [takeFaxs, onLine, onPart, onEntry, okWith, refuse]; (repeat' split) <;> simp

@[simp] theorem takeFaxr_outer (s : State) (line policy : Nat) :
    (takeFaxr s line policy).state.outer = s.outer := by
  simp only [takeFaxr, onLine, onPart, onEntry, okWith, refuse]; (repeat' split) <;> simp

@[simp] theorem takeFxst_outer (s : State) (line : Nat) :
    (takeFxst s line).state.outer = s.outer := by
  simp only [takeFxst, onLine, onPart, onEntry, okWith, refuse]; (repeat' split) <;> simp

@[simp] theorem takeFxab_outer (s : State) (line : Nat) :
    (takeFxab s line).state.outer = s.outer := by
  simp only [takeFxab, onLine, onPart, onEntry, okWith, refuse]; (repeat' split) <;> simp

@[simp] theorem State.noJob_outer (s : State) (i : LineNo) :
    (s.noJob i).outer = s.outer := by simp [State.noJob]

@[simp] theorem State.answerMissing_outer (s : State) (i : LineNo) (m : FaxMsg) (tries : Nat) :
    (s.answerMissing i m tries).outer = s.outer := by
  unfold State.answerMissing; (repeat' split) <;> simp_all

@[simp] theorem State.senderMissing_outer (s : State) (i : LineNo) :
    (s.senderMissing i).outer = s.outer := by
  unfold State.senderMissing; (repeat' split) <;> simp_all

theorem State.atJob_outer (s : State) (i : LineNo) (d : FaxDir) (f : FaxJob → State) (h : ∀ j, (f j).outer = s.outer) :
    (s.atJob i d f).outer = s.outer := by
  unfold State.atJob; (repeat' split) <;> simp_all

@[simp] theorem State.unreadable_outer (s : State) (i : LineNo) :
    (s.unreadable i).outer = s.outer := by
  unfold State.unreadable; (repeat' split) <;> simp_all

@[simp] theorem State.takeCapability_outer (s : State) (i : LineNo) (j : FaxJob) (highest : Cls) (fine : Bool) (widest reserve : Nat) :
    (s.takeCapability i j highest fine widest reserve).outer = s.outer := by
  unfold State.takeCapability; (repeat' split) <;> simp_all

@[simp] theorem State.takeChoice_outer (s : State) (i : LineNo) (c : Cls) (resolution width : Nat) :
    (s.takeChoice i c resolution width).outer = s.outer := by
  unfold State.takeChoice; (repeat' split) <;> simp_all

@[simp] theorem State.takeConfirmation_outer (s : State) (i : LineNo) (j : FaxJob) (accepted : Bool) :
    (s.takeConfirmation i j accepted).outer = s.outer := by
  unfold State.takeConfirmation; (repeat' split) <;> simp_all

@[simp] theorem State.takeAnnouncement_outer (s : State) (i : LineNo) (j : FaxJob) (c : Cls) :
    (s.takeAnnouncement i j c).outer = s.outer := by
  unfold State.takeAnnouncement; (repeat' split) <;> simp_all

@[simp] theorem State.burstSent_outer (s : State) (i : LineNo) (j : FaxJob) :
    (s.burstSent i j).outer = s.outer := by
  unfold State.burstSent; (repeat' split) <;> simp_all

@[simp] theorem State.takeVerdict_outer (s : State) (i : LineNo) (rejected : Option Cls) :
    (s.takeVerdict i rejected).outer = s.outer := by
  unfold State.takeVerdict; (repeat' split) <;> simp_all

@[simp] theorem State.takeFrame_outer (s : State) (i : LineNo) (j : FaxJob) (n : Nat) (b : List Byte) :
    (s.takeFrame i j n b).outer = s.outer := by
  unfold State.takeFrame; (repeat' split) <;> simp_all

theorem State.readRound_outer (i : LineNo) (j : FaxJob) :
    ∀ (l : List Nat) (s : State), (s.readRound i j l).1.outer = s.outer
  | [], _ => rfl
  | n :: r, s => by
    simp only [State.readRound]
    rw [State.readRound_outer i j r, State.readFrame_outer]

@[simp] theorem State.roundSent_outer (s : State) (i : LineNo) (j : FaxJob) : (s.roundSent i j).outer = s.outer := by
  simp only [State.roundSent, State.faxAsk_outer]
  exact State.readRound_outer i j j.missing s

@[simp] theorem State.takeRoundEnd_outer (s : State) (i : LineNo) (j : FaxJob) :
    (s.takeRoundEnd i j).outer = s.outer := by
  unfold State.takeRoundEnd; (repeat' split) <;> simp_all

@[simp] theorem State.takeClose_outer (s : State) (i : LineNo) (j : FaxJob) (more : Bool) :
    (s.takeClose i j more).outer = s.outer := by
  unfold State.takeClose; (repeat' split) <;> simp_all

@[simp] theorem State.pageConfirmed_outer (s : State) (i : LineNo) (j : FaxJob) :
    (s.pageConfirmed i j).outer = s.outer := by
  simp only [State.pageConfirmed]; (repeat' split) <;> simp_all

@[simp] theorem State.takeRelease_outer (s : State) (i : LineNo) (j : FaxJob) :
    (s.takeRelease i j).outer = s.outer := by
  unfold State.takeRelease; (repeat' split) <;> simp_all

theorem onEntry_outer (s : State) (id : Nat) (f : Entry → Answer) (h : ∀ e, (f e).state.outer = s.outer) :
    (onEntry s id f).state.outer = s.outer := by
  unfold onEntry; (repeat' split) <;> simp_all [refuse]

@[simp] theorem takeScrt_outer (s : State) (line kind extent mailbox : Nat) :
    (takeScrt s line kind extent mailbox).state.outer = s.outer := by
  simp only [takeScrt, onLine, onPart, onEntry, okWith, refuse]; (repeat' split) <;> simp

@[simp] theorem takeScls_outer (s : State) (line id : Nat) :
    (takeScls s line id).state.outer = s.outer := by
  simp only [takeScls, onLine, onPart, onEntry, okWith, refuse]; (repeat' split) <;> simp

@[simp] theorem takeSdel_outer (s : State) (line id : Nat) :
    (takeSdel s line id).state.outer = s.outer := by
  simp only [takeSdel, onLine, onPart, onEntry, okWith, refuse]; (repeat' split) <;> simp

@[simp] theorem takeAtch_outer (s : State) (line slot id right : Nat) :
    (takeAtch s line slot id right).state.outer = s.outer := by
  simp only [takeAtch, onLine, onPart, onEntry, okWith, refuse]; (repeat' split) <;> simp

@[simp] theorem takeDtch_outer (s : State) (line slot : Nat) :
    (takeDtch s line slot).state.outer = s.outer := by
  simp only [takeDtch, onLine, onPart, onEntry, okWith, refuse]; (repeat' split) <;> simp

@[simp] theorem takeSwrt_outer (s : State) (line id : Nat) (bytes : List Byte) :
    (takeSwrt s line id bytes).state.outer = s.outer := by
  simp only [takeSwrt, onLine, onPart, onEntry, okWith, refuse]; (repeat' split) <;> simp

@[simp] theorem takeSred_outer (s : State) (line id offset count : Nat) :
    (takeSred s line id offset count).state.outer = s.outer := by
  simp only [takeSred, onLine, onPart, onEntry, okWith, refuse]; (repeat' split) <;> simp

@[simp] theorem takeSlst_outer (s : State) (line start : Nat) :
    (takeSlst s line start).state.outer = s.outer := by
  simp only [takeSlst, onLine, onPart, onEntry, okWith, refuse]; (repeat' split) <;> simp

@[simp] theorem takeSsta_outer (s : State) (line : Nat) :
    (takeSsta s line).state.outer = s.outer := by
  simp only [takeSsta, onLine, onPart, onEntry, okWith, refuse]; (repeat' split) <;> simp

@[simp] theorem State.packEnds_outer (s : State) (o : PackOutcome) :
    (s.packEnds o).outer = s.outer := rfl

@[simp] theorem State.walkLast_outer (s : State) (voice : Bool) :
    (s.walkLast voice).outer = s.outer := by
  unfold State.walkLast; (repeat' split) <;> simp_all

@[simp] theorem State.packWalk_outer (s : State) :
    (s.packWalk).outer = s.outer := by
  unfold State.packWalk; (repeat' split) <;> simp_all

@[simp] theorem takePackStart_outer (s : State) (line region : Nat) :
    (takePackStart s line region).state.outer = s.outer := by
  simp only [takePackStart, onLine, onPart, onEntry, okWith, refuse]; (repeat' split) <;> simp

@[simp] theorem takePackStop_outer (s : State) (line : Nat) :
    (takePackStop s line).state.outer = s.outer := by
  simp only [takePackStop, onLine, onPart, onEntry, okWith, refuse]; (repeat' split) <;> simp

@[simp] theorem takePack_outer (s : State) (line action region : Nat) :
    (takePack s line action region).state.outer = s.outer := by
  unfold takePack; (repeat' split) <;> simp_all

@[simp] theorem State.moveDone_outer (s : State) (m : Move) (e : Entry) :
    (s.moveDone m e).outer = s.outer := by
  simp only [State.moveDone]; (repeat' split) <;> simp_all

@[simp] theorem State.moveCell_outer (s : State) (m : Move) (e : Entry) :
    (s.moveCell m e).outer = s.outer := by
  simp only [State.moveCell]; (repeat' split) <;> simp_all

@[simp] theorem State.voiceParity_outer (s : State) (i : LineNo) (id : Nat) :
    (s.voiceParity i id).outer = s.outer := rfl

@[simp] theorem State.setOp_outer (s : State) (i : LineNo) (o : VoiceOp) :
    (s.setOp i o).outer = s.outer := rfl

@[simp] theorem State.playStarts_outer (s : State) (i : LineNo) (o : VoiceOp) :
    (s.playStarts i o).outer = s.outer := rfl

@[simp] theorem State.loadCoder_outer (s : State) (i : LineNo) (o : VoiceOp) (e : Entry) :
    (s.loadCoder i o e).outer = s.outer := by
  simp only [State.loadCoder]; (repeat' split) <;> simp_all

@[simp] theorem State.recordStarts_outer (s : State) (i : LineNo) (o : VoiceOp) (e : Entry) :
    (s.recordStarts i o e).outer = s.outer := by
  simp only [State.recordStarts]; (repeat' split) <;> simp_all

@[simp] theorem State.playOut_outer (s : State) (i : LineNo) (o : VoiceOp) (n : Nat) :
    (s.playOut i o n).outer = s.outer := rfl

@[simp] theorem State.playCell_outer (s : State) (i : LineNo) (o : VoiceOp) (e : Entry) :
    (s.playCell i o e).outer = s.outer := by
  simp only [State.playCell]; (repeat' split) <;> simp_all

@[simp] theorem State.nextRepeat_outer (s : State) (i : LineNo) (o : VoiceOp) :
    (s.nextRepeat i o).outer = s.outer := rfl

@[simp] theorem State.repeatEnds_outer (s : State) (i : LineNo) (o : VoiceOp) :
    (s.repeatEnds i o).outer = s.outer := by
  unfold State.repeatEnds; (repeat' split) <;> simp_all

@[simp] theorem State.reachCell_outer (s : State) (i : LineNo) (o : VoiceOp) :
    (s.reachCell i o).outer = s.outer := by
  simp only [State.reachCell]; (repeat' split) <;> simp_all

@[simp] theorem State.gapEnds_outer (s : State) (i : LineNo) (o : VoiceOp) :
    (s.gapEnds i o).outer = s.outer := rfl

@[simp] theorem State.silentOut_outer (s : State) (i : LineNo) (o : VoiceOp) :
    (s.silentOut i o).outer = s.outer := rfl

@[simp] theorem State.frameStarts_outer (s : State) (i : LineNo) :
    (s.frameStarts i).outer = s.outer := rfl

@[simp] theorem State.frameBoundary_outer (s : State) (i : LineNo) :
    (s.frameBoundary i).outer = s.outer := by
  unfold State.frameBoundary; (repeat' split) <;> simp_all

@[simp] theorem State.playFrame_outer (s : State) (i : LineNo) (o : VoiceOp) :
    (s.playFrame i o).outer = s.outer := by
  unfold State.playFrame; (repeat' split) <;> simp_all

@[simp] theorem State.recSamples_outer (s : State) (i : LineNo) (o : VoiceOp) (l : List Int) :
    (s.recSamples i o l).1.outer = s.outer := rfl

@[simp] theorem State.digitEnd_outer (s : State) (i : LineNo) (o : VoiceOp) :
    (s.digitEnd i o).outer = s.outer := by simp [State.digitEnd]

@[simp] theorem State.judgeSilence_outer (s : State) (i : LineNo) (o : VoiceOp) (level : Nat) :
    (s.judgeSilence i o level).outer = s.outer := by
  simp only [State.judgeSilence]; (repeat' split) <;> simp_all

@[simp] theorem State.recordFrame_outer (s : State) (i : LineNo) (o : VoiceOp) (samples : List Int) :
    (s.recordFrame i o samples).outer = s.outer := by
  simp only [State.recordFrame]; (repeat' split) <;> simp_all

@[simp] theorem State.limitReached_outer (s : State) (i : LineNo) (o : VoiceOp) (samples : List Int) :
    (s.limitReached i o samples).outer = s.outer := by
  simp only [State.limitReached]; (repeat' split) <;> simp_all

@[simp] theorem State.startOp_outer (s : State) (i : LineNo) (o : VoiceOp) (a : Activity) :
    (s.startOp i o a).outer = s.outer := by
  simp only [State.startOp]; (repeat' split) <;> simp_all

@[simp] theorem takePlay_outer (s : State) (line slot startCell repeats gap stopOnDigit : Nat) :
    (takePlay s line slot startCell repeats gap stopOnDigit).state.outer = s.outer := by
  simp only [takePlay, voiceCheck, onLine, onPart, okWith, refuse]; (repeat' split) <;> simp

@[simp] theorem takeRecd_outer (s : State) (line slot limit silence threshold stopOnDigit : Nat) :
    (takeRecd s line slot limit silence threshold stopOnDigit).state.outer = s.outer := by
  simp only [takeRecd, voiceCheck, onLine, onPart, okWith, refuse]; (repeat' split) <;> simp

@[simp] theorem takePaus_outer (s : State) (line value : Nat) :
    (takePaus s line value).state.outer = s.outer := by
  simp only [takePaus, onLine, onPart, onEntry, okWith, refuse]; (repeat' split) <;> simp

@[simp] theorem State.stopWaiting_outer (s : State) (i : LineNo) (o : VoiceOp) :
    (s.stopWaiting i o).outer = s.outer := by
  unfold State.stopWaiting; (repeat' split) <;> simp_all

@[simp] theorem takeVstp_outer (s : State) (line : Nat) :
    (takeVstp s line).state.outer = s.outer := by
  simp only [takeVstp, onLine, onPart, onEntry, okWith, refuse]; (repeat' split) <;> simp

@[simp] theorem State.callingBurst_outer (s : State) (i : LineNo) :
    (s.callingBurst i).outer = s.outer := by
  simp only [State.callingBurst]; (repeat' split) <;> simp_all

@[simp] theorem State.takeOp_outer (s : State) (i : LineNo) :
    (s.takeOp i).1.outer = s.outer := by
  unfold State.takeOp; (repeat' split) <;> simp_all

@[simp] theorem State.planTaken_outer (s : State) (i : LineNo) :
    (s.planTaken i).outer = s.outer := by simp [State.planTaken]

@[simp] theorem takeTake_outer (s : State) (line : Nat) :
    (takeTake s line).state.outer = s.outer := by
  simp only [takeTake, onLine, onPart, onEntry, okWith, refuse]; (repeat' split) <;> simp

end Sys2Proof.Machine
end

