-- ==== Sys2Proof/Laws/Settle.lean ====
section
/-! SUPPORT. The hand-out at the end of a step (log 16): what it leaves, when it does nothing, and how a request that is
taken at once is answered. -/

namespace Sys2Proof.Machine

open Sys2Proof

@[simp] theorem State.settled_handedOut (s : State) : s.settled.handedOut := ⟨rfl, rfl⟩

theorem State.settled_eq {s : State} (h : s.handedOut) : s.settled = s := by
  obtain ⟨p, n, ph, ca, l, g, ct, ⟨a, b, d, o⟩, st, lp, nu, sl, c, fc⟩ := s
  obtain ⟨hd, ho⟩ := h
  simp only at hd ho
  subst hd ho
  rfl

@[simp] theorem State.handOutEnds_handedOut (s : State) : s.handOutEnds.handedOut := by
  unfold State.handOutEnds; exact State.settled_handedOut _

theorem settleN_handedOut : ∀ (n : Nat) (s : State), (settleN n s).handedOut
  | 0, s => State.settled_handedOut s
  | n + 1, s => by
    unfold settleN
    split
    · split
      · exact State.handOutEnds_handedOut s
      · split
        · exact State.handOutEnds_handedOut s
        · exact settleN_handedOut n _
    · exact State.settled_handedOut s

/-- The hand-out leaves no release waiting. -/
@[simp] theorem State.settle_handedOut (s : State) : s.settle.handedOut := settleN_handedOut 32 s

/-- The hand-out does nothing where no release waits. -/
theorem State.settle_eq {s : State} (h : s.handedOut) : s.settle = s := by
  unfold State.settle settleN
  rw [if_neg (by simp [h.1])]
  exact State.settled_eq h

@[simp] theorem State.settle_settle (s : State) : s.settle.settle = s.settle := State.settle_eq (State.settle_handedOut s)

/-- The effect of an event on a running part. -/
theorem react_running {s : State} (h : s.phase = .running) (f : State → State) : react s f = .next (f s).settle := by
  simp [react, h]

/-- An event on a part that is held or loading. -/
theorem react_held {s : State} (h : s.phase ≠ .running) (f : State → State) : react s f = .next s := by
  simp [react, h]

/-- The drain of one record that can be taken. -/
theorem State.offer_drain {s : State} {r : Inbound} (hb : s.lp.inbound = []) (hc : s.lp.canTake r = true) :
    (s.offer r).drain = (s.takeRecord r).settle := by
  have e : s.offer r = { s with lp := { s.lp with inbound := [r] } } := by
    simp [State.offer, hb]
  have e2 : ({ s with lp := { s.lp with inbound := [] } } : State) = s := by
    obtain ⟨p, n, ph, ca, l, g, ct, bm, st, lp, nu, sl, c, fc⟩ := s
    obtain ⟨a1, a2, a3, a4, a5, a6, a7, a8, a9⟩ := lp
    simp_all
  have e3 : Lp.canTake { s.lp with inbound := [r] } r = true := by
    simpa only [Lp.canTake] using hc
  rw [e]
  unfold State.drain
  simp only [List.length_cons, List.length_nil, Nat.zero_add, drainN, e3, if_true]
  rw [e2]

/-- A record of the host at a part that takes it at once. -/
theorem hostRecord_taken {s : State} {line tag : Nat} {b : InBody} (hp : s.phase = .running) (hb : s.lp.inbound = [])
    (hc : s.lp.canTake { line := line, tag := tag, body := b } = true) :
    hostRecord s line tag b = .next (s.takeRecord { line := line, tag := tag, body := b }).settle := by
  unfold hostRecord
  rw [react_running hp, State.offer_drain hb hc, State.settle_settle]

/-- A request at a ready part is answered at once (R165). -/
theorem hostRecord_ready {s : State} (h : s.ready) (line tag : Nat) (r : Request) :
    hostRecord s line tag (.request r) =
      .next ((answerRequest s line r).state.replied line tag r.name (answerRequest s line r).status
        (answerRequest s line r).fields).settle := by
  obtain ⟨hp, ho, hh, hi, hr⟩ := h
  rw [hostRecord_taken hp hi (by simp [Lp.canTake, ho, hh, hr])]
  rfl

end Sys2Proof.Machine
end

