-- ==== Sys2Proof/Tests/Slice0.lean ====
section
/-! SUPPORT. Tests of the model on fixed values: well-formedness, decisions the manual gives as tables or worked cases,
and for every statement of the obligations file states and operands that meet its hypotheses. -/

set_option maxRecDepth 20000

namespace Sys2Proof.Tests

open Sys2Proof Sys2Proof.Machine

/-! ## Small states -/

/-- A running part that takes requests, nothing happening on any line. -/
def base : State := { State.reset with phase := .running, lp := { open_ := true } }

/-- `base` with line 0 changed. -/
def L (f : Line → Line) : State := base.upd 0 f

/-- Every such state takes requests. -/
theorem test_base_ready (f : Line → Line) : (L f).ready ∧ (L f).phase = .running ∧ (L f).nu.flags.length = 19 :=
  ⟨⟨rfl, rfl, rfl, rfl, (by decide : 0 < 8)⟩, rfl, rfl⟩

/-- Line 0 in a voice call. -/
def voiceCc : Cc := { state := .connected, kind := some .voice }

/-- A store with one closed fax page to send, one open greeting, one closed message. -/
def store : Stc :=
  { dir := [
      some { kind := .faxTxPage, open_ := false, moving := false, damaged := false, base := 1023, extent := 1
             used := 1, mailbox := none, originLine := none, ordinal := none, number := none, fax := none },
      some { kind := .greeting, open_ := true, moving := false, damaged := false, base := 0, extent := 2
             used := 1020, mailbox := none, originLine := none, ordinal := none, number := none, fax := none },
      some { kind := .voiceMessage, open_ := false, moving := false, damaged := false, base := 3, extent := 1
             used := 1, mailbox := some 9, originLine := some 3, ordinal := some 7, number := none, fax := none }]
      ++ List.replicate 93 none }

/-! ## Well-formedness: each check refuses an ill-formed command -/

/-- A frame of 80 samples of one value. -/
def frameOf (x : Int) : List Int := List.replicate 80 x

theorem test_wf_accepts :
    Instr.wellFormed (.call 3 255 2 16 255 [(0, 48)]) = true ∧ Instr.wellFormed (.voiceFrameEnd 0 (frameOf 8191)) = true
      ∧ Instr.wellFormed (.faxs 0 0 [95] 1 2 1) = true ∧ Instr.wellFormed (.setp 15 0 3 [0, 0, 0, 0]) = true := by decide

theorem test_wf_line_byte : Instr.wellFormed (.digr 256 0) = false := by decide
theorem test_wf_tag : Instr.wellFormed (.digr 0 256) = false := by decide
theorem test_wf_call_names_a_line : Instr.wellFormed (.call 15 0 0 0 0 []) = false := by decide
theorem test_wf_one_byte : Instr.wellFormed (.ctdl 15 0 256) = false := by decide
theorem test_wf_two_bytes : Instr.wellFormed (.scrt 15 0 0 65536 0) = false := by decide
theorem test_wf_four_bytes : Instr.wellFormed (.sred 15 0 0 4294967296 0) = false := by decide
theorem test_wf_list : Instr.wellFormed (.tone 0 0 (List.replicate 256 48)) = false := by decide
theorem test_wf_dial_list : Instr.wellFormed (.call 0 0 0 0 0 (List.replicate 256 (0, 48))) = false := by decide
theorem test_wf_dial_element : Instr.wellFormed (.call 0 0 0 0 0 [(0, 256)]) = false := by decide
theorem test_wf_pages : Instr.wellFormed (.faxs 0 0 [256] 0 0 0) = false := by decide
theorem test_wf_mask_name : Instr.wellFormed (.nmsk 15 0 [([82, 73, 78], 15, 0, 0)]) = false := by decide
theorem test_wf_mask_value : Instr.wellFormed (.nmsk 15 0 [([82, 73, 78, 71], 15, 0, 256)]) = false := by decide
theorem test_wf_mask_count : Instr.wellFormed (.nmsk 15 0 (List.replicate 157 ([82, 73, 78, 71], 15, 0, 0))) = false := by
  decide
theorem test_wf_frame_length : Instr.wellFormed (.voiceFrameEnd 0 [0]) = false := by decide
theorem test_wf_sample_range : Instr.wellFormed (.progressFrameLevel 0 (frameOf 8192)) = false := by decide
theorem test_wf_limit_samples : Instr.wellFormed (.recordingLimitReached 0 [-8193]) = false := by decide
theorem test_wf_data_class : Instr.wellFormed (.remoteRateRequest 0 .f1) = false := by decide
theorem test_wf_fax_class : Instr.wellFormed (.retrainAnnouncementReceived 0 .d1) = false := by decide
theorem test_wf_map_class : Instr.wellFormed (.frameMapReceived 0 [] (.retrain .d1)) = false := by decide
theorem test_wf_map_number : Instr.wellFormed (.frameMapReceived 0 [128] .resend) = false := by decide
theorem test_wf_clid_length : Instr.wellFormed (.callerMessageReceived 0 [128, 0]) = false := by decide
theorem test_wf_sup_number : Instr.wellFormed (.supervisoryMessageReceived 0 .ack 128) = false := by decide
theorem test_wf_block_number : Instr.wellFormed (.dataBlockReceived 0 128 [0]) = false := by decide
theorem test_wf_block_length : Instr.wellFormed (.dataBlockReceived 0 0 (List.replicate 257 0)) = false := by decide
theorem test_wf_page_width : Instr.wellFormed (.choiceReceived 0 .f1 0 3) = false := by decide
theorem test_wf_capability_width : Instr.wellFormed (.capabilityReceived 0 .f1 true 3 16) = false := by decide
theorem test_wf_partial_page : Instr.wellFormed (.partialPageHeaderReceived 0 0 16 1 true) = false := by decide
theorem test_wf_frame_count : Instr.wellFormed (.partialPageHeaderReceived 0 0 0 129 true) = false := by decide
theorem test_wf_frame : Instr.wellFormed (.frameReceived 0 128 (List.replicate 128 0)) = false := by decide
theorem test_wf_frame_bytes : Instr.wellFormed (.frameReceived 0 0 (List.replicate 127 0)) = false := by decide
theorem test_wf_known_name : Instr.wellFormed (.unknownRequest 0 0 [83, 65, 86, 69]) = false := by decide
theorem test_wf_short_record : Instr.wellFormed (.recordReceived [1, 0, 0, 0, 0]) = false := by decide

theorem test_wf_payload_lengths :
    Instr.wellFormed (.dataIn 0 0 (List.replicate 1101 0)) = false
      ∧ Instr.wellFormed (.swrt 15 0 0 (List.replicate 1094 0)) = false
      ∧ Instr.wellFormed (.setp 15 0 1 (List.replicate 1096 0)) = false
      ∧ Instr.wellFormed (.recordReceived (List.replicate 1107 0)) = false := by decide

/-- The names of well-formed unknown requests are those that the part does not know (R166). -/
theorem test_request_names : (readers 0).map Prod.fst = requestNames := by decide

/-! ## Worked cases and tables of the manual -/

/-- The worked case of the coder (09, R135): four samples from the state (0, 16). -/
theorem test_coder_codes :
    encodeSample (0, 16) 100 = 7 ∧ encodeSample (decodeCode (0, 16) 7) 300 = 7
      ∧ encodeSample (decodeCode (decodeCode (0, 16) 7) 7) 280 = 3
      ∧ encodeSample (decodeCode (decodeCode (decodeCode (0, 16) 7) 7) 3) 250 = 9 := by decide

theorem test_coder_samples : (decodeCodes (0, 16) [7, 7, 3, 9]).2 = [60, 180, 292, 247] := by decide

/-- Silent voice cells start with step index 16, so a first sample of 0 is code 0 (R134, R135). -/
theorem test_coder_zero : encodeSample (0, 16) 0 = 0 ∧ decodeCode (0, 16) 0 = (4, 15) := by decide

/-- The fax hand-over of 4.7: with 21 units free F3 is the highest class that fits, and a floor of F5 fits nothing. -/
theorem test_admission_under_load :
    Ask.fit ⟨[.faxFraming], some ⟨.f6, .f2⟩⟩ 21 = some [.pump .f3, .faxFraming]
      ∧ Ask.fit ⟨[.faxFraming], some ⟨.f6, .f5⟩⟩ 21 = none ∧ Ask.requirement ⟨[.faxFraming], some ⟨.f6, .f5⟩⟩ = 26 := by
  decide

/-- Frame 491 of the recording of 9.5 is the hundredth silent one: SILENCE, the used length set back to 15640. -/
theorem test_silence_ends_a_recording :
    ∃ s t : State, s.usedOf 0 = 19600 ∧ exec (.voiceFrameEnd 0 (frameOf 99)) s = .next t ∧ t.usedOf 0 = 15640
      ∧ (t.line 0).vc.lastResult = some { outcome := .silence, id := 0, host := true } :=
  ⟨{ (L fun l => { l with
        cc := voiceCc, acts := [.voiceBase, .voiceRecord]
        vc := { op := some { kind := .recd, host := true, slot := 3, id := 0, limit := 20, silence := 1, threshold := 100
                             phase := .recording, silenceRun := 99, granted := true } } }) with
      stc := { dir := some { kind := .voiceMessage, open_ := true, moving := false, damaged := false, base := 0
                             extent := 20, used := 19600, mailbox := none, originLine := none, ordinal := none
                             number := none, fax := none } :: List.replicate 95 none } },
   _, rfl, rfl, by decide, by decide⟩

/-- DIGR of 2 digits: the reply has their count and their characters, and the digit queue is empty after it (R31). -/
theorem test_digr :
    ∃ t, exec (.digr 0 7) (L fun l => { l with tu := { digits := [.num 5, .hash] } }) = .next t
      ∧ (t.line 0).tu.digits = []
      ∧ t.lp.replies = [{ line := 0, tag := 7, name := [68, 73, 71, 82], status := .ok, fields := [2, 53, 35] }] :=
  ⟨_, rfl, rfl, by decide⟩

/-- A line is seized for an outgoing call: OFF_HOOK, call progress held, a dial-tone wait of 5000 ms (R2, R19, R20). -/
theorem test_call_seizes :
    ∃ t, exec (.call 0 7 2 0 0 [(0, 49)]) base = .next t ∧ (t.line 0).lif.hook = .offHook
      ∧ (t.line 0).acts = [.callProgress] ∧ (t.line 0).cc.dialToneDue = some 5000 := ⟨_, rfl, by decide⟩

/-- A loud frame in which a tone of 5 ms has ended sets the speech run to 0, and the next one without tone counts (R23). -/
theorem test_tone_inside_a_frame :
    let s := L fun l => { l with cc := { state := .progress, kind := some .voice, speechRun := 9 } }
    ∃ t u v w, exec (.cpToneStart 0) s = .next t ∧ exec (.cpToneEnd 0) { t with now := 5 } = .next u
      ∧ exec (.progressFrameLevel 0 (frameOf 500)) u = .next v ∧ (v.line 0).cc.speechRun = 0
      ∧ exec (.progressFrameLevel 0 (frameOf 500)) v = .next w ∧ (w.line 0).cc.speechRun = 1 :=
  ⟨_, _, _, _, rfl, rfl, rfl, by decide, rfl, by decide⟩

/-- A reply on the wire (R162): lead, kind 2, line, tag, length 8, name, status, fields, and 111 for the sum of 401. -/
theorem test_reply_wire :
    (OutRec.reply { line := 0, tag := 7, name := [68, 73, 71, 82], status := .ok, fields := [2, 53, 35] }).wire
      = [165, 2, 0, 7, 0, 8, 68, 73, 71, 82, 0, 2, 53, 35, 111] := by decide

/-! ## Hypotheses met

For every statement of the obligations file with hypotheses: a state and operands that meet them, clause by clause, at
the ends of ranges. -/

theorem witness_StepRunsFrontCommand :
    ({ base with pending := [.digr 0 1, .powerOn] } : State).pending = [.digr 0 1, .powerOn] ∧ base.pending = [] :=
  ⟨rfl, rfl⟩

theorem witness_HeldPartIgnoresCommands :
    State.reset.phase ≠ .running ∧ ({ base with phase := .loading } : State).phase ≠ .running
      ∧ startsPart .recordSent = false := by decide

theorem witness_StoppedTimerExpiresToNothing :
    base.phase = .running ∧ base.timer (.flashComplete 0) = some none ∧ base.timer (.ringAbandoned 3) = some none
      ∧ base.timer .inboundGapExpiry = some none := by decide

theorem witness_ExecLeavesQueueAlone : ∃ t, exec (.digr 0 1) base = .next t := ⟨_, rfl⟩

theorem witness_EveryStepHandsOutItsUnits : base.handedOut ∧ ∃ t, step base = .next t := ⟨⟨rfl, rfl⟩, _, rfl⟩

/-- Both queues full, and a request waiting to be sent. -/
def fullQueues : State :=
  { base with
    pending := [.digr 0 1]
    lp := { base.lp with
      inbound := List.replicate 4 { line := 0, tag := 0, body := .request .digr }
      replies := List.replicate 8 { line := 0, tag := 0, name := [], status := .ok, fields := [] } } }

theorem witness_HostLinkQueuesStayBounded : fullQueues.queuesBounded ∧ ∃ t, step fullQueues = .next t :=
  ⟨⟨by decide, by decide⟩, _, rfl⟩

/-- Record 7 waits in the call queue, and line 3 for admission. -/
def waiting : State :=
  { base.joinPending 3 ⟨[.voiceBase], none⟩ .planVoice with
    gd := { recs := (List.replicate 8 {}).set 7 { st := .queued }, queue := [7] } }

theorem witness_HostLinkQueuesStayBounded_waiting :
    waiting.gd.queueOk ∧ waiting.pendingOnce ∧ waiting.bm.plist.length = 1 ∧ ∃ t, step waiting = .next t := by
  refine ⟨⟨rfl, by decide, fun k => ?_⟩, by unfold State.pendingOnce; decide, rfl, _, rfl⟩
  rcases Nat.lt_or_ge k 8 with h | h
  · interval_cases k <;> decide
  · simp [waiting, h]
    omega

/-- A digit queue of 16, TX and RX of 2048 bytes, and the window's one block unacknowledged, numbered 127 before Vs 0. -/
theorem witness_HostLinkQueuesStayBounded_buffers :
    ∃ s : State, s.buffersBounded ∧ (s.line 0).tu.digits.length = 16 ∧ (s.line 0).blc.rx.length = 2048
      ∧ (s.line 0).blc.unacked.length = (s.line 0).blc.window ∧ ∃ t, step s = .next t :=
  ⟨L fun l => { l with
      tu := { digits := List.replicate 16 .star }
      blc := { link := .up, mode := some .ec, window := 1, tx := List.replicate 2048 0, rx := List.replicate 2048 0
               unacked := [⟨127, [0], 0, 10⟩] } },
   by unfold State.buffersBounded Blc.inBounds; decide, by decide, by decide, by decide, _, rfl⟩

theorem witness_StoreMemoryStaysCanonical :
    ∃ s : State, s.storeCanonical ∧ s.stc.mem = [(0, 1), (4194303, 255)] ∧ ∃ t, step s = .next t :=
  ⟨{ base with stc := { base.stc with mem := [(0, 1), (4194303, 255)] } }, by unfold State.storeCanonical; decide, rfl, _, rfl⟩

theorem witness_CoderStatesStayInRange :
    ∃ s : State, s.codersInRange ∧ (s.line 0).vc.coder = (8191, 47) ∧ ∃ t, step s = .next t :=
  ⟨L fun l => { l with vc := { predicted := 8191, stepIndex := 47 } }, by unfold State.codersInRange coderOk; decide, rfl, _, rfl⟩

theorem witness_CoderStatesStayInRange_counts :
    ∃ s : State, s.countsInRange ∧ (s.line 0).dp.acc = 800 ∧ (s.line 0).dp.trainCount = 150 ∧ s.cnt.stray = 4294967295
      ∧ ∃ t, step s = .next t :=
  ⟨{ (L fun l => { l with dp := { acc := 800, trainCount := 150, trainSum := 15000 } }) with cnt := { stray := 4294967295 } },
   by unfold State.countsInRange Dp.readingsInRange; decide, rfl, rfl, rfl, _, rfl⟩

theorem witness_TablesKeepTheirSizes : base.shaped ∧ ∃ t, step base = .next t :=
  ⟨by unfold State.shaped; decide, _, rfl⟩

/-- Two callers of different numbers, entry 1 of the store held once with RECORD. -/
def twoCallers : State :=
  { (L fun l => { l with window := ⟨some { id := 1, right := .record }, some { id := 1, right := .play }, none, none⟩ }) with
    stc := store, ct := { table := [some ⟨[48], .known, 0, 0, none⟩, some ⟨[49], .learned, 1, 7, none⟩] } }

theorem witness_TablesKeepTheirSizes_contents :
    twoCallers.ct.numbersDiffer ∧ twoCallers.recordersOk ∧ twoCallers.storeLaidOut ∧ twoCallers.recorded = [1]
      ∧ twoCallers.stc.used.length = 3 ∧ ∃ t, step twoCallers = .next t := by
  have e : twoCallers.recorded = [1] := by decide
  refine ⟨by unfold Ct.numbersDiffer; decide, ⟨by decide, ?_⟩, ⟨⟨?_, by decide, ?_, ?_, ?_⟩, ?_⟩, e, by decide, _, rfl⟩
  · intro id h
    rw [e] at h
    have : id = 1 := by simpa using h
    subst this; exact ⟨_, rfl, rfl⟩
  · unfold Entry.inStore; decide
  · unfold Entry.apart; decide
  · intro m h; cases h
  · intro _; rfl
  · intro h; exact absurd rfl h

/-- Line 0 in a fax call, its pump counted at F6. -/
def faxPump : State :=
  L fun l => { l with
    cc := { state := .connected, kind := some .fax }, acts := [.faxFraming, .pump .f6]
    dp := { family := some .fax, pump := .running, cur := some .f6 } }

theorem test_idle_pump : ({} : Line).pumpOk :=
  ⟨by decide, (by intro k h; cases h), fun _ => ⟨rfl, rfl, by decide⟩, (by intro j h; cases h)⟩

theorem test_fax_pump : (faxPump.line 0).pumpOk := by
  refine ⟨by decide, ?_, (by intro h; cases h), (by intro j h; cases h)⟩
  intro k h
  have : k = .f6 := by simpa [show pumpsOf (faxPump.line 0).acts = [.f6] from rfl] using h
  subst this
  refine ⟨⟨rfl, ?_, ?_, ?_, ?_, ?_, ?_⟩, ⟨fun _ => rfl, ?_, ?_, ?_⟩, ⟨rfl, .inr (.inl ⟨rfl, rfl⟩)⟩, ?_⟩
  · intro c h; cases h; exact ⟨rfl, Nat.le_refl _⟩
  · intro c h; cases h
  · intro c h; cases h
  · intro c h; cases h
  · intro c h; cases h
  · intro c h; cases h
  · intro h; exact absurd rfl h
  · intro h; exact absurd rfl h
  · intro _; exact ⟨rfl, by decide⟩
  · intro h; cases h

theorem witness_HoldingsNeverExceedCapacity :
    base.budgetOk ∧ base.held = 0 ∧ (∃ t, step base = .next t)
      ∧ faxPump.budgetOk ∧ (faxPump.line 0).dp.cur = some .f6 ∧ ∃ t, step faxPump = .next t := by
  refine ⟨⟨by decide, ?_, (by intro p h; cases h)⟩, by decide, ⟨_, rfl⟩, ⟨by decide, ?_, (by intro p h; cases h)⟩, rfl, _, rfl⟩
  · intro i; rw [show base.line i = {} by revert i; decide]; exact test_idle_pump
  · intro i
    by_cases h : i = 0
    · subst h; exact test_fax_pump
    · rw [show faxPump.line i = {} by revert i; decide]; exact test_idle_pump

theorem witness_AdmissionGrantsWithinFreeUnits :
    Ask.fit ⟨[.voiceBase], none⟩ 4 = some [.voiceBase] ∧ Ask.fit ⟨[.voiceBase], none⟩ 3 = none
      ∧ Ask.fit ⟨[.blockLink], some ⟨.d2, .d1⟩⟩ 120 = some [.pump .d2, .blockLink]
      ∧ Ask.fit ⟨[.blockLink], some ⟨.d2, .d1⟩⟩ 0 = none
      ∧ (∀ c ∈ [Cls.d1, .d2], c ∈ classesDown ⟨.d2, .d1⟩) := by decide

/-- A line with an admission pending, one without; an admission that fits and one that does not; a forward step with the
units for it and one without. -/
theorem witness_AdmissionGrantsWithinFreeUnits_requests :
    (base.joinPending 0 ⟨[.voiceBase], none⟩ .ccConnection).hasPending 0 = true ∧ base.hasPending 0 = false
      ∧ Ask.fit ⟨[.voiceBase], none⟩ ((L fun l => { l with acts := [.listener] }).endActs 0 [.listener]).free
          = some [.voiceBase]
      ∧ (∃ x ∈ ((L fun l => { l with acts := [.listener] }).line 0).acts, x ∈ [Activity.listener])
      ∧ Ask.fit ⟨List.replicate 31 .voiceBase, none⟩ base.free = none ∧ Cls.cost .d2 - Cls.cost .d1 ≤ base.free
      ∧ (L fun l => { l with acts := List.replicate 30 .voiceBase }).free < Cls.cost .d2 - Cls.cost .d1 := by decide

theorem witness_StoreReadsBackWhatWasWritten : memWf [(0, 1), (4194303, 255)] := by decide

theorem witness_RaisingSetsOneFlag : base.nu.flags.length = 19 ∧ ((Notice.call, (1 : LineNo)) ≠ (Notice.call, 0)) := by
  decide

theorem witness_HookTimersEnd :
    (∃ s : State, s.phase = .running ∧ (s.line 0).lif.flashDue = some 500 ∧ (s.line 0).cc.elem = .flash)
      ∧ (∃ s : State, s.phase = .running ∧ (s.line 0).lif.flashDue = some 0 ∧ (s.line 0).cc.elem = .none)
      ∧ (∃ s : State, s.phase = .running ∧ (s.line 0).lif.breakDue = some 60)
      ∧ (∃ s : State, s.phase = .running ∧ (s.line 0).lif.makeDue = some 40 ∧ 0 < (s.line 0).lif.breaksLeft)
      ∧ ∃ s : State, s.phase = .running ∧ (s.line 0).lif.makeDue = some 40 ∧ (s.line 0).lif.breaksLeft = 0 :=
  ⟨⟨L fun l => { l with lif := { flashDue := some 500 }, cc := { elem := .flash } }, rfl, rfl, rfl⟩,
   ⟨L fun l => { l with lif := { flashDue := some 0 } }, rfl, rfl, rfl⟩,
   ⟨L fun l => { l with lif := { breakDue := some 60, breaksLeft := 1 } }, rfl, rfl⟩,
   ⟨L fun l => { l with lif := { makeDue := some 40, breaksLeft := 1 } }, rfl, rfl, by decide⟩,
   ⟨L fun l => { l with lif := { makeDue := some 40 } }, rfl, rfl, rfl⟩⟩

theorem witness_RingEnvelopeMovesDetector :
    (∃ s : State, s.phase = .running ∧ (s.line 0).lif.burstDue = some 100 ∧ (s.line 0).lif.hook = .onHook)
      ∧ (∃ s : State, s.phase = .running ∧ (s.line 0).lif.burstDue = some 500 ∧ (s.line 0).lif.hook = .offHook)
      ∧ (∃ s : State, s.phase = .running ∧ (s.line 0).lif.ring = .candidate ∧ (s.line 0).lif.deferred = true)
      ∧ (∃ s : State, s.phase = .running ∧ (s.line 0).lif.ring = .burst ∧ (s.line 0).lif.firstBurst = true)
      ∧ ∃ s : State, s.phase = .running ∧ (s.line 0).lif.abandon = .running 8000 :=
  ⟨⟨L fun l => { l with lif := { ring := .candidate, burstDue := some 100 } }, rfl, rfl, rfl⟩,
   ⟨L fun l => { l with lif := { ring := .candidate, burstDue := some 500, hook := .offHook } }, rfl, rfl, rfl⟩,
   ⟨L fun l => { l with lif := { ring := .candidate, deferred := true } }, rfl, rfl, rfl⟩,
   ⟨L fun l => { l with lif := { ring := .burst, firstBurst := true } }, rfl, rfl, rfl⟩,
   ⟨L fun l => { l with lif := { abandon := .running 8000 } }, rfl, rfl⟩⟩

theorem witness_LoopAndSupervisionEvents :
    (∃ s : State, s.phase = .running ∧ (s.line 0).lif.blankDue = some 200 ∧ (s.line 0).lif.hook = .offHook)
      ∧ (∃ s : State, s.phase = .running ∧ (s.line 0).lif.loop = .present)
      ∧ (∃ s : State, s.phase = .running ∧ (s.line 0).lif.loop = .lost)
      ∧ (∃ s : State, s.phase = .running ∧ (s.line 0).lif.absenceDue = some 400)
      ∧ ∃ s : State, s.phase = .running ∧ (s.line 0).lif.intervalDue = some 2000 ∧ (s.line 0).lif.ring = .quiet :=
  ⟨⟨L fun l => { l with lif := { blankDue := some 200, hook := .offHook } }, rfl, rfl, rfl⟩,
   ⟨L fun l => { l with lif := { loop := .present } }, rfl, rfl⟩,
   ⟨L fun l => { l with lif := { loop := .lost } }, rfl, rfl⟩,
   ⟨L fun l => { l with lif := { absenceDue := some 400 } }, rfl, rfl⟩,
   ⟨L fun l => { l with lif := { intervalDue := some 2000 } }, rfl, rfl, rfl⟩⟩

/-- Line 0 with a service state and its counts. -/
def serviced (v : Service) (bad good : Nat) : State :=
  L fun l => { l with lif := { service := v, badCount := bad, goodCount := good } }

theorem witness_SupervisionResultMovesServiceState :
    (serviced .inService 0 0).nu.flags.length = 19 ∧ ((serviced .inService 0 0).line 0).lif.service = .inService
      ∧ ((serviced .suspect 1 0).line 0).lif.service = .suspect ∧ ((serviced .suspect 1 0).line 0).lif.badCount = 1
      ∧ ((serviced .suspect 2 0).line 0).lif.badCount = 2
      ∧ ((serviced .outOfService 3 1).line 0).lif.service = .outOfService
      ∧ ((serviced .outOfService 3 1).line 0).lif.goodCount ≤ 1
      ∧ ((serviced .outOfService 3 2).line 0).lif.goodCount = 2 ∧ (base.line 0).lif.hook = .onHook
      ∧ ((L fun l => { l with lif := { hook := .offHook } }).line 0).lif.hook ≠ .onHook ∧ (3 : LineNo) ≠ 0 := by decide

/-- Line 0 with this call controller. -/
def C (c : Cc) : State := L fun l => { l with cc := c }

theorem witness_DialElementsEnd :
    (∃ s : State, s.phase = .running ∧ (s.line 0).cc.state = .seized)
      ∧ (∃ s : State, s.phase = .running ∧ (s.line 0).cc.state = .dialling ∧ (s.line 0).cc.elem = .await 5000)
      ∧ (∃ s : State, s.phase = .running ∧ (s.line 0).cc.dialToneDue = some 5000)
      ∧ (∃ s : State, s.phase = .running ∧ (s.line 0).cc.elem = .toneDigit 160)
      ∧ (∃ s : State, s.phase = .running ∧ (s.line 0).cc.elem = .pulsePause 700)
      ∧ ∃ s : State, s.phase = .running ∧ (s.line 0).cc.elem = .pause 100 :=
  ⟨⟨C { state := .seized }, rfl, rfl⟩, ⟨C { state := .dialling, elem := .await 5000 }, rfl, rfl, rfl⟩,
   ⟨C { state := .seized, dialToneDue := some 5000 }, rfl, rfl⟩, ⟨C { elem := .toneDigit 160 }, rfl, rfl⟩,
   ⟨C { elem := .pulsePause 700 }, rfl, rfl⟩, ⟨C { elem := .pause 100 }, rfl, rfl⟩⟩

/-- Line 0 off hook at the last element before these. -/
def dialling (m : DialMethod) (rest : List DialElem) : State :=
  L fun l => { l with
    lif := { hook := .offHook }, cc := { state := .dialling, dial := .awaitTone :: rest, method := m } }

theorem witness_DialListAdvancesByElement :
    (∃ s : State, (s.line 0).cc.dial.drop ((s.line 0).cc.pos + 1) = [.digit .hash] ∧ (s.line 0).cc.method = .tone)
      ∧ (∃ s : State, (s.line 0).cc.dial.drop ((s.line 0).cc.pos + 1) = [.pause 255])
      ∧ (∃ s : State, (s.line 0).cc.dial.drop ((s.line 0).cc.pos + 1) = [.awaitTone])
      ∧ (∃ s : State, (s.line 0).cc.dial.drop ((s.line 0).cc.pos + 1) = [.flash] ∧ (s.line 0).lif.hook = .offHook)
      ∧ (∃ s : State, (s.line 0).cc.dial.drop ((s.line 0).cc.pos + 1) = [.digit (.num 0)]
          ∧ (s.line 0).cc.method = .pulse ∧ (s.line 0).lif.hook = .offHook ∧ (s.line 0).lif.makeDue = none)
      ∧ ∃ s : State, (s.line 0).cc.dial.drop ((s.line 0).cc.pos + 1) = [] ∧ (s.line 0).cc.state = .dialling :=
  ⟨⟨dialling .tone [.digit .hash], rfl, rfl⟩, ⟨dialling .tone [.pause 255], rfl⟩, ⟨dialling .tone [.awaitTone], rfl⟩,
   ⟨dialling .tone [.flash], rfl, rfl⟩, ⟨dialling .pulse [.digit (.num 0)], rfl, rfl, rfl, rfl⟩, ⟨dialling .tone [], rfl, rfl⟩⟩

/-- Line 0 in PROGRESS with this tone. -/
def heard (t : CpTone) (now : Nat) : State :=
  { (L fun l => { l with cc := { state := .progress, kind := some .voice }, tu := { cp := t } }) with now := now }

theorem witness_CallProgressTonesAreClassed :
    base.toneWatched 0 = false ∧ (heard .quiet 0).toneWatched 0 = true ∧ ((heard .quiet 0).line 0).tu.cp = .quiet
      ∧ ((heard .over 0).line 0).tu.cp.present = true ∧ (heard (.silence 0) 200).toneWatched 0 = true
      ∧ ((heard (.silence 0) 199).line 0).tu.cp = .silence 0
      ∧ ((heard (.silence 0) 700).line 0).tu.cp = .silence 0 ∧ (heard (.silence 0) 700).now = 700 ∧ ((heard (.tone 0) 199).line 0).tu.cp = .tone 0
      ∧ (heard (.tone 0) 700).toneWatched 0 = true ∧ (heard (.tone 0) 2500).phase = .running
      ∧ ((heard .over 0).line 0).tu.cp = .over := by decide

theorem witness_ProgressIsDecided :
    ((heard .quiet 0).line 0).cc.state = .progress ∧ (heard .quiet 0).hasPending 0 = false
      ∧ ((heard .quiet 0).line 0).cc.kind = some .voice ∧ (heard .quiet 0).phase = .running
      ∧ ((C { state := .progress, kind := some .fax }).line 0).cc.kind = some (answerKind .fax)
      ∧ ((C { answerDue := some 45000 }).line 0).cc.answerDue = some 45000
      ∧ ((C { ringbackDue := some 8000, ringbackHeard := true }).line 0).cc.ringbackDue = some 8000 := by decide

/-- Frames in which no tone is reported, in which one has ended, and in which one goes on. -/
theorem witness_ProgressIsDecided_frames :
    ((heard .quiet 0).line 0).tu.toneInFrame = false ∧ ((heard .quiet 0).line 0).tu.cp.present = false
      ∧ (((heard .quiet 0).updTu 0 fun t => { t with toneInFrame := true }).line 0).tu.toneInFrame = true
      ∧ ((heard (.tone 0) 1).line 0).tu.cp.present = true := by decide

theorem witness_SettleDrainAndGuardEnd :
    (∃ s : State, s.phase = .running ∧ (s.line 0).cc.settleDue = some 1000)
      ∧ (∃ s : State, s.phase = .running ∧ (s.line 0).cc.drainDue = some 10000 ∧ (s.line 0).blc.tx = []
          ∧ (s.line 0).blc.unacked = [])
      ∧ ∃ s : State, s.phase = .running ∧ (s.line 0).cc.guardDue = some 1000 :=
  ⟨⟨C { state := .answering, kind := some .voice, settleDue := some 1000 }, rfl, rfl⟩,
   ⟨C { state := .connected, kind := some .data, drainDue := some 10000 }, rfl, rfl, rfl, rfl⟩,
   ⟨C { state := .clearing, guardDue := some 1000 }, rfl, rfl⟩⟩

theorem witness_CallerIdentificationAndDigits :
    (∃ s : State, s.phase = .running ∧ (s.line 0).tu.clid = some { due := 4000 })
      ∧ (∃ s : State, s.phase = .running ∧ (s.line 0).holds .voiceBase = true ∧ (s.line 0).tu.toneDue = none
          ∧ (s.line 0).tu.digits.length = 15)
      ∧ (∃ s : State, s.phase = .running ∧ (s.line 0).holds .voiceBase = true ∧ (s.line 0).tu.toneDue = none
          ∧ (s.line 0).tu.digits.length = 16)
      ∧ ∃ s : State, s.phase = .running ∧ (s.line 0).tu.toneDue = some 160 ∧ (s.line 0).tu.toneList = [.star] :=
  ⟨⟨L fun l => { l with tu := { clid := some { due := 4000 } } }, rfl, rfl⟩,
   ⟨L fun l => { l with acts := [.voiceBase], tu := { digits := List.replicate 15 .star } }, rfl, by decide, rfl, rfl⟩,
   ⟨L fun l => { l with acts := [.voiceBase], tu := { digits := List.replicate 16 .star } }, rfl, by decide, rfl, rfl⟩,
   ⟨L fun l => { l with tu := { toneDue := some 160, toneList := [.star] } }, rfl, rfl, rfl⟩⟩

/-- A table with its numbers 48 and 49, the second LEARNED; one full of LEARNED entries; one full of KNOWN ones. -/
theorem witness_CallerIdentificationAndDigits_table :
    (∃ (t : Ct) (e : CtEntry), t.find [49] = some 1 ∧ t.table[1]? = some (some e) ∧ e.count = 255)
      ∧ (∃ t : Ct, t.find [49] = none ∧ t.table.findIdx? (·.isNone) = some 31)
      ∧ (∃ (t : Ct) (k : Nat), t.find [49] = none ∧ t.table.findIdx? (·.isNone) = none ∧ t.oldest = some k)
      ∧ ∃ t : Ct, t.find [49] = none ∧ t.table.findIdx? (·.isNone) = none ∧ t.oldest = none :=
  ⟨⟨{ table := [none, some ⟨[49], .learned, 255, 7, none⟩] }, _, by decide, rfl, rfl⟩,
   ⟨{ table := List.replicate 31 (some ⟨[48], .known, 0, 0, none⟩) ++ [none] }, by decide, by decide⟩,
   ⟨{ table := List.replicate 32 (some ⟨[48], .learned, 0, 0, none⟩) }, 0, by decide, by decide, by decide⟩,
   ⟨{ table := List.replicate 32 (some ⟨[48], .known, 0, 0, none⟩) }, by decide, by decide, by decide⟩⟩

/-- Line 1 holds 114 units, so that exactly 6 are free. -/
def sixFree : State := base.upd 1 fun l => { l with acts := .callProgress :: List.replicate 27 .voiceBase }

/-- Every group has every line; `recs` are the entry records. -/
def grouped (recs : List EntryRec) : State :=
  { base with
    sl := { base.sl with live := { base.sl.live with groups := Four.all (Four.all true) } }
    gd := { base.gd with groupState := Four.all .active, recs := recs } }

/-- The same with every line in a call. -/
def allBusy : State := { grouped (List.replicate 8 {}) with lines := Four.all { cc := voiceCc } }

theorem witness_CallSeizesALine :
    sixFree.ready ∧ CallKind.of 2 = some .voice
      ∧ dialListOf (some (sixFree.lineSettings 0).dialMethod) [(0, 48)] = some [.digit (.num 0)]
      ∧ (sixFree.line 0).lif.service ≠ .outOfService ∧ (sixFree.line 0).cc.state = .idle ∧ sixFree.free = 6
      ∧ dialListOf none [] = some [] ∧ (grouped (List.replicate 8 {})).ready
      ∧ (grouped (List.replicate 8 {})).gd.groupState.get 3 ≠ .empty
      ∧ (grouped (List.replicate 8 {})).chooseLine 3 = some 0 ∧ (grouped (List.replicate 8 {})).freeRec = some 0
      ∧ (grouped (List.replicate 8 { st := .queued })).chooseLine 0 = some 0
      ∧ (grouped (List.replicate 8 { st := .queued })).freeRec = none
      ∧ allBusy.ready ∧ allBusy.chooseLine 0 = none ∧ allBusy.freeRec = some 0 := by
  refine ⟨⟨rfl, rfl, rfl, rfl, by decide⟩, ?_, ?_, ?_, ?_, ?_, ?_, ⟨rfl, rfl, rfl, rfl, by decide⟩, ?_, ?_, ?_, ?_, ?_,
    ⟨rfl, rfl, rfl, rfl, by decide⟩, ?_, ?_⟩ <;> decide

/-- Line 1 holds 115 units, so that 5 are free. -/
def fiveFree : State := base.upd 1 fun l => { l with acts := .voiceRecord :: .listener :: List.replicate 26 .voiceBase }

theorem witness_CallSeizesALine_refused :
    ((serviced .outOfService 3 0).line 0).lif.service = .outOfService ∧ ((C voiceCc).line 0).cc.state ≠ .idle
      ∧ fiveFree.free = 5 ∧ ({ allBusy with gd := { allBusy.gd with recs := List.replicate 8 { st := .queued } } } : State).freeRec
          = none
      ∧ base.gd.groupState.get 0 = .empty ∧ CallKind.of 3 = none ∧ dialListOf none [(5, 0)] = none
      ∧ dialListOf (some .pulse) [(0, 42)] = none := by decide

theorem witness_AnsrRelsDigrToneAreTaken :
    (C { state := .ringing }).ready ∧ CallKind.of 0 = some .data ∧ ((C { state := .ringing }).line 0).cc.state = .ringing
      ∧ ((C { state := .ringing }).line 0).cc.ignore = false ∧ flagOf 0 = some false ∧ flagOf 1 = some true
      ∧ dtmfList [48] = some [.num 0] ∧ (dtmfList (List.replicate 32 35)).isSome = true ∧ (C voiceCc).ready
      ∧ ((C voiceCc).line 0).cc.state = .connected ∧ ((C voiceCc).line 0).cc.kind = some .voice
      ∧ ((C voiceCc).line 0).planActive = false ∧ ((C voiceCc).line 0).vc.op = none
      ∧ ((C voiceCc).line 0).tu.toneDue = none := by
  refine ⟨(test_base_ready _).1, ?_, ?_, ?_, ?_, ?_, ?_, ?_, (test_base_ready _).1, ?_, ?_, ?_, ?_, ?_⟩ <;> decide

theorem witness_AnsrRelsDigrToneAreTaken_refused :
    CallKind.of 3 = none ∧ ((C { state := .ringing, ignore := true }).line 0).cc.ignore = true
      ∧ (base.line 0).cc.state ≠ .ringing ∧ flagOf 2 = none ∧ dtmfList [47] = none ∧ dtmfList [35] = some [.hash]
      ∧ (base.line 0).cc.connectedVoice = false ∧ ((C voiceCc).line 0).cc.connectedVoice = true
      ∧ (((C voiceCc).updTu 0 fun t => { t with toneDue := some 0 }).line 0).tu.toneDue ≠ none := by decide

theorem witness_ClearingEndsTheCall :
    base.nu.flags.length = 19 ∧ (base.line 0).cc.state.inCall = false ∧ ((C voiceCc).line 0).cc.state.inCall = true
      ∧ ((C voiceCc).line 0).apc.plan ≠ .waitRings := by decide

theorem witness_CnclWithdrawsAQueuedCall :
    (grouped (List.replicate 8 { st := .queued })).ready
      ∧ (grouped (List.replicate 8 { st := .queued })).gd.recs.length = 8
      ∧ (grouped (List.replicate 8 { st := .queued })).gd.recs[7]? = some { st := .queued }
      ∧ ∃ r, base.gd.recs[0]? = some r ∧ r.st ≠ .queued :=
  ⟨⟨rfl, rfl, rfl, rfl, by decide⟩, rfl, rfl, _, rfl, by decide⟩

theorem witness_QueueExpiryAndCallerTableRequests :
    (grouped (List.replicate 8 { st := .queued })).queuedRec (7 : Fin 8) = some { st := .queued }
      ∧ base.phase = .running ∧ base.queuedRec (0 : Fin 8) = none ∧ CallerClass.ofEntry 3 = some .barred
      ∧ goodNumber [48] = true ∧ goodNumber (List.replicate 20 57) = true ∧ goodLabel [] = true
      ∧ goodLabel (List.replicate 12 126) = true
      ∧ ({ table := List.replicate 32 (some ⟨[48], .known, 0, 0, none⟩), ordinal := 0 } : Ct).used 31
          = some ⟨[48], .known, 0, 0, none⟩ := by decide

/-- Groups without members, with all in service, all out; a queue whose second entry the line takes, one whose entries it
cannot take; records assigned to a line before and at their expiry. -/
theorem witness_QueueExpiryAndCallerTableRequests_groups :
    base.nu.flags.length = 19 ∧ base.groupStateOf 0 = .empty ∧ (grouped (List.replicate 8 {})).groupStateOf 0 = .active
      ∧ ({ grouped (List.replicate 8 {}) with lines := Four.all { lif := { service := .outOfService } } } : State).groupStateOf 0
          = .down
      ∧ (grouped []).chooseLine 0 = some 0 ∧ base.chooseLine 0 = none ∧ CallerClass.ofEntry 4 = none
      ∧ goodNumber (List.replicate 21 57) = false ∧ goodLabel (List.replicate 13 126) = false ∧ base.ct.used 31 = none
      ∧ (∃ r, (grouped [{ st := .queued }]).queuedRec 0 = some r ∧ (grouped []).eligible r.call.group 0 = true)
      ∧ (grouped [{ st := .assigned 0, expiry := 1 }]).assignedTo 0 = some 0 ∧ base.assignedTo 0 = none := by
  refine ⟨rfl, by decide, by decide, by decide, by decide, by decide, by decide, by decide, by decide, by decide,
    ⟨_, rfl, by decide⟩, by decide, by decide⟩

theorem witness_PendingExpiryAndBudg :
    (∃ (s : State) (p : Pending), s.phase = .running ∧ (s.bm.plist.find? fun q => q.line == 0) = some p)
      ∧ base.hasPending 0 = false ∧ base.ready :=
  ⟨⟨base.joinPending 0 ⟨[.voiceBase], none⟩ .ccConnection, _, rfl, rfl⟩, by decide, (test_base_ready id).1⟩

/-- A head that fits, and one that does not with line 3's pump, of lower precedence, as the victim. -/
theorem witness_PendingExpiryAndBudg_handOut :
    ∃ (s u : State) (p : Pending), s.bm.due = true ∧ s.pendingHead = some p ∧ p.ask.fit s.free = some [.voiceBase]
      ∧ u.pendingHead = some p ∧ p.ask.fit u.free = none ∧ u.chooseVictim p = some 3 ∧ (u.line 3).dp.cur = some .d7
      ∧ u.bm.reclaim = none ∧ s.chooseVictim p = none := by
  refine ⟨{ base.joinPending 0 ⟨[.voiceBase], none⟩ .ccConnection with
      bm := { (base.joinPending 0 ⟨[.voiceBase], none⟩ .ccConnection).bm with due := true } },
    ((base.joinPending 0 ⟨[.voiceBase], none⟩ .ccConnection).upd 3 fun l => { l with
      acts := List.replicate 30 .voiceBase
      dp := { family := some .data, pump := .running, cur := some .d7, reclaimFloor := some .d1 } }).upd 0 fun l => { l with
      precRaised := true }, _, rfl, rfl, ?_, ?_, ?_, ?_, ?_, ?_, ?_⟩ <;> decide

/-- Line 0 with this pump. -/
def D (d : Dp) : State := L fun l => { l with dp := d }

/-- Line 0 with this running fax job and wait. -/
def J (j : FaxJob) (w : FaxWait) : State :=
  L fun l => { l with fxc := { job := some { j with started := true }, wait := w } }

theorem witness_QualityReadingDrivesThePump :
    (∀ n ∈ [0, 149], ((D { family := some .data, pump := .training, trainCount := n }).line 0).dp.trainCount < 150)
      ∧ ((D { family := some .data, pump := .training }).line 0).dp.family = some .data
      ∧ (((J { dir := some .receive, phase := .train } .none).updDp 0 fun _ =>
          { family := some .fax, pump := .training, trainCount := 149 }).line 0).receiveChecks = true
      ∧ ((D { family := some .fax, pump := .running }).line 0).dp.family ≠ some .data
      ∧ ((D { family := some .data, pump := .running }).line 0).dp.pump = .running
      ∧ ((D { pump := .rateChange }).line 0).dp.pump = .rateChange ∧ (base.line 0).dp.pump = .off := by decide

/-- A fax pump in RUNNING whose send job has its partial page open, with this wait. -/
def sending (w : FaxWait) : State :=
  (J { dir := some .send, phase := .page, partOpen := true } w).updDp 0 fun _ => { family := some .fax, pump := .running, acc := 80 }

theorem witness_QualityReadingDrivesThePump_sends :
    (((sending .none).line 0).dp.pump = .running ∧ ((sending .none).line 0).dp.family ≠ some .data
      ∧ ∃ j, ((sending .none).line 0).runningJob = some j ∧ j.dir = some .send ∧ j.phase = .page ∧ j.partOpen = true
        ∧ ((sending .none).line 0).fxc.wait = .none)
      ∧ ((sending (.answer .roundEnd 1 3000)).line 0).dp.pump = .running
      ∧ ((sending (.answer .roundEnd 1 3000)).line 0).fxc.wait ≠ .none := by
  refine ⟨⟨rfl, by decide, _, rfl, rfl, rfl, rfl, rfl⟩, rfl, by decide⟩

/-- A fax pump that sends a round takes no reading (R69), its stable run rising (R72); as it waits for the map, A is
80 - 10 + 30. -/
theorem test_reading_while_sending :
    ∃ t u, exec (.qualityReading 0 30) (sending .none) = .next t ∧ (t.line 0).dp.acc = 80 ∧ (t.line 0).dp.stableRun = 1
      ∧ exec (.qualityReading 0 30) (sending (.answer .roundEnd 1 3000)) = .next u ∧ (u.line 0).dp.acc = 100 :=
  ⟨_, _, rfl, by decide, by decide, rfl, by decide⟩

/-- The second check a receive job rejects at F1 sends verdict rejected and ends the job CHECK_FAILED (R104). -/
theorem test_second_f1_failure :
    ∃ t, exec (.qualityReading 0 0) ((J { dir := some .receive, phase := .train, fk := some .f1, f1fails := 1 } .none).updDp 0
        fun _ => { family := some .fax, pump := .training, trainCount := 149 }) = .next t
      ∧ (t.line 0).fxc.sent = some (.verdict (some .f1))
      ∧ (t.line 0).fxc.job.bind (·.outcome) = some .checkFailed :=
  ⟨_, rfl, by decide, by decide⟩

/-- A training at 149 readings of which the mean is 46 or 13, the limit D7: the pick is D4, or none; an offer, or none. -/
theorem witness_QualityReadingDrivesThePump_pick :
    ((L fun l => { l with acts := [.pump .d7], dp := { family := some .data, pump := .training, offer := some .d1 } }).line
        0).pickLimit = some .d7
      ∧ localPick .d7 (7100 / 150) = some .d4 ∧ localPick .d7 (2099 / 150) = none ∧ localPick .d7 14 = some .d1
      ∧ localPick .f6 100 = some .f6
      ∧ ((D { pump := .retraining, cur := some .d5, owed := some .d3 }).line 0).pickLimit = some .d3
      ∧ ((D { pump := .retraining, cur := some .d5 }).line 0).dp.offer = none := by decide

theorem witness_PumpExchangesWithTheRemote :
    ((D { family := some .data, pump := .training }).line 0).dp.pump = .training
      ∧ ((D { offerDue := some 3000 }).line 0).dp.offerDue = some 3000
      ∧ ((D { rc := some ⟨true, .d2, some 0, false⟩ }).line 0).dp.rc = some ⟨true, .d2, some 0, false⟩
      ∧ ((D { family := some .data, pump := .running, cur := some .d1 }).line 0).dp.cur = some .d1
      ∧ ((D { family := some .data, pump := .retraining }).line 0).dp.pump ≠ .running
      ∧ ((D { family := some .data, pump := .rateChange }).line 0).dp.pump = .rateChange := by decide

/-- Line 0 with this link, its data pump running. -/
def B (b : Blc) : State := L fun l => { l with dp := { family := some .data, pump := .running }, blc := b }

theorem witness_LinkSetupAndTransmitter :
    ((B { link := .setup }).line 0).blc.link = .setup ∧ ((B { link := .setup }).line 0).dp.pump = .running
      ∧ ((B { mode := some .ec, link := .suspended }).line 0).blc.mode = some .ec
      ∧ (∀ n ∈ [1, 2, 3], ((B { tryNo := n, tryDue := some 2000 }).line 0).blc.tryDue = some 2000)
      ∧ ((B { transmitting := some (.plain 0) }).line 0).blc.transmitting.isSome = true
      ∧ ((B { link := .setup }).line 0).takesMessages = true
      ∧ ((B { retryDue := some 1500, unacked := [⟨127, [0], 1, 10⟩] }).line 0).blc.unacked = [⟨127, [0], 1, 10⟩] := by
  decide

/-- The transmitter's choices: a message in the slot, a setup message owed, a peer not ready, the first and the last block
of the list at the pointer, a new block with the window one block from full, a full window. -/
theorem witness_LinkSetupAndTransmitter_choices :
    ((L fun l => { l with blc := { link := .setup } }).line 0).dp.pump ≠ .running
      ∧ ((B { mode := some .ec, link := .up, slot := some ⟨.ack, 127⟩ }).line 0).blc.slot = some ⟨.ack, 127⟩
      ∧ ((B { mode := some .ec, link := .up, setupOwed := true }).line 0).blc.setupOwed = true
      ∧ ((B { mode := some .ec, link := .up, peerNotReady := true }).line 0).blc.peerNotReady = true
      ∧ (∀ n ∈ [127, 0], ∃ (pre : List Block) (k : Block) (r : List Block),
          [⟨127, [0], 1, 0⟩, ⟨0, [1], 1, 0⟩] = pre ++ k :: r ∧ (∀ x ∈ pre, x.seq ≠ k.seq)
          ∧ ((B { mode := some .ec, link := .up, resend := some n }).line 0).blc.resend = some k.seq)
      ∧ ((B { mode := some .ec, link := .up, window := 1, block := 32, tx := [0] }).line 0).blc.tx ≠ []
      ∧ (0 < ((B { mode := some .ec, link := .up, window := 1, tx := [0] }).line 0).blc.window)
      ∧ ((B { mode := some .plain, link := .up, tx := [255] }).line 0).blc.tx = [255]
      ∧ ((B { mode := some .ec, link := .up }).line 0).blc.transmitting = none := by
  refine ⟨by decide, rfl, rfl, rfl, ?_, by decide, by decide, rfl, rfl⟩
  intro n hn
  rcases List.mem_pair.1 hn with rfl | rfl
  · exact ⟨[], ⟨127, [0], 1, 0⟩, [⟨0, [1], 1, 0⟩], rfl, by simp, rfl⟩
  · exact ⟨[⟨127, [0], 1, 0⟩], ⟨0, [1], 1, 0⟩, [], rfl, by decide, rfl⟩

theorem witness_LinkReceivesMessages :
    ((B { mode := some .ec, link := .up }).line 0).blc.mode = some .ec
      ∧ ((B { mode := some .ec, link := .suspended }).line 0).blc.link = .suspended
      ∧ ((B { mode := some .plain, link := .up }).line 0).blc.mode = some .plain
      ∧ ((B { mode := some .plain, link := .up }).line 0).blc.link = .up ∧ base.phase = .running
      ∧ ((B { mode := some .plain, link := .suspended }).line 0).blc.link = .suspended
      ∧ ((B { link := .setup }).line 0).blc.link = .setup := by decide

/-- A bad message on a SUSPENDED link is counted (R86), and so is a data block of no byte. -/
theorem test_bad_messages_while_suspended :
    ∃ t u, exec (.badMessageReceived 0) (B { mode := some .ec, link := .suspended }) = .next t
      ∧ (t.line 0).cnt.badChecks = 1
      ∧ exec (.dataBlockReceived 0 0 []) (B { mode := some .ec, link := .suspended }) = .next u
      ∧ (u.line 0).cnt.badChecks = 1 := ⟨_, _, rfl, by decide, rfl, by decide⟩

/-- The next block, the last and the first beyond the window's 15, with RX full; a data block of no bytes whose check is
not the one received. -/
theorem witness_LinkReceivesMessages_blocks :
    (∀ n ∈ [0, 15, 16], (n % 128 + 128 - ((B { mode := some .ec, link := .up, maxBlock := 256 }).line 0).blc.vr) % 128 = n)
      ∧ ((B { mode := some .ec, link := .up, maxBlock := 256, rx := List.replicate 2048 0 }).line 0).blc.rx.length = 2048
      ∧ ∃ check : List Byte, check.length = 2 ∧ linkFields [kindByte 0, 0, 0, 0] = some (.data 0 [])
          ∧ check ≠ checkBytes (LinkMsg.data 0 []).covered := by
  refine ⟨by decide, by decide, ?_⟩
  by_cases h : ([0, 0] : List Byte) = checkBytes (LinkMsg.data 0 []).covered
  · exact ⟨[0, 1], rfl, by simp [linkFields, lineNumber], by rw [← h]; decide⟩
  · exact ⟨[0, 0], rfl, by simp [linkFields, lineNumber], h⟩

theorem witness_DataInAndFlowAreTaken :
    (C { state := .connected, kind := some .data }).ready
      ∧ ((C { state := .connected, kind := some .data }).line 0).cc.kind = some .data
      ∧ (base.line 3).cc.connectedData = false ∧ base.cnt.stray < 4294967295 :=
  ⟨(test_base_ready _).1, rfl, by decide, by decide⟩

/-- `base` with the store `store`, a fax call on line 0. -/
def faxReady : State := { C { state := .connected, kind := some .fax } with stc := store }

theorem witness_FaxRequestsAreTaken :
    faxReady.ready ∧ Resolution.of 1 = some .fine ∧ Policy.of 1 = some .accept
      ∧ (∀ n ∈ [1, 16], faxReady.pagesRefusal (List.replicate n 0) = none) ∧ faxReady.jobRefusal 0 = none
      ∧ ((J {} .none).line 0).jobLive = true ∧ ((J {} .none).line 0).fxc.job = some { started := true } := by
  refine ⟨⟨rfl, rfl, rfl, rfl, by decide⟩, ?_, ?_, ?_, ?_, ?_, ?_⟩ <;> decide

theorem witness_FaxRequestsAreTaken_refused :
    Resolution.of 2 = none ∧ Policy.of 2 = none ∧ base.jobRefusal 0 = some .wrongState
      ∧ (L fun l => { l with cc := voiceCc, apc := { plan := .faxHandoff } }).jobRefusal 0 = some .busy
      ∧ faxReady.pagesRefusal [95] = some .notFound ∧ faxReady.pagesRefusal [1] = some .badArgument
      ∧ ({ faxReady with stc := store.updEntry 0 fun e => { e with open_ := true } } : State).pagesRefusal [0]
          = some .wrongState
      ∧ (base.line 0).fxc.job = none ∧ (base.line 0).jobLive = false := by decide

theorem witness_FaxWaitsEnd :
    (∃ s : State, s.phase = .running ∧ (s.line 0).fxc.jobWaitDue = some 10000)
      ∧ (∃ s : State, s.phase = .running ∧ (s.line 0).fxc.wait = .answer .roundEnd 3 3000)
      ∧ (∃ s : State, s.phase = .running ∧ (s.line 0).fxc.wait = .answer (.burst .f1) 2 3000)
      ∧ (∃ s : State, s.phase = .running ∧ (s.line 0).fxc.wait = .capability 30000)
      ∧ (∃ (s : State) (j : FaxJob), s.phase = .running ∧ (s.line 0).fxc.wait = .sender 10000
          ∧ (s.line 0).runningJob = some j ∧ j.phase = .release)
      ∧ ∃ s : State, s.phase = .running ∧ (s.line 0).fxc.wait = .release 3000 :=
  ⟨⟨L fun l => { l with fxc := { jobWaitDue := some 10000 } }, rfl, rfl⟩, ⟨J {} (.answer .roundEnd 3 3000), rfl, rfl⟩,
   ⟨J {} (.answer (.burst .f1) 2 3000), rfl, rfl⟩, ⟨J {} (.capability 30000), rfl, rfl⟩,
   ⟨J { phase := .release } (.sender 10000), _, rfl, rfl, rfl, rfl⟩, ⟨J {} (.release 3000), rfl, rfl⟩⟩

theorem witness_FaxWaitsEnd_unreadable :
    (∃ (s : State) (j : FaxJob), s.phase = .running ∧ (s.line 0).runningJob = some j ∧ j.phase = .page)
      ∧ ∃ (s : State) (j : FaxJob), s.phase = .running ∧ (s.line 0).runningJob = some j ∧ j.phase = .train :=
  ⟨⟨J { phase := .page } .none, _, rfl, rfl, rfl⟩, ⟨J { phase := .train } .none, _, rfl, rfl, rfl⟩⟩

/-- A running job on line 0 whose record has these properties. -/
def Runs (P : FaxJob → Prop) : Prop :=
  ∃ (s : State) (j : FaxJob), s.phase = .running ∧ (s.line 0).runningJob = some j ∧ P j

/-- Every record can be that of a running job. -/
theorem test_runs (P : FaxJob → Prop) (j : FaxJob) (h : P { j with started := true }) (o : j.outcome = none) : Runs P := by
  refine ⟨J j .none, { j with started := true }, rfl, ?_, h⟩
  simp [J, L, State.upd, State.line, Line.runningJob, Line.jobRunning, o]

theorem witness_FaxSetUpIsNegotiated :
    Runs (fun j => j.dir = some .send ∧ j.phase = .setup) ∧ Runs (fun j => j.dir = some .receive ∧ j.phase = .setup)
      ∧ Runs (fun j => j.dir = some .send ∧ j.phase = .negotiate) ∧ Runs fun j => j.dir = some .send ∧ j.phase ≠ .negotiate :=
  ⟨test_runs _ { dir := some .send } ⟨rfl, rfl⟩ rfl, test_runs _ { dir := some .receive } ⟨rfl, rfl⟩ rfl,
   test_runs _ { dir := some .send, phase := .negotiate } ⟨rfl, rfl⟩ rfl,
   test_runs _ { dir := some .send, phase := .train } ⟨rfl, by decide⟩ rfl⟩

theorem witness_FaxSetUpIsNegotiated_checked :
    Runs (fun j => j.dir = some .receive ∧ j.phase ≠ .setup) ∧ Runs (fun j => j.checked = true) :=
  ⟨test_runs _ { dir := some .receive, phase := .train } ⟨rfl, by decide⟩ rfl, test_runs _ { checked := true } rfl rfl⟩

theorem witness_FaxChecksRun :
    Runs (fun j => j.dir = some .receive ∧ j.phase = .train) ∧ Runs (fun j => j.dir = some .receive ∧ j.phase = .postpage)
      ∧ ((J { dir := some .send, phase := .train, fk := some .f6 } .none).line 0).fxc.wait = .none
      ∧ Runs (fun j => j.dir = some .send ∧ j.phase = .train ∧ j.fk = some .f6)
      ∧ ((J { dir := some .send, phase := .train } (.answer (.burst .f1) 1 3000)).line 0).fxc.wait
          = .answer (.burst .f1) 1 3000 :=
  ⟨test_runs _ { dir := some .receive, phase := .train } ⟨rfl, rfl⟩ rfl,
   test_runs _ { dir := some .receive, phase := .postpage } ⟨rfl, rfl⟩ rfl, rfl,
   test_runs _ { dir := some .send, phase := .train, fk := some .f6 } ⟨rfl, rfl, rfl⟩ rfl, rfl⟩

theorem witness_FaxReceiveJobTakesPages :
    Runs (fun j => j.dir = some .receive ∧ j.phase = .page)
      ∧ Runs (fun j => j.dir = some .receive ∧ j.mapAnswer = some (.frameMap [] .continue))
      ∧ Runs (fun j => j.dir = some .receive ∧ j.mapAnswer = none ∧ j.phase = .page ∧ j.partOpen = true
          ∧ j.partEnded = false ∧ j.round = 4)
      ∧ Runs (fun j => j.dir = some .receive ∧ j.page = some 95 ∧ j.phase = .postpage)
      ∧ Runs (fun j => j.dir = some .receive ∧ j.page = none ∧ j.closeAnswered = true) :=
  ⟨test_runs _ { dir := some .receive, phase := .page } ⟨rfl, rfl⟩ rfl,
   test_runs _ { dir := some .receive, mapAnswer := some (.frameMap [] .continue) } ⟨rfl, rfl⟩ rfl,
   test_runs _ { dir := some .receive, phase := .page, partOpen := true, round := 4 } ⟨rfl, rfl, rfl, rfl, rfl, rfl⟩ rfl,
   test_runs _ { dir := some .receive, phase := .postpage, page := some 95 } ⟨rfl, rfl, rfl⟩ rfl,
   test_runs _ { dir := some .receive, closeAnswered := true } ⟨rfl, rfl, rfl⟩ rfl⟩

/-- A page entry of the fax region with cells for one partial page, for which the first and the second are asked. -/
theorem witness_FaxReceiveJobTakesPages_cells :
    ∃ (t : Stc) (e : Entry), t.entry 95 = some e ∧ e.kind.voice = false ∧ 16 * 0 + 16 ≤ e.extent ∧ ¬ 16 * 1 + 16 ≤ e.extent :=
  ⟨{ dir := List.replicate 95 none ++ [some
      { kind := .faxRxPage, open_ := true, moving := false, damaged := false, base := 1023, extent := 16, used := 0,
        mailbox := none, originLine := none, ordinal := none, number := none, fax := none }] },
   _, rfl, rfl, by decide, by decide⟩

theorem witness_FaxSendJobSendsPages :
    Runs (fun j => j.dir = some .send ∧ j.phase = .page ∧ j.partOpen = true)
      ∧ (∃ (s : State) (j : FaxJob), s.phase = .running ∧ (s.line 0).runningJob = some j ∧ j.dir = some .send
          ∧ j.phase = .page ∧ j.partOpen = true ∧ (s.line 0).fxc.wait = .none)
      ∧ (∃ (s : State) (j : FaxJob), s.phase = .running ∧ (s.line 0).runningJob = some j ∧ j.dir = some .send
          ∧ (s.line 0).fxc.wait = .answer .roundEnd 1 3000)
      ∧ ∃ (s : State) (j : FaxJob), s.phase = .running ∧ (s.line 0).runningJob = some j ∧ j.dir = some .send
          ∧ (s.line 0).fxc.wait = .answer (.pageClose false) 3 3000 :=
  ⟨test_runs _ { dir := some .send, phase := .page, partOpen := true } ⟨rfl, rfl, rfl⟩ rfl,
   ⟨J { dir := some .send, phase := .page, partOpen := true } .none, _, rfl, rfl, rfl, rfl, rfl, rfl⟩,
   ⟨J { dir := some .send } (.answer .roundEnd 1 3000), _, rfl, rfl, rfl, rfl⟩,
   ⟨J { dir := some .send } (.answer (.pageClose false) 3 3000), _, rfl, rfl, rfl, rfl⟩⟩

/-- A resend asked for in the fourth round, and the close of the sixteenth page. -/
theorem witness_FaxSendJobSendsPages_ends :
    (∃ (s : State) (j : FaxJob), s.phase = .running ∧ (s.line 0).runningJob = some j ∧ j.dir = some .send ∧ j.round = 4
        ∧ (s.line 0).fxc.wait = .answer .roundEnd 1 3000)
      ∧ (∃ (s : State) (j : FaxJob), s.phase = .running ∧ (s.line 0).runningJob = some j ∧ j.dir = some .send
          ∧ j.pages.length = 16 ∧ j.pageIdx = 15 ∧ (s.line 0).fxc.wait = .answer (.pageClose false) 1 3000)
      ∧ ∃ (s : State) (j : FaxJob), s.phase = .running ∧ (s.line 0).runningJob = some j ∧ j.phase = .release
          ∧ j.dir = some .receive :=
  ⟨⟨J { dir := some .send, round := 4 } (.answer .roundEnd 1 3000), _, rfl, rfl, rfl, rfl, rfl⟩,
   ⟨J { dir := some .send, pages := List.replicate 16 0, pageIdx := 15 } (.answer (.pageClose false) 1 3000), _, rfl, rfl,
    rfl, rfl, rfl, rfl⟩,
   ⟨J { dir := some .receive, phase := .release } .none, _, rfl, rfl, rfl, rfl⟩⟩

/-- `base` with the store `store`. -/
def stored : State := { base with stc := store }

/-- `stored` with line 0 in a voice call, entry 1 attached to slot 0 with RECORD and to slot 1 with PLAY. -/
def attached : State :=
  { (L fun l => { l with
      cc := voiceCc, window := ⟨some { id := 1, right := .record }, some { id := 1, right := .play }, none, none⟩ }) with
    stc := store }

theorem witness_StoreEntriesAndSlotsAreManaged :
    stored.ready ∧ EntryKind.of 3 = some .faxTxPage
      ∧ (max 1 0 ≤ stored.stc.ff - stored.stc.fv ∧ ∃ id : Nat, stored.stc.dir[id]? = some none
          ∧ ∀ j, j < id → stored.stc.dir[j]? ≠ some none)
      ∧ (∃ e, stored.stc.entry 1 = some e ∧ e.open_ = true) ∧ stored.recordInUse 1 = false
      ∧ Right.of 0 = some .play ∧ Right.of 1 = some .record ∧ (stored.line 0).slotInUse 3 = false
      ∧ stored.recordElsewhere 0 3 1 = false ∧ (attached.line 0).slotInUse 1 = false
      ∧ (attached.line 0).window.get 1 = some { id := 1, right := .play } := by
  refine ⟨⟨rfl, rfl, rfl, rfl, by decide⟩, by decide, ⟨by decide, 3, rfl, fun j h => ?_⟩, ⟨_, rfl, by decide⟩, ?_⟩
  · interval_cases j <;> decide
  · decide

/-- `attached` with an operation on slots 0 and 1 of line 0 running. -/
def slotsBusy : State := attached.updVc 0 fun v => { v with op := some { kind := .recd, host := true, slot := 0, id := 1 } }

theorem witness_StoreEntriesAndSlotsAreManaged_refused :
    EntryKind.of 6 = none ∧ base.stc.freeSpan < max 1 1025 ∧ max 1 1024 ≤ base.stc.freeSpan
      ∧ ({ store with dir := List.replicate 96 (some
          { kind := .greeting, open_ := false, moving := false, damaged := false, base := 0, extent := 1, used := 0
            mailbox := none, originLine := none, ordinal := none, number := none, fax := none }) } : Stc).freeId = none
      ∧ stored.stc.entry 95 = none ∧ (∃ e, stored.stc.entry 0 = some e ∧ e.open_ = false)
      ∧ slotsBusy.recordInUse 1 = true ∧ (slotsBusy.line 0).slotInUse 0 = true ∧ Right.of 2 = none
      ∧ attached.recordElsewhere 0 3 1 = true ∧ (attached.line 0).window.get 3 = none := by
  refine ⟨by decide, by decide, by decide, by decide, rfl, ⟨_, rfl, rfl⟩, ?_, ?_, ?_, ?_, ?_⟩ <;> decide

theorem witness_SdelChecksInOrder :
    stored.ready ∧ stored.stc.entry 95 = none ∧ (∃ e, stored.stc.entry 1 = some e ∧ e.open_ = true)
      ∧ (∃ e, stored.stc.entry 2 = some e ∧ e.open_ = false ∧ e.moving = false) ∧ stored.recordHeld 2 = false :=
  ⟨⟨rfl, rfl, rfl, rfl, by decide⟩, rfl, ⟨_, rfl, rfl⟩, ⟨_, rfl, rfl, rfl⟩, by decide⟩

theorem witness_StoreReadsAndReports :
    stored.ready ∧ (∃ e, stored.stc.entry 1 = some e ∧ e.open_ = true) ∧ stored.recordHeld 1 = false
      ∧ (List.replicate 1024 (0 : Byte)).length ≤ 1024 ∧ (95 : Nat) < 96 :=
  ⟨⟨rfl, rfl, rfl, rfl, by decide⟩, ⟨_, rfl, rfl⟩, by decide, by decide, by decide⟩

theorem witness_StoreReadsAndReports_refused :
    (∃ e, stored.stc.entry 0 = some e ∧ e.open_ = false) ∧ stored.stc.entry 95 = none
      ∧ 1024 < (List.replicate 1025 (0 : Byte)).length ∧ attached.recordHeld 1 = true :=
  ⟨⟨_, rfl, rfl⟩, rfl, by decide, by decide⟩

/-- `stored` with entry 2, a voice message, moving from cell 3 to cell 2. -/
def moving : State :=
  { stored with stc := { store with
      pack := { st := .running }, move := some { id := 2, old := 3, new := 2, mark := 0, due := 1 } } }

theorem witness_PackStartsStopsAndCopies :
    (∀ n ∈ [0, 1, 2], (Region.of n).isSome = true) ∧ Region.of 3 = none ∧ stored.stc.pack.st = .idle ∧ moving.ready
      ∧ moving.stc.pack.st ≠ .idle ∧ stored.stc.move = none
      ∧ ∃ m e, moving.stc.move = some m ∧ moving.stc.entry m.id = some e :=
  ⟨by decide, rfl, rfl, ⟨rfl, rfl, rfl, rfl, by decide⟩, by decide, rfl, _, _, rfl, rfl⟩

theorem witness_SampleIsCodedInSixSteps :
    ∃ (p : Int) (n : Nat) (x : Int), -8192 ≤ p ∧ p ≤ 8191 ∧ n ≤ 47 ∧ -8192 ≤ x ∧ x ≤ 8191 ∧ n = 47 ∧ p = -8192
      ∧ x = 8191 := ⟨-8192, 47, 8191, by decide⟩

theorem witness_VoiceRequestsAreTaken :
    attached.ready ∧ (attached.line 0).planActive = false ∧ (attached.line 0).cc.state = .connected
      ∧ (attached.line 0).cc.kind = some .voice ∧ (attached.line 0).vc.op = none ∧ (attached.line 0).tu.toneDue = none
      ∧ attached.hasPending 0 = false
      ∧ (∃ a e, (attached.line 0).window.get 0 = some a ∧ attached.stc.entry a.id = some e ∧ e.kind.voice = true
          ∧ a.right = .record)
      ∧ (∃ a e, (attached.line 0).window.get 1 = some a ∧ attached.stc.entry a.id = some e ∧ e.kind.voice = true
          ∧ a.right = .play)
      ∧ ∀ p ∈ [VoicePhase.waiting, .playing, .gap, .paused, .recording],
          ((attached.updVc 0 fun v => { v with op := some { kind := .play, host := true, slot := 1, id := 1, phase := p } }).line
            0).vc.op = some { kind := .play, host := true, slot := 1, id := 1, phase := p } :=
  ⟨⟨rfl, rfl, rfl, rfl, by decide⟩, by decide, rfl, rfl, rfl, rfl, by decide, ⟨_, _, rfl, rfl, rfl, rfl⟩,
   ⟨_, _, rfl, rfl, rfl, rfl⟩, by decide⟩

theorem witness_VoiceRequestsAreTaken_refused :
    flagOf 2 = none ∧ (base.line 0).cc.connectedVoice = false ∧ (attached.line 0).cc.connectedVoice = true
      ∧ (slotsBusy.line 0).vc.op ≠ none ∧ (attached.line 0).window.get 3 = none
      ∧ (∃ e, stored.stc.entry 0 = some e ∧ e.kind.voice = false)
      ∧ ((attached.updApc 0 fun a => { a with plan := .greeting }).line 0).planActive = true :=
  ⟨by decide, by decide, by decide, by decide, by decide, ⟨_, rfl, rfl⟩, by decide⟩

/-- `attached` with this operation on line 0. -/
def operating (o : VoiceOp) : State := attached.updVc 0 fun v => { v with op := some o }

/-- A host's recording into entry 1, and its play. -/
def aRecord : VoiceOp := { kind := .recd, host := true, slot := 0, id := 1, startLen := 1020, granted := true }
def aPlay : VoiceOp := { kind := .play, host := true, slot := 1, id := 1, granted := true }

theorem witness_VoiceOperationsRun :
    (operating aPlay).phase = .running ∧ ((operating aPlay).line 0).vc.op = some aPlay
      ∧ aPlay.phase = .waiting ∧ aPlay.granted = true ∧ aPlay.kind = .play ∧ aRecord.phase = .waiting
      ∧ aRecord.kind = .recd ∧ (∃ e, (operating aRecord).stc.entry aRecord.id = some e) ∧ aRecord.host = true
      ∧ ((operating { aPlay with phase := .playing }).line 0).vc.op = some { aPlay with phase := .playing }
      ∧ ((operating { aPlay with phase := .gap, gapDue := some 5000 }).line 0).vc.op
          = some { aPlay with phase := .gap, gapDue := some 5000 }
      ∧ ((operating { aPlay with phase := .paused, frameFill := 79 }).line 0).vc.op
          = some { aPlay with phase := .paused, frameFill := 79 }
      ∧ ((operating { aRecord with phase := .recording }).line 0).vc.op = some { aRecord with phase := .recording }
      ∧ ((operating { aRecord with phase := .recording }).recSamples 0 { aRecord with phase := .recording }
          (List.replicate 80 100)).2 = false :=
  ⟨by decide, rfl, rfl, rfl, rfl, rfl, rfl, ⟨_, rfl⟩, rfl, rfl, rfl, rfl, rfl, by decide⟩

/-- The second code of the last byte of the cell recorded reaches the limit of one cell (R142). -/
theorem witness_VoiceOperationsRun_limit :
    ∃ (s : State) (o : VoiceOp), s.phase = .running ∧ (s.line 0).vc.op = some o ∧ o.phase = .recording
      ∧ (s.recSamples 0 o [0]).2 = true :=
  ⟨{ (operating { aRecord with phase := .recording }).updVc 0 fun v => { v with code := some 0 } with
      stc := store.updEntry 1 fun e => { e with used := 2039 } },
   { aRecord with phase := .recording }, rfl, rfl, rfl, by decide⟩

theorem witness_AnswerDecisionFollowsItsTable :
    (∀ n ∈ [0, 1], (if n < 1 then decideAnswer { rings := 1 } none n = .wait
        else decideAnswer { rings := 1 } none n = .answer))
      ∧ decideAnswer { rings := 15 } (some .known) 14 = .wait ∧ decideAnswer { rings := 15 } (some .known) 15 = .answer
      ∧ decideAnswer { withheldIgnore := true } (some .unknown) 4 = .refuse
      ∧ decideAnswer {} (some .barred) 0 = .refuse := by decide

/-- Line 0 with this plan. -/
def A (a : Apc) : State := L fun l => { l with cc := voiceCc, apc := a, acts := [.voiceBase, .listener] }

theorem witness_PlanEventsAndTake :
    ((A { recordToneDue := some 500 }).line 0).apc.recordToneDue = some 500
      ∧ ((A { plan := .mailboxWait, mailboxDue := some 10000 }).line 0).apc.mailboxDue = some 10000
      ∧ ((A { plan := .greeting, toneCount := 1 }).line 0).apc.plan = .greeting
      ∧ ((A { plan := .mailboxWait }).line 0).apc.plan = .mailboxWait
      ∧ ((A { plan := .greeting }).line 0).holds .listener = true
      ∧ ((A { toneReset := some 5000 }).line 0).apc.toneReset = some 5000
      ∧ ((A { plan := .greeting }).line 0).cc.state = .connected ∧ ((A { plan := .greeting }).line 0).cc.kind = some .voice
      ∧ (A { plan := .recording }).ready ∧ ((A { plan := .recording }).line 0).apc.plan = .recording
      ∧ (base.line 0).apc.plan = .inactive ∧ (base.line 0).holds .listener = false :=
  ⟨rfl, rfl, rfl, rfl, by decide, rfl, rfl, rfl, (test_base_ready _).1, rfl, rfl, by decide⟩

/-- `base` collecting a record. -/
def collecting (l : List Byte) : State := { base with lp := { base.lp with receiver := .collect l, gapDue := some 100 } }

theorem witness_RecordBytesAreCollected :
    base.phase = .running ∧ base.lp.receiver = .hunt ∧ (0 : Byte) ≠ 165
      ∧ (collecting [1, 0, 0, 4]).lp.receiver = .collect [1, 0, 0, 4] ∧ (collecting []).lp.gapDue = some 100
      ∧ base.lp.gapDue = none ∧ ([1, 0, 0, 0, 0, 255] : List Byte).length = at2 [1, 0, 0, 0, 0, 255] 3 + 6
      ∧ recordOf [1, 0, 0, 0, 0, 0] = none := by decide

theorem witness_RequestReadsBackFromItsRecord :
    (∃ l t r, Instr.wellFormed (.digr 255 255) = true ∧ carried (.digr 255 255) = some (l, t, r))
      ∧ ∃ l t r, Instr.wellFormed (.unknownRequest 0 0 [88]) = true ∧ carried (.unknownRequest 0 0 [88]) = some (l, t, r) :=
  ⟨⟨_, _, _, by decide, rfl⟩, _, _, _, by decide, rfl⟩

theorem witness_RecordDoesWhatItsCommandDoes :
    (∃ l t r, Instr.wellFormed (.digr 0 1) = true ∧ carried (.digr 0 1) = some (l, t, r)) ∧ base.lp.receiver = .hunt
      ∧ base.lp.gapDue = none := ⟨⟨_, _, _, by decide, rfl⟩, rfl, rfl⟩

theorem witness_UnknownAndUntakenRequests :
    base.ready ∧ base.handedOut ∧ carried (.digr 0 1) = some (0, 1, .digr)
      ∧ (∃ s : State, s.phase = .running ∧ s.handedOut ∧ s.lp.open_ = false ∧ s.lp.inbound.length = 3)
      ∧ (∃ s : State, s.phase = .running ∧ s.handedOut ∧ s.lp.open_ = false ∧ s.lp.inbound.length = 4
          ∧ s.cnt.overrun < 4294967295)
      ∧ ∃ s : State, s.phase = .running ∧ s.handedOut ∧ s.lp.replies.length = 8 ∧ s.lp.inbound = [] :=
  ⟨(test_base_ready id).1, ⟨rfl, rfl⟩, rfl,
   ⟨{ base with lp := { inbound := List.replicate 3 { line := 0, tag := 0, body := .request .digr } } }, rfl, ⟨rfl, rfl⟩,
    rfl, rfl⟩,
   ⟨{ fullQueues with lp := { fullQueues.lp with open_ := false } }, rfl, ⟨rfl, rfl⟩, rfl, rfl, by decide⟩,
   ⟨{ fullQueues with lp := { fullQueues.lp with inbound := [] } }, rfl, ⟨rfl, rfl⟩, rfl, rfl⟩⟩

/-- A payload a byte too long, one a byte short, another's line byte; SETP whose contents fit. -/
theorem witness_UnknownAndUntakenRequests_refused :
    base.ready ∧ base.lp.receiver = .hunt ∧ base.lp.gapDue = none ∧ Instr.wellFormed (.rels 0 1 0) = true
      ∧ carried (.rels 0 1 0) = some (0, 1, .rels 0) ∧ (Request.rels 0).payload.length = 5
      ∧ requestOf 0 ((Request.rels 0).payload ++ [0]) = .malformed (Request.rels 0).name
      ∧ requestOf 0 ((Request.rels 0).payload.take 4) = .malformed (Request.rels 0).name
      ∧ (Request.setp 3 [0, 0, 0, 0]).forPart = true ∧ sectionFits 3 [0, 0, 0, 0] = true
      ∧ carried (.rels 4 1 0) = some (4, 1, .rels 0) ∧ (Request.rels 0).forLine = true
      ∧ carried (.save 14 1) = some (14, 1, .save) ∧ Request.save.forPart = true :=
  ⟨(test_base_ready id).1, rfl, rfl, by decide⟩

/-- `base` sending a reply, with bytes of line 0 for the host. -/
def sendingReply (hard : Bool) (n : Nat) : State :=
  { (B { rx := [0] }) with lp := { base.lp with
      sending := some (.reply { line := 0, tag := 0, name := [], status := .ok, fields := [] })
      hardPending := hard, nonDataRun := n } }

theorem witness_RecordSentLetsTheNextBegin :
    base.phase = .running ∧ base.lp.inbound = [] ∧ base.lp.sending = none ∧ fullQueues.lp.inbound ≠ []
      ∧ (∃ q, (sendingReply true 0).lp.sending = some (.reply q) ∧ (sendingReply true 0).lp.replies = [])
      ∧ (sendingReply false 0).lp.hardPending = false ∧ (sendingReply false 8).nextData = some 0
      ∧ (sendingReply false 8).lp.nonDataRun = 8 ∧ (sendingReply false 7).lp.nonDataRun ≠ 8
      ∧ (∃ q rest, fullQueues.lp.replies = q :: rest) ∧ fullQueues.nextData = none
      ∧ (sendingReply true 8).lp.hardPending = true
      ∧ (∃ r rest, fullQueues.lp.inbound = r :: rest ∧ fullQueues.lp.canTake r = false)
      ∧ ∃ r, (base.offer r).lp.inbound = [r] ∧ (base.offer r).lp.canTake r = true :=
  ⟨rfl, rfl, rfl, by decide, ⟨_, rfl, rfl⟩, rfl, rfl, rfl, by decide, ⟨_, _, rfl⟩, rfl, rfl, ⟨_, _, rfl, by decide⟩,
   ⟨{ line := 0, tag := 0, body := .request .digr }, rfl, by decide⟩⟩

/-- CALL of line 3 and RING of line 0 pending, RING at the level of CALL: CALL comes first by the table; and a part with no
flag pending. -/
theorem witness_RecordSentLetsTheNextBegin_notice :
    (∃ s : State, s.phase = .running ∧ s.lp.replies = [] ∧ s.lp.hardPending = false ∧ s.eligibleNotice .call 3 = true
      ∧ s.eligibleNotice .ring 0 = true ∧ s.level .call = s.level .ring ∧ s.chooseNotice = some (.call, 3))
      ∧ base.chooseNotice = none ∧ (base.sl.live.notices[Notice.idx .qual]?.map fun c => c.masked.get 0) = some true := by
  refine ⟨⟨{ (base.raise .call 3).raise .ring 0 with
      sl := { base.sl with live := { base.sl.live with
        notices := base.sl.live.notices.set 6 { level := 1, masked := Four.all false } } } },
    rfl, rfl, rfl, ?_, ?_, ?_, ?_⟩, ?_, ?_⟩ <;> decide

theorem witness_SettingsRequestsAreTaken :
    base.ready ∧ (∀ n ∈ [1, 19], (maskSettings (List.replicate n ([82, 73, 78, 71], 15, 1, 3))).isSome = true)
      ∧ sectionFits 1 (({} : Settings).contents 1 0) = true ∧ sectionTaken 1 (({} : Settings).contents 1 0) = true
      ∧ sectionFits 3 [0, 0, 0, 15] = true ∧ sectionTaken 3 [0, 0, 0, 15] = true
      ∧ sectionFits 5 [0] = true ∧ sectionTaken 5 [0] = true :=
  ⟨(test_base_ready id).1, by decide⟩

theorem witness_SettingsRequestsAreTaken_refused :
    Notice.ofName [88, 88, 88, 88] = none ∧ (∃ k, Notice.ofName [83, 84, 82, 84] = some k ∧ k.partWide = true)
      ∧ sectionFits 1 [] = false ∧ sectionFits 5 [33] = false
      ∧ (∃ c, sectionFits 2 c = true ∧ sectionTaken 2 c = false) :=
  ⟨by decide, ⟨.strt, by decide⟩, by decide, by decide,
   ⟨4 :: (({} : Settings).contents 2 0).drop 1, by decide⟩⟩

theorem witness_SavesAndSoftResetsAreTaken :
    (∃ s : State, s.ready ∧ s.sl.saveState ≠ .writing ∧ s.sl.present = true)
      ∧ (∃ s : State, s.ready ∧ s.sl.saveState = .writing) ∧ (∃ s : State, s.ready ∧ s.sl.saveState ≠ .writing ∧ s.sl.present = false)
      ∧ ∃ s : State, s.phase = .running ∧ s.sl.snapshot = some [0] ∧ s.sl.saveDue = some 1500 :=
  ⟨⟨{ base with sl := { present := true } }, ⟨rfl, rfl, rfl, rfl, by decide⟩, by decide, rfl⟩,
   ⟨{ base with sl := { saveState := .writing } }, ⟨rfl, rfl, rfl, rfl, by decide⟩, rfl⟩,
   ⟨{ base with sl := { present := false } }, ⟨rfl, rfl, rfl, rfl, by decide⟩, by decide, rfl⟩,
   { base with sl := { saveState := .writing, snapshot := some [0], saveDue := some 1500 } }, rfl, rfl, rfl⟩

theorem witness_SoftResetClearsTheLines :
    ((C voiceCc).line 0).cc.state.inCall = true ∧ ((C { state := .ringing }).line 0).cc.state = .ringing
      ∧ ((C { state := .clearing, guardDue := some 1000 }).line 0).cc.state = .clearing := by decide

theorem witness_HardResetAndStartUp :
    State.reset.phase = .held ∧ ({ base with phase := .loading } : State).phase = .loading
      ∧ State.reset.sl.eeprom = .untouched ∧ imageGood ({} : Settings).image = true ∧ imageGood [] = false
      ∧ base.phase ≠ .held ∧ base.phase ≠ .loading := by decide

theorem witness_SavedSettingsLoadBack : ({} : Settings).inRange := by
  unfold Settings.inRange PartSettings.inRange LineSettings.inRange Profile.inRange StaticCaller.inRange
  decide

end Sys2Proof.Tests
end

section
/-! PROOFS. The line interface and the line supervision (chapter 1), and the state after reset: O10, O15 to O18. First
what the shared operations do (an event of a running part, an expiry, a raised flag), then the rules of the line
interface, then the obligations. -/

namespace Sys2Proof.Machine

open Sys2Proof

/-! ## An expiry at a running part -/

/-- The expiry of a timer that runs to `d` acts at that moment (log 2). -/
theorem react_onExpiry {s : State} {d : Nat} (t : State → Option Nat) (f : State → State) (hp : s.phase = .running)
    (h : t s = some d) : react s (fun s => onExpiry (t s) s f) = .next (f (s.reach d)).settle := by
  rw [react_running hp, h, onExpiry]

/-- Updates of a line's interface that agree on it are equal. -/
theorem State.updLif_congr (s : State) (i : LineNo) {f g : Lif → Lif} (h : f (s.line i).lif = g (s.line i).lif) :
    s.updLif i f = s.updLif i g :=
  State.upd_congr s i _ _ (congrArg (fun x => { s.line i with lif := x }) h)

/-! ## Notice flags (R169) -/

/-- Every kind stands at its place in the notice table. -/
theorem noticeKinds_idx (k : Notice) : noticeKinds[k.idx]? = some k := by cases k <;> rfl

theorem Notice.idx_injective : Function.Injective Notice.idx := by
  intro a b h
  have hab : some a = some b := by rw [← noticeKinds_idx a, h, noticeKinds_idx b]
  exact Option.some.inj hab

theorem State.flag_setFlag_self (s : State) (k : Notice) (i : LineNo) (b : Bool) (h : k.idx < s.nu.flags.length) :
    (s.setFlag k i b).flag k i = b := by
  simp [State.flag, State.setFlag, h]

theorem State.flag_setFlag_of_ne (s : State) {k k' : Notice} (i j : LineNo) (b : Bool) (h : k' ≠ k) :
    (s.setFlag k i b).flag k' j = s.flag k' j := by
  have hidx : k.idx ≠ k'.idx := fun e => h (Notice.idx_injective e.symm)
  simp [State.flag, State.setFlag, hidx]

@[simp] theorem State.flag_updLif (s : State) (i j : LineNo) (f : Lif → Lif) (k : Notice) :
    (s.updLif i f).flag k j = s.flag k j := rfl

/-! ## Supervision results (R11 to R14) -/

@[simp] theorem Lif.withResult_hook (l : Lif) (good : Bool) : (l.withResult good).hook = l.hook := by
  unfold Lif.withResult; (repeat' split) <;> rfl

@[simp] theorem Lif.withResult_intervalDue (l : Lif) (good : Bool) :
    (l.withResult good).intervalDue = l.intervalDue := by
  unfold Lif.withResult; (repeat' split) <;> rfl

@[simp] theorem State.recomputeGroups_line (s : State) (j : LineNo) : s.recomputeGroups.line j = s.line j := by
  simp only [State.recomputeGroups]; split <;> rfl

/-- Recomputing the group states raises GRUP alone (R38). -/
theorem State.recomputeGroups_flag (s : State) {k : Notice} (h : k ≠ .grup) (j : LineNo) :
    s.recomputeGroups.flag k j = s.flag k j := by
  simp only [State.recomputeGroups]
  split
  · rfl
  · exact State.flag_setFlag_of_ne _ 0 j true h

/-- The line interface after a supervision result (R11, R14): service state and counts by the table, and ON_HOOK the
interval timer restarted with the period of the state it is left in. -/
def State.judged (s : State) (good : Bool) (l : Lif) : Lif :=
  let l1 := l.withResult good
  if l1.hook = .onHook then { l1 with intervalDue := some (s.now + s.checkPeriod l1.service) } else l1

theorem State.judged_eq (s : State) (good : Bool) (l : Lif) :
    s.judged good l = { l.withResult good with
      intervalDue := if l.hook = .onHook then some (s.now + s.checkPeriod (l.withResult good).service)
        else l.intervalDue } := by
  rw [← Lif.withResult_intervalDue l good, ← Lif.withResult_hook l good, State.judged]
  split <;> rfl

@[simp] theorem State.judged_service (s : State) (good : Bool) (l : Lif) :
    (s.judged good l).service = (l.withResult good).service := by rw [State.judged_eq]

@[simp] theorem State.judged_badCount (s : State) (good : Bool) (l : Lif) :
    (s.judged good l).badCount = (l.withResult good).badCount := by rw [State.judged_eq]

@[simp] theorem State.judged_goodCount (s : State) (good : Bool) (l : Lif) :
    (s.judged good l).goodCount = (l.withResult good).goodCount := by rw [State.judged_eq]

/-- A supervision result changes its line's interface, and at a change of service state also SVCE and the group
states. -/
theorem State.applyResult_eq (s : State) (i : LineNo) (good : Bool) :
    s.applyResult i good =
      if ((s.line i).lif.withResult good).service = (s.line i).lif.service then s.updLif i (s.judged good)
      else ((s.updLif i (s.judged good)).raise .svce i).recomputeGroups := by
  rw [← State.judged_service s, ← State.updLif_line_lif s i (s.judged good)]
  rfl

@[simp] theorem State.applyResult_lif (s : State) (i : LineNo) (good : Bool) :
    ((s.applyResult i good).line i).lif = s.judged good (s.line i).lif := by
  rw [State.applyResult_eq]; split <;> simp

theorem State.applyResult_line_ne (s : State) {i j : LineNo} (good : Bool) (h : j ≠ i) :
    (s.applyResult i good).line j = s.line j := by
  rw [State.applyResult_eq]; split <;> simp [State.updLif_line_ne _ _ h]

/-- SVCE is raised exactly at a change of service state (R14). -/
theorem State.applyResult_flag_svce (s : State) (i : LineNo) (good : Bool) (h : s.nu.flags.length = 19) :
    (s.applyResult i good).flag .svce i =
      (s.flag .svce i || decide (((s.line i).lif.withResult good).service ≠ (s.line i).lif.service)) := by
  rw [State.applyResult_eq]
  by_cases hs : ((s.line i).lif.withResult good).service = (s.line i).lif.service
  · simp [hs]
  · have hlen : Notice.svce.idx < (s.updLif i (s.judged good)).nu.flags.length := by simp [h, Notice.idx]
    simp [hs, State.recomputeGroups_flag, State.raise, State.flag_setFlag_self _ _ _ _ hlen]

/-! The rows of the table of R14 -/

theorem Lif.withResult_inService_good {l : Lif} (h : l.service = .inService) : l.withResult true = l := by
  simp [Lif.withResult, h]

theorem Lif.withResult_inService_bad {l : Lif} (h : l.service = .inService) :
    l.withResult false = { l with service := .suspect, badCount := 1 } := by simp [Lif.withResult, h]

theorem Lif.withResult_suspect_good {l : Lif} (h : l.service = .suspect) :
    l.withResult true = { l with service := .inService, badCount := 0 } := by simp [Lif.withResult, h]

theorem Lif.withResult_suspect_secondBad {l : Lif} (h : l.service = .suspect) (hbad : l.badCount = 1) :
    l.withResult false = { l with badCount := 2 } := by simp [Lif.withResult, h, hbad]

theorem Lif.withResult_suspect_thirdBad {l : Lif} (h : l.service = .suspect) (hbad : l.badCount = 2) :
    l.withResult false = { l with service := .outOfService, badCount := 3, goodCount := 0 } := by
  simp [Lif.withResult, h, hbad]

theorem Lif.withResult_outOfService_good {l : Lif} (h : l.service = .outOfService) (hgood : l.goodCount ≤ 1) :
    l.withResult true = { l with goodCount := l.goodCount + 1 } := by simp [Lif.withResult, h, hgood]

theorem Lif.withResult_outOfService_thirdGood {l : Lif} (h : l.service = .outOfService) (hgood : l.goodCount = 2) :
    l.withResult true = { l with service := .inService, badCount := 0, goodCount := 0 } := by
  simp [Lif.withResult, h, hgood]

theorem Lif.withResult_outOfService_bad {l : Lif} (h : l.service = .outOfService) :
    l.withResult false = { l with goodCount := 0 } := by simp [Lif.withResult, h]

/-! ## Hook timers (R3, R4) -/

/-- With breaks remaining the end of a make begins the next break (R4). -/
theorem State.makeDone_of_breaksLeft {s : State} {i : LineNo} (h : 0 < (s.line i).lif.breaksLeft) :
    s.makeDone i = s.updLif i fun l => { l with
      hook := .breaking, makeDue := none, breakDue := some (s.now + 60), loop := .blanked, absenceDue := none } :=
  if_pos h

/-- With none remaining the train is complete, and the pause of a pulse digit begins (R4, R22). -/
theorem State.makeDone_of_trainComplete {s : State} {i : LineNo} (h : (s.line i).lif.breaksLeft = 0) :
    s.makeDone i =
      let u := s.updLif i fun l => { l with makeDue := none }
      if (s.line i).cc.elem = .breaks then u.updCc i fun c => { c with elem := .pulsePause (s.now + 700) } else u :=
  if_neg (by omega)

/-! ## Ring detector (R5 to R8) -/

theorem exec_ringVoltageEnd (i : LineNo) (volts : Nat) (s : State) :
    exec (.ringVoltageEnd i volts) s = execRingVoltageEnd i volts s := rfl

theorem exec_ringAbandoned (i : LineNo) (s : State) : exec (.ringAbandoned i) s = execRingAbandoned i s := rfl

/-- A burst is counted ON_HOOK in IDLE or RINGING (R6). -/
theorem State.burstCounts_iff (s : State) (i : LineNo) :
    s.burstCounts i = true ↔
      (s.line i).lif.hook = .onHook ∧ ((s.line i).cc.state = .idle ∨ (s.line i).cc.state = .ringing) := by
  simp [State.burstCounts]

/-- A burst by the hook and the call state (R6): ON_HOOK in IDLE or RINGING counted and handed on as a ring, ON_HOOK
else neither, off-hook a ring heard off-hook; then the good supervision result (log 14). -/
theorem State.burst_eq (s : State) (i : LineNo) :
    s.burst i =
      let t := s.updLif i fun l => { l with ring := .burst, burstDue := none }
      (if (s.line i).lif.hook = .onHook then
          if (s.line i).cc.state = .idle ∨ (s.line i).cc.state = .ringing then
            (t.updLif i fun l => { l with
              ringCount := min 255 (l.ringCount + 1), abandon := .stopped, burstCounted := true
              firstBurst := decide ((s.line i).cc.state = .idle) }).ring i
          else t
        else t.glare i).superviseLine i true := by
  have hcounts := s.burstCounts_iff i
  simp only [State.burst]
  by_cases hook : (s.line i).lif.hook = .onHook
  · by_cases hcall : (s.line i).cc.state = .idle ∨ (s.line i).cc.state = .ringing
    · rw [if_pos (hcounts.2 ⟨hook, hcall⟩), if_pos hook, if_pos hcall]
      rfl
    · rw [if_neg fun hc => hcall (hcounts.1 hc).2, if_pos hook, if_pos hook, if_neg hcall]
  · rw [if_neg fun hc => hook (hcounts.1 hc).1, if_neg hook, if_neg hook]

/-! ## The state after reset -/

/-- After reset every line holds the reset values (R16, R18, R66, R81, R97, R147, R160). -/
@[simp] theorem State.reset_line (i : LineNo) : State.reset.line i = {} := Four.get_all _ i

/-- An unused link is within its bounds: nothing is unacknowledged, and no try is timed. -/
theorem Blc.default_inBounds : ({} : Blc).inBounds := by
  unfold Blc.inBounds; decide

/-- With no pump held, an idle line has no pump record to account for. -/
theorem Line.default_pumpOk : ({} : Line).pumpOk := by
  refine ⟨by decide, ?_, fun _ => ⟨rfl, rfl, by decide⟩, ?_⟩
  · intro k hk; exact absurd hk List.not_mem_nil
  · intro j hj; exact absurd hj (by simp)

/-- An empty directory is laid out: no segment, no move. -/
theorem Stc.default_laidOut : ({} : Stc).laidOut := by
  have hused : ({} : Stc).used = [] := by decide
  refine ⟨?_, by decide, ?_, ?_, fun _ => rfl⟩
  · rw [hused]; exact List.forall_mem_nil _
  · rw [hused]; exact List.Pairwise.nil
  · intro m hm; exact absurd hm (by simp)

theorem State.reset_queuesBounded : State.reset.queuesBounded := ⟨by decide, by decide⟩

theorem State.reset_storeCanonical : State.reset.storeCanonical := by
  unfold State.storeCanonical; decide

theorem State.reset_codersInRange : State.reset.codersInRange := by
  intro i; rw [State.reset_line]; unfold coderOk; decide

theorem State.reset_shaped : State.reset.shaped := by
  unfold State.shaped; decide

theorem State.reset_buffersBounded : State.reset.buffersBounded := by
  refine ⟨by decide, fun i => ?_⟩
  rw [State.reset_line]
  exact ⟨by decide, Blc.default_inBounds⟩

theorem State.reset_countsInRange : State.reset.countsInRange := by
  refine ⟨by decide, fun i => ?_⟩
  rw [State.reset_line]
  exact ⟨⟨by decide, by decide, by decide⟩, by decide⟩

theorem State.reset_numbersDiffer : State.reset.ct.numbersDiffer := by
  unfold Ct.numbersDiffer; decide

/-- No slot holds an entry after reset. -/
theorem State.reset_recorded : State.reset.recorded = [] := by decide

theorem State.reset_recordersOk : State.reset.recordersOk := by
  simp [State.recordersOk, State.reset_recorded]

theorem State.reset_storeLaidOut : State.reset.storeLaidOut :=
  ⟨Stc.default_laidOut, fun _ => ⟨by decide, rfl⟩⟩

theorem State.reset_budgetOk : State.reset.budgetOk := by
  refine ⟨by decide, fun i => ?_, fun p hp => absurd hp List.not_mem_nil⟩
  rw [State.reset_line]
  exact Line.default_pumpOk

/-- All 8 entry records are free, so none is QUEUED and the call queue is empty. -/
theorem State.reset_queueOk : State.reset.gd.queueOk := by
  refine ⟨by decide, by decide, fun k => ⟨fun h => absurd h List.not_mem_nil, ?_⟩⟩
  rintro ⟨r, hr, hq⟩
  have hfree : r = {} := List.eq_of_mem_replicate (List.mem_of_getElem? hr)
  rw [hfree] at hq
  exact absurd hq (by decide)

theorem State.reset_pendingOnce : State.reset.pendingOnce := List.nodup_nil

/-! ## The settled obligations -/

/-- Settles O18: the line's interface after a result is `State.judged` of it, whose service state and counts are those
of the table and whose interval timer is R11's; SVCE follows `applyResult_flag_svce`. -/
theorem supervisionResultMovesServiceState : Obligations.SupervisionResultMovesServiceState := by
  intro s i good hflags l t l'
  have hl' : l' = s.judged good l := State.applyResult_lif s i good
  have hservice : l'.service = (l.withResult good).service := by rw [hl', State.judged_service]
  have hbad : l'.badCount = (l.withResult good).badCount := by rw [hl', State.judged_badCount]
  have hgood : l'.goodCount = (l.withResult good).goodCount := by rw [hl', State.judged_goodCount]
  refine ⟨?table, fun hon => ?restarts, fun hoff => ?runsOn, ?svce, fun j hj => State.applyResult_line_ne s good hj⟩
  case table =>
    rw [hservice, hbad, hgood]
    refine ⟨?_, ?_, ?_, ?_, ?_, ?_, ?_, ?_⟩
    · rintro h rfl; rw [Lif.withResult_inService_good h]; exact ⟨h, rfl⟩
    · rintro h rfl; rw [Lif.withResult_inService_bad h]; exact ⟨rfl, rfl⟩
    · rintro h rfl; rw [Lif.withResult_suspect_good h]; exact ⟨rfl, rfl⟩
    · rintro h hcount rfl; rw [Lif.withResult_suspect_secondBad h hcount]; exact ⟨h, rfl⟩
    · rintro h hcount rfl; rw [Lif.withResult_suspect_thirdBad h hcount]; exact ⟨rfl, rfl, rfl⟩
    · rintro h hcount rfl; rw [Lif.withResult_outOfService_good h hcount]; exact ⟨h, rfl⟩
    · rintro h hcount rfl; rw [Lif.withResult_outOfService_thirdGood h hcount]; exact ⟨rfl, rfl, rfl⟩
    · rintro h rfl; rw [Lif.withResult_outOfService_bad h]; exact ⟨h, rfl⟩
  case restarts => rw [hservice, hl', State.judged_eq]; exact if_pos hon
  case runsOn => rw [hl', State.judged_eq]; exact if_neg hoff
  case svce => rw [hservice]; exact State.applyResult_flag_svce s i good hflags

/-- Settles O15: the three timers act at the moment they are due, and a make ends by what the train has left. -/
theorem hookTimersEnd : Obligations.HookTimersEnd := by
  intro s i d hp
  have hmake (h : (s.line i).lif.makeDue = some d) :
      exec (.makeEnd i) s = .next ((s.reach d).makeDone i).settle :=
    react_onExpiry (fun s => (s.line i).lif.makeDue) (fun s => s.makeDone i) hp h
  refine ⟨fun h => ?flash, fun h => ?breakEnds, fun h hleft => ?nextBreak, fun h hleft => ?trainComplete⟩
  case flash => exact react_onExpiry (fun s => (s.line i).lif.flashDue) (fun s => s.flashDone i) hp h
  case breakEnds => exact react_onExpiry (fun s => (s.line i).lif.breakDue) (fun s => s.breakDone i) hp h
  case nextBreak => rw [hmake h, State.makeDone_of_breaksLeft (s := s.reach d) hleft]; rfl
  case trainComplete => rw [hmake h, State.makeDone_of_trainComplete (s := s.reach d) hleft]; rfl

/-- Settles O16: onset and end of voltage by the state of the detector, a burst by `burst_eq`. Where the abandonment
timer is held or resumed, the two updates of the line are compared by its state (`updLif_congr`). -/
theorem ringEnvelopeMovesDetector : Obligations.RingEnvelopeMovesDetector := by
  intro s i hp
  refine ⟨?onset, fun d h => ?qualified, fun volts => ?ends, fun d h => ?abandoned⟩
  case onset =>
    have honset : exec (.ringVoltageOnset i) s =
        .next (if (s.line i).lif.ring = .quiet then s.ringOnset i else s).settle := react_running hp _
    rw [honset, apply_ite State.settle]
    refine congrArg (fun t : State => Host.Outcome.next
      (if (s.line i).lif.ring = .quiet then (t.closeClid i).settle else s.settle)) (State.updLif_congr s i ?_)
    cases (s.line i).lif.abandon <;> rfl
  case qualified =>
    have hburst : exec (.burstQualified i) s = .next ((s.reach d).burst i).settle :=
      react_onExpiry (fun s => (s.line i).lif.burstDue) (fun s => s.burst i) hp h
    rw [hburst, State.burst_eq]
    rfl
  case ends =>
    rw [exec_ringVoltageEnd, execRingVoltageEnd, react_running hp]
    cases (s.line i).lif.ring with
    | quiet => rfl
    | candidate =>
      refine congrArg (fun t : State => Host.Outcome.next
        (if (s.line i).lif.deferred then t.superviseLine i (decide (s.threshold ≤ volts)) else t).settle)
        (State.updLif_congr s i ?_)
      cases (s.line i).lif.abandon <;> rfl
    | burst => rfl
  case abandoned =>
    rw [exec_ringAbandoned, execRingAbandoned, react_running hp, h]
    rfl

/-- Settles O17: the timers of the loop detector and of the line check act at the moment they are due, the sensor's
events by the state of the detector. -/
theorem loopAndSupervisionEvents : Obligations.LoopAndSupervisionEvents := by
  intro s i hp
  refine ⟨fun d current h => ?blanking, ?absent, ?returns, fun d h => ?lost, fun d volts h => ?check⟩
  case blanking =>
    exact react_onExpiry (fun s => (s.line i).lif.blankDue) (fun s => s.blankingDone i current) hp h
  case absent => exact (react_running hp _).trans (congrArg _ (apply_ite State.settle _ _ _))
  case returns => exact (react_running hp _).trans (congrArg _ (apply_ite State.settle _ _ _))
  case lost => exact react_onExpiry (fun s => (s.line i).lif.absenceDue) (fun s => s.loopLost i) hp h
  case check => exact react_onExpiry (fun s => (s.line i).lif.intervalDue) (fun s => s.checkLine i volts) hp h

/-- Settles O10: each invariant by its lemma above, the lines by `State.reset_line`. -/
theorem resetMeetsTheInvariants : Obligations.ResetMeetsTheInvariants := by
  refine ⟨rfl, rfl, ⟨rfl, rfl⟩, State.reset_queuesBounded, State.reset_storeCanonical, State.reset_codersInRange,
    State.reset_shaped, fun i => ?lines, State.reset_buffersBounded, State.reset_countsInRange,
    State.reset_numbersDiffer, State.reset_recordersOk, State.reset_storeLaidOut, State.reset_budgetOk,
    State.reset_queueOk, State.reset_pendingOnce⟩
  case lines => rw [State.reset_line]; exact ⟨rfl, rfl, rfl, rfl, rfl, rfl, rfl, rfl, rfl⟩

end Sys2Proof.Machine
end

section
/-! PROOFS. Dialling and call progress (chapter 2): O19 to O23. The elements of a dial list, the call-progress tone detector,
then the obligations. -/

namespace Sys2Proof.Machine

open Sys2Proof

/-! ## Updates of one line -/

/-- Updates of different blocks of a line commute. -/
theorem State.updLif_updCc (s : State) (i : LineNo) (f : Lif → Lif) (g : Cc → Cc) :
    (s.updLif i f).updCc i g = (s.updCc i g).updLif i f := by
  simp only [State.updLif, State.updCc, State.upd_upd]

/-- Updates of a line's Tone Unit that agree on it are equal. -/
theorem State.updTu_congr (s : State) (i : LineNo) {f g : Tu → Tu} (h : f (s.line i).tu = g (s.line i).tu) :
    s.updTu i f = s.updTu i g :=
  State.upd_congr s i _ _ (congrArg (fun x => { s.line i with tu := x }) h)

/-! ## Dialling (R20 to R22) -/

/-- In SEIZED dial tone begins dialling (R20). -/
theorem State.dialTone_of_seized {s : State} {i : LineNo} (h : (s.line i).cc.state = .seized) :
    s.dialTone i = s.beginDialling i := by
  simp only [State.dialTone, h]

/-- In DIALLING it ends an AWAIT_TONE element (R22). -/
theorem State.dialTone_of_awaiting {s : State} {i : LineNo} {d : Nat} (h : (s.line i).cc.state = .dialling)
    (he : (s.line i).cc.elem = .await d) : s.dialTone i = s.elemEnds i := by
  simp only [State.dialTone, h, he]

/-- The line past the element that has ended: the position risen by one, no element begun. -/
def State.pastElem (s : State) (i : LineNo) : State :=
  s.updCc i fun c => { c with pos := c.pos + 1, elem := .none }

@[simp] theorem State.pastElem_lif (s : State) (i : LineNo) : ((s.pastElem i).line i).lif = (s.line i).lif := by
  simp [State.pastElem]

@[simp] theorem State.pastElem_method (s : State) (i : LineNo) :
    ((s.pastElem i).line i).cc.method = (s.line i).cc.method := by simp [State.pastElem]

@[simp] theorem State.pastElem_state (s : State) (i : LineNo) :
    ((s.pastElem i).line i).cc.state = (s.line i).cc.state := by simp [State.pastElem]

/-- Beginning an element at the new position sets position and element at once. -/
theorem State.pastElem_updCc_elem (s : State) (i : LineNo) (g : ElemStage) :
    ((s.pastElem i).updCc i fun c => { c with elem := g }) =
      s.updCc i fun c => { c with pos := c.pos + 1, elem := g } :=
  State.updCc_updCc s i _ _

/-- After an element the rest of the list is carried on (R22). -/
theorem State.elemEnds_eq (s : State) (i : LineNo) :
    s.elemEnds i = (s.pastElem i).dialFrom i ((s.line i).cc.dial.drop ((s.line i).cc.pos + 1)) := by
  simp [State.elemEnds, State.pastElem]

/-- An element that takes time is the one the dialling stands at. -/
theorem State.elemEnds_of_begun {s t : State} {i : LineNo} {e : DialElem} {rest : List DialElem}
    (hnext : (s.line i).cc.dial.drop ((s.line i).cc.pos + 1) = e :: rest)
    (hbegun : (s.pastElem i).beginElem i e = (t, true)) : s.elemEnds i = t := by
  rw [State.elemEnds_eq, hnext, State.dialFrom, hbegun]
  exact if_pos rfl

theorem State.beginElem_toneDigit {s : State} {i : LineNo} (d : Dtmf) (h : (s.line i).cc.method = .tone) :
    s.beginElem i (.digit d) = (s.updCc i fun c => { c with elem := .toneDigit (s.now + 160) }, true) := by
  simp only [State.beginElem, h]

/-- A digit by PULSE orders its breaks (R4). -/
theorem State.beginElem_pulseDigit {s : State} {i : LineNo} (n : Fin 10) (h : (s.line i).cc.method = .pulse)
    (hhook : (s.line i).lif.hook = .offHook) (hmake : (s.line i).lif.makeDue = none) :
    s.beginElem i (.digit (.num n)) =
      ((s.updCc i fun c => { c with elem := .breaks }).updLif i fun l => { l with
        hook := .breaking, breaksLeft := (if n = 0 then 10 else n.val), breakDue := some (s.now + 60)
        loop := .blanked, absenceDue := none }, true) := by
  simp only [State.beginElem, h, State.breakOrder, hhook, hmake, and_self, if_true, breaksOf, State.updLif_updCc]

/-- A FLASH orders its flash (R3). -/
theorem State.beginElem_flash {s : State} {i : LineNo} (hhook : (s.line i).lif.hook = .offHook) :
    s.beginElem i .flash =
      ((s.updCc i fun c => { c with elem := .flash }).updLif i fun l => { l with
        hook := .flashing, flashDue := some (s.now + 500), loop := .blanked, absenceDue := none }, true) := by
  simp only [State.beginElem, State.flashOrder, hhook, if_true, State.updLif_updCc]

/-- After the last element PROGRESS is entered (R22). -/
theorem State.elemEnds_last {s : State} {i : LineNo} (hlast : (s.line i).cc.dial.drop ((s.line i).cc.pos + 1) = []) :
    s.elemEnds i = (s.pastElem i).enterProgress i := by
  rw [State.elemEnds_eq, hlast, State.dialFrom]

/-- PROGRESS is entered from DIALLING with its answer wait (R23). -/
theorem State.enterProgress_of_dialling {s : State} {i : LineNo} (h : (s.line i).cc.state = .dialling) :
    s.enterProgress i = (s.updCc i fun c => { c with
      state := .progress, elem := .none, answerDue := some (s.now + clamp 10 90 (s.lineSettings i).answerWait * 1000)
      busyCycles := 0, ringbackHeard := false, ringbackDue := none, ringbackHeld := false, speechRun := 0 }).updTu i
      Tu.cpStops := by
  simp [State.enterProgress, h]

/-! ## Call progress (R23, R24) -/

/-- A tone starts from quiet (R23). -/
theorem State.cpStart_of_quiet {s : State} {i : LineNo} (h : (s.line i).tu.cp = .quiet) :
    s.cpStart i = s.toneStarts i := by simp only [State.cpStart, h]

/-- A silence is classed by its length at the start of the next tone (R23, log 44). -/
theorem State.cpStart_of_silence {s : State} {i : LineNo} {t : Nat} (h : (s.line i).tu.cp = .silence t) :
    s.cpStart i =
      let u := (if t + 200 ≤ s.now then s.busyCycle i else s.noBusy i).updTu i fun x => { x with cp := .quiet }
      if u.toneWatched i then u.toneStarts i else u := by simp only [State.cpStart, h]

/-- The start of a tone in a tone has no effect. -/
theorem State.cpStart_of_present {s : State} {i : LineNo} (h : (s.line i).tu.cp.present = true) : s.cpStart i = s := by
  cases hcp : (s.line i).tu.cp <;> simp_all [State.cpStart, CpTone.present]

/-- A tone is classed by its length at its end (R23). -/
theorem State.cpEnd_of_tone {s : State} {i : LineNo} {t : Nat} (h : (s.line i).tu.cp = .tone t) :
    s.cpEnd i =
      if s.now - t < 200 then (s.toneEnded i .quiet).noBusy i
      else if s.now - t ≤ 700 then s.toneEnded i (.silence s.now)
      else if s.now - t ≤ 2500 then s.ringback i
      else (s.toneEnded i .quiet).noBusy i := by simp only [State.cpEnd, h]

theorem State.cpEnd_of_over {s : State} {i : LineNo} (h : (s.line i).tu.cp = .over) :
    s.cpEnd i = s.toneEnded i .quiet := by simp only [State.cpEnd, h]

/-- The busy start of a recording stands in the Voice Coder: to mark it leaves the Tone Unit as it is. -/
@[simp] theorem State.markBusyStart_tu (s : State) (i : LineNo) :
    ((s.markBusyStart i).line i).tu = (s.line i).tu := by
  unfold State.markBusyStart
  split
  · split
    · simp
    · rfl
  · rfl

/-- A tone that starts is reported in the frame in progress (R23, log 70). -/
theorem State.toneStarts_toneInFrame (s : State) (i : LineNo) :
    ((s.toneStarts i).line i).tu.toneInFrame = true := by simp [State.toneStarts]

theorem State.listening_of_progress {s : State} {i : LineNo} (h : (s.line i).cc.state = .progress)
    (hpend : s.hasPending i = false) : s.listening i = true := by simp [State.listening, h, hpend]

/-- A frame of speech is one at or above the threshold in which no tone has been reported, neither at its end nor earlier
(R23, log 70). -/
theorem State.speechFrame_eq (s : State) (i : LineNo) (samples : List Int) :
    s.speechFrame i samples =
      let v := s.updTu i fun t => { t with toneInFrame := t.cp.present }
      if s.speechThreshold ≤ frameLevel samples ∧ (s.line i).tu.toneInFrame = false
          ∧ (s.line i).tu.cp.present = false then
        (let u := v.updCc i fun c => { c with speechRun := (s.line i).cc.speechRun + 1 }
        if 10 ≤ (s.line i).cc.speechRun + 1 then u.progressConnects i else u)
      else v.updCc i fun c => { c with speechRun := 0 } := by
  simp [State.speechFrame, Tu.toneHeard]

/-! ## The settled obligations -/

/-- Settles O19: dial tone by the call state, every other event as the expiry of the timer of its element. -/
theorem dialElementsEnd : Obligations.DialElementsEnd := by
  intro s i hp
  have htone : exec (.dialToneQualified i) s = .next (s.dialTone i).settle := react_running hp fun s => s.dialTone i
  refine ⟨fun h => ?seized, fun d h he => ?awaiting, fun d h => ?noDialTone, fun d h => ?noAwaitedTone,
    fun d h => ?digitSent, fun d h => ?pulsePause, fun d h => ?pause⟩
  case seized => rw [htone, State.dialTone_of_seized h]
  case awaiting => rw [htone, State.dialTone_of_awaiting h he]
  case noDialTone => exact react_onExpiry (fun s => (s.line i).cc.dialToneDue) (fun s => s.noDialTone i) hp h
  case noAwaitedTone =>
    exact react_onExpiry (fun s => (s.line i).cc.elem.awaitDue) (fun s => s.progressFails i .noDialTone) hp
      (congrArg ElemStage.awaitDue h)
  case digitSent =>
    exact react_onExpiry (fun s => (s.line i).cc.elem.digitDue) (fun s => s.elemEnds i) hp
      (congrArg ElemStage.digitDue h)
  case pulsePause =>
    exact react_onExpiry (fun s => (s.line i).cc.elem.pulseDue) (fun s => s.elemEnds i) hp
      (congrArg ElemStage.pulseDue h)
  case pause =>
    exact react_onExpiry (fun s => (s.line i).cc.elem.pauseDue) (fun s => s.elemEnds i) hp
      (congrArg ElemStage.pauseDue h)

/-- Settles O20: each element as `beginElem` begins it at the new position; after the last one `enterProgress`. -/
theorem dialListAdvancesByElement : Obligations.DialListAdvancesByElement := by
  intro s i rest
  refine ⟨fun d hnext hm => ?toneDigit, fun n hnext => ?pause, fun hnext => ?awaitTone, fun hnext hhook => ?flash,
    fun n hnext hm hhook hmake => ?pulseDigit, fun hlast h => ?progress⟩
  case toneDigit =>
    rw [State.elemEnds_of_begun hnext (State.beginElem_toneDigit d (by simpa using hm)), State.pastElem_updCc_elem]
    rfl
  case pause => exact (State.elemEnds_of_begun hnext rfl).trans (State.pastElem_updCc_elem s i _)
  case awaitTone => exact (State.elemEnds_of_begun hnext rfl).trans (State.pastElem_updCc_elem s i _)
  case flash =>
    rw [State.elemEnds_of_begun hnext (State.beginElem_flash (by simpa using hhook)), State.pastElem_updCc_elem]
    rfl
  case pulseDigit =>
    rw [State.elemEnds_of_begun hnext
      (State.beginElem_pulseDigit n (by simpa using hm) (by simpa using hhook) (by simpa using hmake)),
      State.pastElem_updCc_elem]
    rfl
  case progress =>
    rw [State.elemEnds_last hlast, State.enterProgress_of_dialling (by simpa using h)]
    simp [State.lineSettings, State.pastElem]

/-- Settles O21: without a running detector nothing; with one, `cpStart` and `cpEnd` by the state of the detector, the two
limits as expiries. -/
theorem callProgressTonesAreClassed : Obligations.CallProgressTonesAreClassed := by
  intro s i hp
  have hstart : exec (.cpToneStart i) s = .next (if s.toneWatched i then s.cpStart i else s).settle :=
    react_running hp _
  have hend : exec (.cpToneEnd i) s = .next (if s.toneWatched i then s.cpEnd i else s).settle := react_running hp _
  have hsilence : exec (.cpSilenceLimit i) s = .next (if s.toneWatched i then
      onExpiry (s.line i).tu.cp.silenceDue s fun s => s.cpSilent i else s).settle := react_running hp _
  have hlong : exec (.cpToneLimit i) s = .next (if s.toneWatched i then
      onExpiry (s.line i).tu.cp.toneLimitDue s fun s => (s.updTu i fun t => { t with cp := .over }).noBusy i
      else s).settle := react_running hp _
  refine ⟨fun hoff => ?unwatched, fun hon => ?watched⟩
  case unwatched =>
    have hoff' : ¬ s.toneWatched i = true := by simp [hoff]
    rw [hstart, hend, hsilence, hlong]
    simp only [if_neg hoff', and_self]
  case watched =>
    rw [hstart, hend, hsilence, hlong]
    simp only [if_pos hon]
    refine ⟨fun h => ?quiet, fun h => ?inTone, fun t h => ⟨?silence, ?silenceLimit⟩, fun t h => ⟨?toneEnd, ?toneLimit⟩,
      fun h => ?longTone⟩
    case quiet => rw [State.cpStart_of_quiet h]
    case inTone => rw [State.cpStart_of_present h]
    case silence => rw [State.cpStart_of_silence h]
    case silenceLimit => rw [h]; rfl
    case toneEnd => rw [State.cpEnd_of_tone h]
    case toneLimit => rw [h]; rfl
    case longTone => rw [State.cpEnd_of_over h]

/-- Settles O22: in PROGRESS with no pending admission the detectors are listened to, a frame being `speechFrame`'s. -/
theorem progressIsDecided : Obligations.ProgressIsDecided := by
  intro s i hp
  refine ⟨fun samples h hpend hkind => ?frame, State.toneStarts_toneInFrame s i, fun tone h hpend => ?answerTone,
    fun d h => ?answerWait, fun d h => ?ringbackAbsence⟩
  case frame =>
    have hframe : exec (.progressFrameLevel i samples) s = .next
        (if s.listening i ∧ (s.line i).cc.kind = some .voice then s.speechFrame i samples else s).settle :=
      react_running hp _
    rw [hframe, if_pos ⟨State.listening_of_progress h hpend, hkind⟩, State.speechFrame_eq, apply_ite State.settle]
    rfl
  case answerTone =>
    have htone : exec (.answerToneDetected i tone) s = .next
        (if s.listening i ∧ (s.line i).cc.kind = some (answerKind tone) then s.progressConnects i else s).settle :=
      react_running hp _
    rw [htone]
    simp only [State.listening_of_progress h hpend, true_and, apply_ite State.settle]
  case answerWait => exact react_onExpiry (fun s => (s.line i).cc.answerDue) (fun s => s.progressFails i .noAnswer) hp h
  case ringbackAbsence => exact react_onExpiry (fun s => (s.line i).cc.ringbackDue) (fun s => s.ringbackGone i) hp h

/-- Settles O23: the settle, the drain wait and the guard as expiries; the end of the drain where nothing is left to
send. -/
theorem settleDrainAndGuardEnd : Obligations.SettleDrainAndGuardEnd := by
  intro s i d hp
  refine ⟨fun h => ?settle, fun h htx hack => ?drained, fun h => ?drainWait, fun h => ?guard⟩
  case settle => exact react_onExpiry (fun s => (s.line i).cc.settleDue) (fun s => s.settleDone i) hp h
  case drained =>
    have hnothing : (s.line i).cc.drainDue.isSome ∧ (s.line i).blc.drained := by simp [h, Blc.drained, htx, hack]
    have hend : exec (.drainEnd i) s = .next
        (if (s.line i).cc.drainDue.isSome ∧ (s.line i).blc.drained then s.startClearing i else s).settle :=
      react_running hp _
    rw [hend, if_pos hnothing]
  case drainWait => exact react_onExpiry (fun s => (s.line i).cc.drainDue) (fun s => s.startClearing i) hp h
  case guard => exact react_onExpiry (fun s => (s.line i).cc.guardDue) (fun s => s.guardDone i) hp h

end Sys2Proof.Machine
end

section
/-! PROOFS. Caller identification and digits (chapter 2), the Caller Table (chapter 3): O24. The lookup of a number and the
oldest LEARNED entry, the events of the window and of the digits, then the obligation. -/

namespace Sys2Proof.Machine

open Sys2Proof

/-! ## The Caller Table (R50) -/

/-- A number that is found stands at the position found. -/
theorem Ct.find_eq_some {t : Ct} {n : List Byte} {k : Nat} (h : t.find n = some k) :
    ∃ e, t.table[k]? = some (some e) ∧ e.number = n := by
  obtain ⟨hk, hmatch, -⟩ := List.findIdx?_eq_some_iff_getElem.1 h
  cases hx : t.table[k] with
  | none => simp [hx] at hmatch
  | some e => exact ⟨e, by rw [List.getElem?_eq_getElem hk, hx], by simpa [hx] using hmatch⟩

/-- The lookup of a number held: its class, the count and the ordinal of the entry set. -/
theorem Ct.lookup_of_held {t : Ct} {n : List Byte} {k : Nat} {e : CtEntry} (h : t.find n = some k)
    (he : t.table[k]? = some (some e)) :
    t.lookup n = (t.put k (some { e with count := min 255 (e.count + 1), lastOrdinal := t.ordinal }), e.cls, false) := by
  simp only [Ct.lookup, h, he, Option.join_some]

/-- The lookup of a new number that finds a position. -/
theorem Ct.lookup_of_placed {t : Ct} {n : List Byte} {k : Nat} (h : t.find n = none) (hk : t.place = some k) :
    t.lookup n =
      (t.put k (some { number := n, cls := .learned, count := 1, lastOrdinal := t.ordinal, label := none }), .learned,
        false) := by
  simp only [Ct.lookup, h, hk]

/-- The lookup of a new number that finds none. -/
theorem Ct.lookup_of_unplaced {t : Ct} {n : List Byte} (h : t.find n = none) (hplace : t.place = none) :
    t.lookup n = (t, .unknown, true) := by
  simp only [Ct.lookup, h, hplace]

/-- The lowest free position, else that of the oldest LEARNED entry. -/
theorem Ct.place_of_free {t : Ct} {k : Nat} (h : t.table.findIdx? (·.isNone) = some k) : t.place = some k := by
  simp only [Ct.place, h]

theorem Ct.place_of_full {t : Ct} (h : t.table.findIdx? (·.isNone) = none) : t.place = t.oldest := by
  simp only [Ct.place, h]

/-- What an entry of the table gives to the list of the LEARNED ones: its position and age. -/
def Ct.learnedAt (t : Ct) (x : Option CtEntry × Nat) : Option (Nat × Nat) :=
  match x.1 with
  | some e => if e.cls = .learned then some (x.2, t.age e) else none
  | none => none

theorem Ct.learnedAt_eq_some {t : Ct} {x : Option CtEntry × Nat} {y : Nat × Nat} :
    t.learnedAt x = some y ↔ ∃ e, x.1 = some e ∧ e.cls = .learned ∧ (x.2, t.age e) = y := by
  obtain ⟨_ | e, k⟩ := x
  · simp [Ct.learnedAt]
  · by_cases h : e.cls = .learned <;> simp [Ct.learnedAt, h]

theorem Ct.learned_eq (t : Ct) : t.learned = t.table.zipIdx.filterMap t.learnedAt := rfl

theorem Ct.mem_learned {t : Ct} {k a : Nat} :
    (k, a) ∈ t.learned ↔ ∃ e, t.table[k]? = some (some e) ∧ e.cls = .learned ∧ a = t.age e := by
  simp only [Ct.learned_eq, List.mem_filterMap, Ct.learnedAt_eq_some, Prod.exists, List.mem_zipIdx_iff_getElem?,
    Prod.mk.injEq]
  constructor
  · rintro ⟨o, j, hj, e, rfl, he, rfl, rfl⟩
    exact ⟨e, hj, he, rfl⟩
  · rintro ⟨e, hk, he, rfl⟩
    exact ⟨some e, k, hk, e, rfl, he, rfl, rfl⟩

/-- They stand in the order of their positions. -/
theorem Ct.learned_pairwise (t : Ct) : t.learned.Pairwise fun x y => x.1 < y.1 := by
  have hidx : t.table.zipIdx.Pairwise fun x y => x.2 < y.2 := by
    rw [← List.pairwise_map (f := Prod.snd) (R := (· < ·)), List.zipIdx_map_snd]
    exact List.pairwise_lt_range'
  rw [Ct.learned_eq, List.pairwise_filterMap]
  refine hidx.imp fun hlt y hy z hz => ?_
  obtain ⟨_, -, -, rfl⟩ := Ct.learnedAt_eq_some.1 hy
  obtain ⟨_, -, -, rfl⟩ := Ct.learnedAt_eq_some.1 hz
  exact hlt

/-- The older of the best so far and the next one, the one before at equal ages. -/
def olderOf (best : Option (Nat × Nat)) (x : Nat × Nat) : Option (Nat × Nat) :=
  match best with
  | none => some x
  | some b => if b.2 < x.2 then some x else some b

theorem Ct.oldest_eq (t : Ct) : t.oldest = (t.learned.foldl olderOf none).map (·.1) := rfl

/-- `x` is younger than `b`, or of its age and not before it. -/
def yieldsTo (b x : Nat × Nat) : Prop := x.2 < b.2 ∨ (x.2 = b.2 ∧ b.1 ≤ x.1)

/-- The fold over a list in position order ends at one to which all the others yield. -/
theorem foldl_olderOf_some : ∀ (l : List (Nat × Nat)) (b : Nat × Nat), (b :: l).Pairwise (fun x y => x.1 < y.1) →
    ∃ o ∈ b :: l, l.foldl olderOf (some b) = some o ∧ ∀ x ∈ b :: l, yieldsTo o x
  | [], b, _ => ⟨b, List.mem_singleton_self b, rfl, by simp [yieldsTo]⟩
  | x :: l, b, hpos => by
    obtain ⟨hb, hrest⟩ := List.pairwise_cons.1 hpos
    obtain ⟨-, htail⟩ := List.pairwise_cons.1 hrest
    have hbx : b.1 < x.1 := hb x List.mem_cons_self
    by_cases hage : b.2 < x.2
    · obtain ⟨o, ho, hfold, hall⟩ := foldl_olderOf_some l x hrest
      have hx : yieldsTo o x := hall x List.mem_cons_self
      refine ⟨o, List.mem_cons_of_mem b ho, ?_, List.forall_mem_cons.2 ⟨?_, hall⟩⟩
      · rw [List.foldl_cons, olderOf, if_pos hage]; exact hfold
      · unfold yieldsTo at *; omega
    · have hskip : (b :: l).Pairwise fun x y => x.1 < y.1 :=
        List.pairwise_cons.2 ⟨fun y hy => hb y (List.mem_cons_of_mem x hy), htail⟩
      obtain ⟨o, ho, hfold, hall⟩ := foldl_olderOf_some l b hskip
      obtain ⟨hob, hol⟩ := List.forall_mem_cons.1 hall
      refine ⟨o, ?_, ?_, List.forall_mem_cons.2 ⟨hob, List.forall_mem_cons.2 ⟨?_, hol⟩⟩⟩
      · exact (List.mem_cons.1 ho).elim (fun e => e ▸ List.mem_cons_self)
          fun h => List.mem_cons_of_mem b (List.mem_cons_of_mem x h)
      · rw [List.foldl_cons, olderOf, if_neg hage]; exact hfold
      · unfold yieldsTo at *; omega

/-- The fold over the LEARNED entries: none where there is none, else one to which all yield. -/
theorem Ct.learned_oldest (t : Ct) :
    (t.learned = [] ∧ t.oldest = none) ∨
      ∃ k a, (k, a) ∈ t.learned ∧ t.oldest = some k ∧ ∀ x ∈ t.learned, yieldsTo (k, a) x := by
  have hpos := t.learned_pairwise
  rw [Ct.oldest_eq]
  cases hl : t.learned with
  | nil => exact .inl ⟨rfl, rfl⟩
  | cons b l =>
    obtain ⟨⟨k, a⟩, ho, hfold, hall⟩ := foldl_olderOf_some l b (hl ▸ hpos)
    exact .inr ⟨k, a, ho, congrArg (Option.map (·.1)) hfold, hall⟩

/-- The oldest LEARNED entry, the lowest position of equal ages (R50). -/
theorem Ct.oldest_eq_some {t : Ct} {k : Nat} (h : t.oldest = some k) :
    ∃ e, t.table[k]? = some (some e) ∧ e.cls = .learned
      ∧ ∀ (j : Nat) (x : CtEntry), t.table[j]? = some (some x) → x.cls = .learned →
          t.age x < t.age e ∨ (t.age x = t.age e ∧ k ≤ j) := by
  obtain ⟨-, hnone⟩ | ⟨k', a, hmem, hsome, hall⟩ := t.learned_oldest
  · simp [hnone] at h
  · obtain rfl : k' = k := Option.some.inj (hsome.symm.trans h)
    obtain ⟨e, he, hcls, rfl⟩ := Ct.mem_learned.1 hmem
    exact ⟨e, he, hcls, fun j x hx hc => hall (j, t.age x) (Ct.mem_learned.2 ⟨x, hx, hc, rfl⟩)⟩

/-- Where there is no oldest LEARNED entry there is no LEARNED entry. -/
theorem Ct.oldest_eq_none {t : Ct} (h : t.oldest = none) (j : Nat) (x : CtEntry)
    (hx : t.table[j]? = some (some x)) : x.cls ≠ .learned := by
  intro hc
  have hmem : (j, t.age x) ∈ t.learned := Ct.mem_learned.2 ⟨x, hx, hc, rfl⟩
  obtain ⟨hempty, -⟩ | ⟨k, a, -, hsome, -⟩ := t.learned_oldest
  · simp [hempty] at hmem
  · simp [hsome] at h

/-! ## Caller identification and digits (R27 to R32, R51) -/

/-- A byte in an open window marks a message as begun (R27). -/
theorem State.clidByte_of_open {s : State} {i : LineNo} {w : ClidWindow} (h : (s.line i).tu.clid = some w) :
    (s.updTu i fun t => { t with clid := t.clid.map fun w => { w with begun := true } }) =
      s.updTu i fun t => { t with clid := some { w with begun := true } } :=
  State.updTu_congr s i (by rw [h]; rfl)

theorem Line.detectsDigits_iff {l : Line} : l.detectsDigits = true ↔ l.holds .voiceBase = true ∧ l.tu.toneDue = none := by
  simp [Line.detectsDigits]

/-- After a digit of a TONE list the next one is sent, or sending ends (R32). -/
theorem State.toneDigitDone_of_list {s : State} {i : LineNo} {x : Dtmf} {r : List Dtmf}
    (h : (s.line i).tu.toneList = x :: r) :
    s.toneDigitDone i = s.updTu i fun t => { t with
      toneList := r, toneDue := if r.isEmpty then none else some (s.now + 160) } :=
  State.updTu_congr s i (by simp [h])

/-! ## The settled obligation -/

/-- Settles O24: the window and the digits event by event, the lookup by where the number is found or placed, and the
oldest LEARNED entry by `Ct.learned_oldest`. -/
theorem callerIdentificationAndDigits : Obligations.CallerIdentificationAndDigits := by
  intro s i hp
  refine ⟨fun w h => ⟨?timeout, ?byte, fun b => ?message⟩, fun d hbase hidle => ?digit, fun d x r hdue hlist => ?toneEnd,
    fun c => ?caller, rfl, fun t n => ⟨fun k e hk he => ?held, fun k hnew hplace => ?learned, fun hnew hfull hold => ?dropped,
      fun k => Ct.oldest_eq_some, Ct.oldest_eq_none⟩⟩
  case timeout =>
    exact react_onExpiry (fun s => (s.line i).tu.clid.map (·.due)) (fun s => s.closeClid i) hp (by rw [h]; rfl)
  case byte =>
    have hbyte : exec (.callerIdByteReceived i) s = .next
        (s.updTu i fun t => { t with clid := t.clid.map fun w => { w with begun := true } }).settle :=
      react_running hp fun s => s.updTu i fun t => { t with clid := t.clid.map fun w => { w with begun := true } }
    rw [hbyte, State.clidByte_of_open h]
  case message =>
    have hmessage : exec (.callerMessageReceived i b) s = .next (s.clidMessage i b).settle :=
      react_running hp fun s => s.clidMessage i b
    rw [hmessage, State.clidMessage, h]
    cases judgeClid b <;> rfl
  case digit =>
    have hdigit : exec (.dtmfDigitDeclared i d) s = .next
        (if (s.line i).detectsDigits then ((s.queueDigit i d).digitStops i).mailboxLook i else s).settle :=
      react_running hp _
    rw [hdigit, if_pos (Line.detectsDigits_iff.2 ⟨hbase, hidle⟩)]
    rfl
  case toneEnd =>
    have hend : exec (.toneDigitEnd i) s = .next ((s.reach d).toneDigitDone i).settle :=
      react_onExpiry (fun s => (s.line i).tu.toneDue) (fun s => s.toneDigitDone i) hp hdue
    rw [hend, State.toneDigitDone_of_list (s := s.reach d) hlist]
    rfl
  case caller =>
    obtain ⟨number, name⟩ := c
    cases number <;> simp only [State.callerKnown, State.updCc, State.updApc, State.upd_upd]
  case held =>
    obtain ⟨e', he', hnumber⟩ := Ct.find_eq_some hk
    obtain rfl : e' = e := by simpa [he'] using he
    exact ⟨hnumber, Ct.lookup_of_held hk he⟩
  case learned =>
    refine Ct.lookup_of_placed hnew ?_
    obtain hfree | ⟨hfull, hold⟩ := hplace
    · exact Ct.place_of_free hfree
    · rw [Ct.place_of_full hfull, hold]
  case dropped => exact Ct.lookup_of_unplaced hnew (by rw [Ct.place_of_full hfull, hold])

end Sys2Proof.Machine
end

section
/-! PROOFS. The call requests (chapters 2 and 3): O25, O26. What a request that names a line or a group is answered, case by
case, then the obligations. -/

namespace Sys2Proof.Machine

open Sys2Proof

/-! ## Requests that a ready part takes (R165, R166) -/

theorem lineOf_val (i : LineNo) : lineOf i.val = some i := by simp [lineOf]

theorem lineOf_eq_none {n : Nat} (h : 4 ≤ n) : lineOf n = none := dif_neg (by omega)

theorem lineOf_cases (n : Nat) : 4 ≤ n ∨ ∃ i : LineNo, n = i.val := by
  by_cases h : n < 4
  · exact .inr ⟨⟨n, h⟩, rfl⟩
  · exact .inl (by omega)

/-- A request that names line `i` is decided by it. -/
theorem onLine_val (s : State) (i : LineNo) (f : LineNo → Answer) : onLine s i.val f = f i := by
  simp only [onLine, lineOf_val]

theorem onLine_of_noLine (s : State) {n : Nat} (f : LineNo → Answer) (h : 4 ≤ n) :
    onLine s n f = refuse s .badArgument := by
  simp only [onLine, lineOf_eq_none h]

/-- The reply of a ready part to a request whose answer is known. -/
theorem hostRecord_answers {s u : State} (h : s.ready) {line tag : Nat} {r : Request} {st : Status} {fields : List Byte}
    (ha : answerRequest s line r = { state := u, status := st, fields := fields }) :
    hostRecord s line tag (.request r) = .next (u.answered line tag r.name st fields) := by
  rw [hostRecord_ready h, ha]; rfl

/-- A refusal changes nothing but by its reply. -/
theorem hostRecord_refuses {s : State} (h : s.ready) {line tag : Nat} {r : Request} {st : Status}
    (ha : answerRequest s line r = refuse s st) :
    hostRecord s line tag (.request r) = .next (s.answered line tag r.name st []) :=
  hostRecord_answers h ha

/-! ## CALL (R19, R40) -/

/-- CALL with a known kind and a good list, in the order of R19. -/
theorem takeCall_of_good (s : State) (i : LineNo) {kind maxc floor : Nat} {dial : List (Nat × Nat)} {k : CallKind}
    {d : List DialElem} (hk : CallKind.of kind = some k)
    (hd : dialListOf (some (s.lineSettings i).dialMethod) dial = some d) :
    takeCall s i.val kind maxc floor dial =
      if (s.line i).lif.service = .outOfService then refuse s .outOfService
      else if (s.line i).cc.state ≠ .idle then refuse s .wrongState
      else if s.free < 6 then refuse s .noCapacity
      else
        { state := s.enterSeized i k d (s.lineSettings i).dialMethod (connOf k maxc floor), status := .accepted
          fields := be1 i.val ++ be1 255 ++ beConn (connOf k maxc floor) ++ be2 0 } := by
  simp only [takeCall, onLine_val, hk, hd]; rfl

/-- CALL of no line, no known kind or no good list is refused first. -/
theorem takeCall_of_bad (s : State) {line kind : Nat} (maxc floor : Nat) {dial : List (Nat × Nat)}
    (h : 4 ≤ line ∨ CallKind.of kind = none
      ∨ ∃ i : LineNo, line = i.val ∧ dialListOf (some (s.lineSettings i).dialMethod) dial = none) :
    takeCall s line kind maxc floor dial = refuse s .badArgument := by
  obtain hline | ⟨i, rfl⟩ := lineOf_cases line
  · exact onLine_of_noLine s _ hline
  · rw [takeCall, onLine_val]
    obtain hline | hkind | ⟨j, hij, hdial⟩ := h
    · omega
    · simp only [hkind]
    · obtain rfl : i = j := Fin.ext hij
      simp only [hdial]
      cases CallKind.of kind <;> rfl

/-- CALL naming a group with its fields good is decided by R40. -/
theorem takeCallGroup_of_good (s : State) (g : LineNo) {kind maxc floor wait hostTag : Nat} {dial : List (Nat × Nat)}
    {k : CallKind} {d : List DialElem} (hk : CallKind.of kind = some k) (hd : dialListOf none dial = some d) :
    takeCallGroup s 15 g.val kind maxc floor wait hostTag dial =
      s.groupCall
        { group := g, kind := k, dial := d, conn := connOf k maxc floor, wait := min 600 wait, tag := hostTag } := by
  simp only [takeCallGroup, onPart, if_true, lineOf_val, hk, hd]

theorem takeCallGroup_of_bad (s : State) {group kind : Nat} (maxc floor wait hostTag : Nat) {dial : List (Nat × Nat)}
    (h : 4 ≤ group ∨ CallKind.of kind = none ∨ dialListOf none dial = none) :
    takeCallGroup s 15 group kind maxc floor wait hostTag dial = refuse s .badArgument := by
  simp only [takeCallGroup, onPart, if_true]
  obtain hgroup | hkind | hdial := h
  · simp only [lineOf_eq_none hgroup]
  · simp only [hkind]
    cases lineOf group <;> rfl
  · simp only [hdial]
    cases lineOf group <;> cases CallKind.of kind <;> rfl

section
variable {s : State} {c : GroupCall}

theorem State.groupCall_of_empty (h : s.gd.groupState.get c.group = .empty) : s.groupCall c = refuse s .noLine :=
  if_pos h

/-- An eligible line and a FREE record (R40, R42). -/
theorem State.groupCall_dispatched {i : LineNo} {e : Nat} (h : s.gd.groupState.get c.group ≠ .empty)
    (hline : s.chooseLine c.group = some i) (hrec : s.freeRec = some e) :
    s.groupCall c =
      { state := (s.setRec e { st := .assigned i, call := c, expiry := s.now + c.wait * 1000 }).dispatchTo c i e
        status := .accepted, fields := be1 i.val ++ be1 e ++ beConn c.conn ++ be2 c.wait } := by
  simp only [State.groupCall, if_neg h, hline, State.dispatchNew, hrec]; rfl

/-- An eligible line without a FREE record (R40). -/
theorem State.groupCall_unrecorded {i : LineNo} (h : s.gd.groupState.get c.group ≠ .empty)
    (hline : s.chooseLine c.group = some i) (hrec : s.freeRec = none) :
    s.groupCall c =
      { state := s.dispatchTo c i 8, status := .accepted
        fields := be1 i.val ++ be1 8 ++ beConn c.conn ++ be2 c.wait } := by
  simp only [State.groupCall, if_neg h, hline, State.dispatchNew, hrec]; rfl

/-- No eligible line and a wait (R40). -/
theorem State.groupCall_queued {e : Nat} (h : s.gd.groupState.get c.group ≠ .empty)
    (hline : s.chooseLine c.group = none) (hwait : c.wait ≠ 0) (hrec : s.freeRec = some e) :
    s.groupCall c =
      { state := { s with gd := { s.gd with
          recs := s.gd.recs.set e { st := .queued, call := c, expiry := s.now + c.wait * 1000 }
          queue := s.gd.queue ++ [e] } }
        status := .queued, fields := be1 255 ++ be1 e ++ beConn c.conn ++ be2 c.wait } := by
  simp only [State.groupCall, if_neg h, hline, if_neg hwait, hrec]; rfl

theorem State.groupCall_of_noWait (hline : s.chooseLine c.group = none) (hwait : c.wait = 0) :
    s.groupCall c = refuse s .noLine := by
  simp only [State.groupCall, hline, if_pos hwait, ite_self]

theorem State.groupCall_of_noRecord (h : s.gd.groupState.get c.group ≠ .empty) (hline : s.chooseLine c.group = none)
    (hwait : c.wait ≠ 0) (hrec : s.freeRec = none) : s.groupCall c = refuse s .queueFull := by
  simp only [State.groupCall, if_neg h, hline, if_neg hwait, hrec]

end

/-! ## ANSR, RELS, DIGR, TONE (R26, R31, R32, R35) -/

theorem takeAnsr_of_known (s : State) (i : LineNo) {kind maxc floor : Nat} {k : CallKind}
    (hk : CallKind.of kind = some k) :
    takeAnsr s i.val kind maxc floor =
      if (s.line i).cc.state = .ringing ∧ (s.line i).cc.ignore = false then
        okWith ((s.updApc i fun a => { a with plan := .inactive }).enterAnswering i k (connOf k maxc floor))
          (beConn (connOf k maxc floor))
      else refuse s .wrongState := by
  simp only [takeAnsr, onLine_val, hk]

theorem takeAnsr_of_unknown (s : State) (i : LineNo) {kind : Nat} (maxc floor : Nat) (hk : CallKind.of kind = none) :
    takeAnsr s i.val kind maxc floor = refuse s .badArgument := by
  simp only [takeAnsr, onLine_val, hk]

theorem takeRels_of_flag (s : State) (i : LineNo) {drain : Nat} {b : Bool} (h : flagOf drain = some b) :
    takeRels s i.val drain = s.rels i b := by
  simp only [takeRels, onLine_val, h]

theorem takeRels_of_noFlag (s : State) (i : LineNo) {drain : Nat} (h : flagOf drain = none) :
    takeRels s i.val drain = refuse s .badArgument := by
  simp only [takeRels, onLine_val, h]

theorem Blc.drained_iff {b : Blc} : b.drained = true ↔ b.tx.isEmpty ∧ b.unacked.isEmpty := by
  simp [Blc.drained]

/-- The row of R35's table for a connected call. -/
theorem State.rels_of_connected {s : State} {i : LineNo} (b : Bool) (h : (s.line i).cc.state = .connected) :
    s.rels i b = okWith
      (if (s.line i).cc.kind = some .data ∧ b then
        (if (s.line i).cc.drainDue.isSome then s
        else
          let u := (s.joinCause i .hostRelease).updCc i fun c => { c with drainDue := some (s.now + 10000) }
          if (s.line i).blc.tx.isEmpty ∧ (s.line i).blc.unacked.isEmpty then u.startClearing i else u)
      else s.raiseCause i .hostRelease) [] := by
  simp only [State.rels, h, State.startDrain, Blc.drained_iff]
  split <;> rfl

/-- A TONE list has a digit for every character. -/
theorem dtmfList_length : ∀ {b : List Byte} {l : List Dtmf}, dtmfList b = some l → l.length = b.length
  | [], l, h => by
    obtain rfl : [] = l := Option.some.inj h
    rfl
  | x :: r, l, h => by
    rw [dtmfList] at h
    split at h
    · next d t _ ht =>
      obtain rfl : d :: t = l := Option.some.inj h
      simp [dtmfList_length ht]
    · simp at h

/-- TONE of a list of 1 to 32 digits, in the order of R32. -/
theorem takeTone_of_good (s : State) (i : LineNo) {digits : List Byte} {l : List Dtmf} (hl : dtmfList digits = some l)
    (h1 : 1 ≤ l.length) (h32 : l.length ≤ 32) :
    takeTone s i.val digits =
      if (s.line i).cc.connectedVoice = false then refuse s .wrongState
      else if (s.line i).planActive ∨ (s.line i).vc.op.isSome ∨ (s.line i).tu.toneDue.isSome then refuse s .busy
      else okWith (s.updTu i fun t => { t with toneList := l, toneDue := some (s.now + 160) }) [] := by
  have hlen : ¬ (l.isEmpty = true ∨ 32 < l.length) := by
    rw [List.isEmpty_iff_length_eq_zero]; omega
  simp only [takeTone, onLine_val, hl, if_neg hlen]

theorem takeTone_of_bad (s : State) (i : LineNo) {digits : List Byte}
    (h : digits = [] ∨ 32 < digits.length ∨ dtmfList digits = none) :
    takeTone s i.val digits = refuse s .badArgument := by
  cases hl : dtmfList digits with
  | none => simp only [takeTone, onLine_val, hl]
  | some l =>
    have hlen : l.isEmpty = true ∨ 32 < l.length := by
      rw [List.isEmpty_iff_length_eq_zero, dtmfList_length hl]
      obtain rfl | hlong | hnone := h
      · exact .inl rfl
      · exact .inr hlong
      · simp [hl] at hnone
    simp only [takeTone, onLine_val, hl, if_pos hlen]

theorem Cc.connectedVoice_iff {c : Cc} : c.connectedVoice = true ↔ c.state = .connected ∧ c.kind = some .voice := by
  simp [Cc.connectedVoice]

/-! ## The settled obligations -/

/-- Settles O25: on a line by `takeCall_of_good`, the first of its refusals that holds, on a group by the cases of
`groupCall`; bad fields are refused before either. -/
theorem callSeizesALine : Obligations.CallSeizesALine := by
  refine ⟨fun s tag kind maxc floor dial k hs hk => ⟨fun i d hd hservice hidle hfree => ?seized,
    fun g d wait hostTag hd hgroup => ?group, fun i d hd => ⟨fun hout => ?outOfService, fun hservice hstate => ?wrongState,
      fun hservice hidle hfull => ?noCapacity⟩, fun g d wait hostTag hd hempty => ?emptyGroup⟩,
    fun s line group tag kind maxc floor wait hostTag dial hs => ⟨fun hbad => ?badLine, fun hbad => ?badGroup⟩⟩
  case seized =>
    refine hostRecord_answers hs ((takeCall_of_good s i hk hd).trans ?_)
    rw [if_neg hservice, if_neg (not_not.2 hidle), if_neg (not_lt.2 hfree)]
  case outOfService => exact hostRecord_refuses hs ((takeCall_of_good s i hk hd).trans (if_pos hout))
  case wrongState =>
    refine hostRecord_refuses hs ((takeCall_of_good s i hk hd).trans ?_)
    rw [if_neg hservice, if_pos hstate]
  case noCapacity =>
    refine hostRecord_refuses hs ((takeCall_of_good s i hk hd).trans ?_)
    rw [if_neg hservice, if_neg (not_not.2 hidle), if_pos hfull]
  case group =>
    intro c
    have htake := takeCallGroup_of_good s g (maxc := maxc) (floor := floor) (wait := wait) (hostTag := hostTag) hk hd
    have hwait (h : wait ≠ 0) : c.wait ≠ 0 := by show min 600 wait ≠ 0; omega
    refine ⟨fun i e hline hrec => ?dispatched, fun i hline hrec => ?unrecorded, fun e hline hrec hw => ?queued,
      fun hline hw => ?noWait, fun hline hw hrec => ?noRecord⟩
    case dispatched => exact hostRecord_answers hs (htake.trans (State.groupCall_dispatched hgroup hline hrec))
    case unrecorded => exact hostRecord_answers hs (htake.trans (State.groupCall_unrecorded hgroup hline hrec))
    case queued => exact hostRecord_answers hs (htake.trans (State.groupCall_queued hgroup hline (hwait hw) hrec))
    case noWait =>
      have hzero : c.wait = 0 := by show min 600 wait = 0; omega
      exact hostRecord_refuses hs (htake.trans (State.groupCall_of_noWait hline hzero))
    case noRecord =>
      exact hostRecord_refuses hs (htake.trans (State.groupCall_of_noRecord hgroup hline (hwait hw) hrec))
  case emptyGroup =>
    exact hostRecord_refuses hs ((takeCallGroup_of_good s g hk hd).trans (State.groupCall_of_empty hempty))
  case badLine => exact hostRecord_refuses hs (takeCall_of_bad s maxc floor hbad)
  case badGroup => exact hostRecord_refuses hs (takeCallGroup_of_bad s maxc floor wait hostTag hbad)

/-- Settles O26: each request by the lemma about its taking, RELS row by row of its table. -/
theorem ansrRelsDigrToneAreTaken : Obligations.AnsrRelsDigrToneAreTaken := by
  intro s i tag hs
  refine ⟨fun kind maxc floor k hk hring hign => ?answered, fun drain b hb => ?rels, ?digr,
    fun digits l hl h1 h32 hconn hvoice hplan hop hidle => ?tone,
    fun kind maxc floor => ⟨fun hk => ?answersNoKind, fun hk hstate => ?answersNothing⟩, fun drain hb => ?relsNoFlag,
    fun digits => ⟨fun hbad => ?toneBadList, fun l hl h1 h32 => ⟨fun hconn => ?toneOutside, fun hconn hbusy => ?toneBusy⟩⟩⟩
  case answered =>
    exact hostRecord_answers hs ((takeAnsr_of_known s i hk).trans (if_pos ⟨hring, hign⟩))
  case answersNoKind => exact hostRecord_refuses hs (takeAnsr_of_unknown s i maxc floor hk)
  case answersNothing =>
    obtain ⟨k, hk⟩ := Option.ne_none_iff_exists'.1 hk
    refine hostRecord_refuses hs ((takeAnsr_of_known s i hk).trans (if_neg ?_))
    rintro ⟨hring, hign⟩
    obtain hout | hignored := hstate
    · exact hout hring
    · simp [hign] at hignored
  case rels =>
    have hrels {u : State} {st : Status} (h : s.rels i b = { state := u, status := st }) :
        exec (.rels i.val tag drain) s = .next (u.answered i.val tag (chars 'R' 'E' 'L' 'S') st []) :=
      hostRecord_answers hs ((takeRels_of_flag s i hb).trans h)
    cases hstate : (s.line i).cc.state with
    | connected => exact hrels (State.rels_of_connected b hstate)
    | idle | ringing | answering | seized | dialling | progress | clearing =>
      exact hrels (by simp only [State.rels, hstate]; rfl)
  case relsNoFlag => exact hostRecord_refuses hs (takeRels_of_noFlag s i hb)
  case digr =>
    refine hostRecord_answers hs ((onLine_val s i _).trans ?_)
    simp only [beStr, List.length_map]; rfl
  case tone =>
    refine hostRecord_answers hs ((takeTone_of_good s i hl h1 h32).trans ?_)
    rw [if_neg (by simp [Cc.connectedVoice_iff.2 ⟨hconn, hvoice⟩]), if_neg (by simp [hplan, hop, hidle])]
    rfl
  case toneBadList => exact hostRecord_refuses hs (takeTone_of_bad s i hbad)
  case toneOutside =>
    exact hostRecord_refuses hs ((takeTone_of_good s i hl h1 h32).trans (if_pos hconn))
  case toneBusy =>
    refine hostRecord_refuses hs ((takeTone_of_good s i hl h1 h32).trans ?_)
    rw [if_neg (by simp [hconn]), if_pos (by simpa only [Option.isSome_iff_ne_none] using hbusy)]

end Sys2Proof.Machine
end

section
/-! PROOFS. The end of a call (R34): O27. What the parts of clearing leave of a call, what each of them clears, then the
obligation. -/

namespace Sys2Proof.Machine

open Sys2Proof

/-! ## What emptying slots leaves of a line -/

theorem Four.get_map {α β : Type} (f : α → β) (x : Four α) (i : LineNo) : (x.map f).get i = f (x.get i) := by
  fin_cases i <;> rfl

/-- Closing an entry touches the windows alone of the lines. -/
theorem State.closeEntry_line_part {α : Type} (s : State) (id : Nat) (i : LineNo) (g : Line → α)
    (h : ∀ (l : Line) (w : Four (Option Attach)), g { l with window := w } = g l) :
    g ((s.closeEntry id).line i) = g (s.line i) := by
  simp only [State.closeEntry, State.emptySlots, State.line, Four.get_map]
  exact h _ _

/-- A delete leaves the lines as they are. -/
@[simp] theorem State.tryDelete_line (s : State) (id : Nat) (i : LineNo) : (s.tryDelete id).1.line i = s.line i := by
  unfold State.tryDelete
  split
  · rfl
  · split <;> rfl

@[simp] theorem State.tryDelete_nu (s : State) (id : Nat) : (s.tryDelete id).1.nu = s.nu := by
  unfold State.tryDelete
  split
  · rfl
  · split <;> rfl

/-- Ending activities touches the holding alone of a line. -/
theorem State.endActs_line_part {α : Type} (s : State) (i j : LineNo) (a : List Activity) (g : Line → α)
    (h : ∀ (l : Line) (b : List Activity), g { l with acts := b } = g l) :
    g ((s.endActs i a).line j) = g (s.line j) := by
  unfold State.endActs
  split <;> exact State.line_upd_part s i j _ g fun l => h l _

@[simp] theorem State.endActs_nu (s : State) (i : LineNo) (a : List Activity) : (s.endActs i a).nu = s.nu := by
  unfold State.endActs; split <;> rfl

@[simp] theorem State.dropPending_line (s : State) (i j : LineNo) : (s.dropPending i).line j = s.line j := by
  unfold State.dropPending; split <;> rfl

@[simp] theorem State.dropPending_nu (s : State) (i : LineNo) : (s.dropPending i).nu = s.nu := by
  unfold State.dropPending; split <;> rfl

/-! ## What the ends of the voice operation, the plan, the job and the holding leave of a call -/

/-- Line interface, Call Controller and Tone Unit of a line. -/
def Line.callBlocks (l : Line) : Lif × Cc × Tu := (l.lif, l.cc, l.tu)

/-- These blocks of a line, and the number of notice kinds: what clearing has fixed once the Tone Unit and the Line
Interface have cleared. -/
def State.callPart (s : State) (i : LineNo) : (Lif × Cc × Tu) × Nat := ((s.line i).callBlocks, s.nu.flags.length)

theorem State.callPart_congr {s t : State} {i : LineNo} (hline : (s.line i).callBlocks = (t.line i).callBlocks)
    (hnu : s.nu.flags.length = t.nu.flags.length) : s.callPart i = t.callPart i := by
  rw [State.callPart, State.callPart, hline, hnu]

/-- The parts of two equal calls are equal. -/
theorem State.callPart_eq {s t : State} {i : LineNo} (h : s.callPart i = t.callPart i) :
    (s.line i).lif = (t.line i).lif ∧ (s.line i).cc = (t.line i).cc ∧ (s.line i).tu = (t.line i).tu
      ∧ s.nu.flags.length = t.nu.flags.length := by
  simpa only [State.callPart, Line.callBlocks, Prod.mk.injEq, and_assoc] using h

section
variable (s : State) (i j : LineNo) (id : Nat)

@[simp] theorem State.raise_callPart (k : Notice) : (s.raise k j).callPart i = s.callPart i :=
  State.callPart_congr rfl (List.length_modify ..)

@[simp] theorem State.updDp_callPart (f : Dp → Dp) : (s.updDp j f).callPart i = s.callPart i :=
  State.callPart_congr (State.line_upd_part s j i _ _ fun _ => rfl) rfl

@[simp] theorem State.updBlc_callPart (f : Blc → Blc) : (s.updBlc j f).callPart i = s.callPart i :=
  State.callPart_congr (State.line_upd_part s j i _ _ fun _ => rfl) rfl

@[simp] theorem State.updFxc_callPart (f : Fxc → Fxc) : (s.updFxc j f).callPart i = s.callPart i :=
  State.callPart_congr (State.line_upd_part s j i _ _ fun _ => rfl) rfl

@[simp] theorem State.updVc_callPart (f : Vc → Vc) : (s.updVc j f).callPart i = s.callPart i :=
  State.callPart_congr (State.line_upd_part s j i _ _ fun _ => rfl) rfl

@[simp] theorem State.updApc_callPart (f : Apc → Apc) : (s.updApc j f).callPart i = s.callPart i :=
  State.callPart_congr (State.line_upd_part s j i _ _ fun _ => rfl) rfl

@[simp] theorem State.updCnt_callPart (f : LineCounters → LineCounters) :
    (s.updCnt j f).callPart i = s.callPart i :=
  State.callPart_congr (State.line_upd_part s j i _ _ fun _ => rfl) rfl

@[simp] theorem State.setSlot_callPart (slot : LineNo) (a : Option Attach) :
    (s.setSlot j slot a).callPart i = s.callPart i :=
  State.callPart_congr (State.line_upd_part s j i _ _ fun _ => rfl) rfl

@[simp] theorem State.closeEntry_callPart : (s.closeEntry id).callPart i = s.callPart i :=
  State.callPart_congr (State.closeEntry_line_part s id i _ fun _ _ => rfl) rfl

@[simp] theorem State.endActs_callPart (a : List Activity) : (s.endActs j a).callPart i = s.callPart i :=
  State.callPart_congr (State.endActs_line_part s j i a _ fun _ _ => rfl) (by rw [State.endActs_nu])

@[simp] theorem State.tryDelete_callPart : (s.tryDelete id).1.callPart i = s.callPart i :=
  State.callPart_congr (by rw [State.tryDelete_line]) (by rw [State.tryDelete_nu])

/-- An update of the store leaves every call as it is. -/
@[simp] theorem State.withStc_callPart (t : Stc) : State.callPart { s with stc := t } i = s.callPart i := rfl

@[simp] theorem State.closeOp_callPart (r : VoiceOutcome) : (s.closeOp j r).callPart i = s.callPart i := by
  unfold State.closeOp; (repeat' split) <;> simp

@[simp] theorem State.finishOp_callPart (r : VoiceOutcome) : (s.finishOp j r).callPart i = s.callPart i := by
  unfold State.finishOp; split <;> simp

@[simp] theorem State.stopOp_callPart (r : VoiceOutcome) : (s.stopOp j r).callPart i = s.callPart i := by
  unfold State.stopOp State.digitTrim State.trim; (repeat' split) <;> simp

@[simp] theorem State.planOutcome_callPart (r : PlanResult) : (s.planOutcome j r).callPart i = s.callPart i := by
  simp [State.planOutcome]

@[simp] theorem State.settleMessage_callPart : (s.settleMessage j).1.callPart i = s.callPart i := by
  unfold State.settleMessage
  split
  · rfl
  · dsimp only; (repeat' split) <;> simp

@[simp] theorem State.dropMessage_callPart : (s.dropMessage id).callPart i = s.callPart i := by
  simp [State.dropMessage]

@[simp] theorem State.planInactive_callPart : (s.planInactive j).callPart i = s.callPart i := by
  simp [State.planInactive]

@[simp] theorem State.planRecordingEnds_callPart : (s.planRecordingEnds j).callPart i = s.callPart i := by
  unfold State.planRecordingEnds; (repeat' split) <;> simp

@[simp] theorem State.voiceClears_callPart : (s.voiceClears j).callPart i = s.callPart i := by
  unfold State.voiceClears; (repeat' split) <;> simp

@[simp] theorem State.planClears_callPart : (s.planClears j).callPart i = s.callPart i := by
  unfold State.planClears; (repeat' split) <;> simp

@[simp] theorem State.closePage_callPart (job : FaxJob) (missing : Nat) :
    (s.closePage j job id missing).callPart i = s.callPart i := by simp [State.closePage]

@[simp] theorem State.closeIncomplete_callPart : (s.closeIncomplete j).callPart i = s.callPart i := by
  unfold State.closeIncomplete; (repeat' split) <;> simp

@[simp] theorem State.endJob_callPart (r : FaxOutcome) : (s.endJob j r).callPart i = s.callPart i := by
  simp [State.endJob]

@[simp] theorem State.faxClears_callPart : (s.faxClears j).callPart i = s.callPart i := by
  unfold State.faxClears; (repeat' split) <;> simp

@[simp] theorem State.linkClears_callPart : (s.linkClears j).callPart i = s.callPart i := by
  simp [State.linkClears]

end

section
variable (s : State) (i j : LineNo) (id : Nat)

/-! ## Parts of a line that one operation leaves -/

@[simp] theorem State.endActs_line_cc (a : List Activity) : ((s.endActs j a).line i).cc = (s.line i).cc :=
  State.endActs_line_part s j i a _ fun _ _ => rfl

@[simp] theorem State.endActs_line_tu (a : List Activity) : ((s.endActs j a).line i).tu = (s.line i).tu :=
  State.endActs_line_part s j i a _ fun _ _ => rfl

@[simp] theorem State.endActs_line_vc (a : List Activity) : ((s.endActs j a).line i).vc = (s.line i).vc :=
  State.endActs_line_part s j i a _ fun _ _ => rfl

@[simp] theorem State.endActs_line_apc (a : List Activity) : ((s.endActs j a).line i).apc = (s.line i).apc :=
  State.endActs_line_part s j i a _ fun _ _ => rfl

@[simp] theorem State.closeEntry_line_vc : ((s.closeEntry id).line i).vc = (s.line i).vc :=
  State.closeEntry_line_part s id i _ fun _ _ => rfl

@[simp] theorem State.closeEntry_line_apc : ((s.closeEntry id).line i).apc = (s.line i).apc :=
  State.closeEntry_line_part s id i _ fun _ _ => rfl

@[simp] theorem State.setSlot_line_vc (slot : LineNo) (a : Option Attach) :
    ((s.setSlot j slot a).line i).vc = (s.line i).vc := State.line_upd_part s j i _ _ fun _ => rfl

@[simp] theorem State.setSlot_line_apc (slot : LineNo) (a : Option Attach) :
    ((s.setSlot j slot a).line i).apc = (s.line i).apc := State.line_upd_part s j i _ _ fun _ => rfl

@[simp] theorem State.setSlot_line_fxc (slot : LineNo) (a : Option Attach) :
    ((s.setSlot j slot a).line i).fxc = (s.line i).fxc := State.line_upd_part s j i _ _ fun _ => rfl

/-! ## The Call Controller, the Tone Unit and the Line Interface clear (R27, R34) -/

@[simp] theorem State.freeAssigned_line : (s.freeAssigned j).line i = s.line i := rfl

@[simp] theorem State.closeClid_line_cc : ((s.closeClid j).line i).cc = (s.line i).cc := by
  unfold State.closeClid
  split
  · rfl
  · split <;> exact (State.endActs_line_cc ..).trans (State.updTu_line_cc ..)

@[simp] theorem State.closeClid_line_apc : ((s.closeClid j).line i).apc = (s.line i).apc := by
  unfold State.closeClid
  split
  · rfl
  · split <;> exact (State.endActs_line_apc ..).trans (State.updTu_line_apc ..)

@[simp] theorem State.closeClid_nu : (s.closeClid j).nu = s.nu := by
  unfold State.closeClid
  split
  · rfl
  · split <;> exact State.endActs_nu ..

/-- The window is closed. -/
@[simp] theorem State.closeClid_clid : ((s.closeClid i).line i).tu.clid = none := by
  have hclosed (w : ClidWindow) :
      (((s.updTu i fun t => { t with clid := none }).endActs i [.clid]).line i).tu.clid = none := by simp
  unfold State.closeClid
  split
  · next h => exact h
  · next w _ => split <;> exact hclosed w

@[simp] theorem State.release_line_cc : ((s.release j).line i).cc = (s.line i).cc := by
  unfold State.release; split <;> simp

@[simp] theorem State.release_line_apc : ((s.release j).line i).apc = (s.line i).apc := by
  unfold State.release; split <;> simp

@[simp] theorem State.release_line_tu : ((s.release j).line i).tu = (s.line i).tu := by
  unfold State.release; split <;> simp

@[simp] theorem State.release_nu : (s.release j).nu = s.nu := by
  unfold State.release; split <;> rfl

/-- A released line is ON_HOOK (R2). -/
@[simp] theorem State.release_hook : ((s.release i).line i).lif.hook = .onHook := by
  unfold State.release; split <;> simp [*]

@[simp] theorem State.toneClears_line_cc : ((s.toneClears j).line i).cc = (s.line i).cc := by simp [State.toneClears]

@[simp] theorem State.toneClears_line_apc : ((s.toneClears j).line i).apc = (s.line i).apc := by
  simp [State.toneClears]

@[simp] theorem State.toneClears_nu : (s.toneClears j).nu = s.nu := by simp [State.toneClears]

theorem State.toneClears_clid : ((s.toneClears i).line i).tu.clid = none := by simp [State.toneClears]

theorem State.toneClears_toneDue : ((s.toneClears i).line i).tu.toneDue = none := by simp [State.toneClears]

theorem State.toneClears_hook : ((s.toneClears i).line i).lif.hook = .onHook := by simp [State.toneClears]

theorem State.toneClears_abandon : ((s.toneClears i).line i).lif.abandon = .stopped := by simp [State.toneClears]

/-! ## The voice operation and the plan end (R144, R159) -/

@[simp] theorem State.closeOp_line_apc (r : VoiceOutcome) : ((s.closeOp j r).line i).apc = (s.line i).apc := by
  unfold State.closeOp; (repeat' split) <;> simp

/-- An operation that ends is gone. -/
@[simp] theorem State.closeOp_op (r : VoiceOutcome) : ((s.closeOp i r).line i).vc.op = none := by
  unfold State.closeOp
  split
  · next h => exact h
  · split <;> simp

@[simp] theorem State.finishOp_line_apc (r : VoiceOutcome) : ((s.finishOp j r).line i).apc = (s.line i).apc := by
  unfold State.finishOp; split <;> simp

@[simp] theorem State.finishOp_op (r : VoiceOutcome) : ((s.finishOp i r).line i).vc.op = none := by
  unfold State.finishOp
  split
  · next h => exact h
  · simp

@[simp] theorem State.stopOp_line_apc (r : VoiceOutcome) : ((s.stopOp j r).line i).apc = (s.line i).apc := by
  unfold State.stopOp State.digitTrim; (repeat' split) <;> simp

@[simp] theorem State.stopOp_op (r : VoiceOutcome) : ((s.stopOp i r).line i).vc.op = none := by
  unfold State.stopOp
  split
  · next h => exact h
  · split <;> simp

@[simp] theorem State.dropMessage_line_vc : ((s.dropMessage id).line i).vc = (s.line i).vc := by
  simp [State.dropMessage]

@[simp] theorem State.dropMessage_line_apc : ((s.dropMessage id).line i).apc = (s.line i).apc := by
  simp [State.dropMessage]

@[simp] theorem State.planOutcome_line_vc (r : PlanResult) : ((s.planOutcome j r).line i).vc = (s.line i).vc := by
  simp [State.planOutcome]

/-- Settling a message leaves the Voice Coder as it is. -/
@[simp] theorem State.settleMessage_line_vc : ((s.settleMessage j).1.line i).vc = (s.line i).vc := by
  unfold State.settleMessage
  split
  · rfl
  · dsimp only; (repeat' split) <;> simp <;> rfl

@[simp] theorem State.voiceClears_line_apc : ((s.voiceClears j).line i).apc = (s.line i).apc := by
  unfold State.voiceClears; (repeat' split) <;> simp

@[simp] theorem State.voiceClears_op : ((s.voiceClears i).line i).vc.op = none := by
  unfold State.voiceClears
  split
  · next h => exact h
  · dsimp only; split <;> simp

@[simp] theorem State.planRecordingEnds_op : ((s.planRecordingEnds i).line i).vc.op = none := by
  unfold State.planRecordingEnds
  split
  · dsimp only; split <;> simp
  · next h => simpa using h

@[simp] theorem State.planInactive_line_vc : ((s.planInactive j).line i).vc = (s.line i).vc := by
  simp [State.planInactive]

@[simp] theorem State.planInactive_plan : ((s.planInactive i).line i).apc.plan = .inactive := by
  simp [State.planInactive]

/-- Whatever the plan's state, no voice operation is left (R144). -/
theorem State.planClears_op : ((s.planClears i).line i).vc.op = none := by
  unfold State.planClears
  cases (s.line i).apc.plan with
  | faxHandoff => dsimp only; split <;> simp
  | inactive | waitRings | answering | greeting | mailboxWait | recording | dataHandoff | ending => simp

/-- The plan is INACTIVE at the end, but for one that has not answered (R159). -/
theorem State.planClears_plan (h : (s.line i).apc.plan ≠ .waitRings) :
    ((s.planClears i).line i).apc.plan = .inactive := by
  unfold State.planClears
  cases hplan : (s.line i).apc.plan with
  | waitRings => exact absurd hplan h
  | inactive => simpa using hplan
  | faxHandoff => dsimp only; split <;> simp
  | answering | greeting | mailboxWait | recording | dataHandoff | ending => simp

end

/-! ## The fax job ends (R114) -/

section
variable {α : Type} (s : State) (i j : LineNo) (g : Line → α)

/-- Closing a page touches the job and the windows alone of the lines. -/
theorem State.closePage_line_part (job : FaxJob) (id missing : Nat)
    (hjob : ∀ (l : Line) (f : Fxc), g { l with fxc := f } = g l)
    (hwindow : ∀ (l : Line) (w : Four (Option Attach)), g { l with window := w } = g l) :
    g ((s.closePage j job id missing).line i) = g (s.line i) :=
  (State.line_upd_part _ j i _ g fun l => hjob l _).trans (State.closeEntry_line_part _ id i g hwindow)

theorem State.closeIncomplete_line_part (hjob : ∀ (l : Line) (f : Fxc), g { l with fxc := f } = g l)
    (hwindow : ∀ (l : Line) (w : Four (Option Attach)), g { l with window := w } = g l) :
    g ((s.closeIncomplete j).line i) = g (s.line i) := by
  unfold State.closeIncomplete
  split
  · split
    · exact State.closePage_line_part s i j g _ _ _ hjob hwindow
    · rfl
  · rfl

theorem State.endJob_line_part (r : FaxOutcome) (hjob : ∀ (l : Line) (f : Fxc), g { l with fxc := f } = g l)
    (hwindow : ∀ (l : Line) (w : Four (Option Attach)), g { l with window := w } = g l) :
    g ((s.endJob j r).line i) = g (s.line i) :=
  ((State.line_upd_part _ j i _ g fun l => hwindow l _).trans (State.line_upd_part _ j i _ g fun l => hjob l _)).trans
    (State.closeIncomplete_line_part s i j g hjob hwindow)

theorem State.faxClears_line_part (hjob : ∀ (l : Line) (f : Fxc), g { l with fxc := f } = g l)
    (hwindow : ∀ (l : Line) (w : Four (Option Attach)), g { l with window := w } = g l) :
    g ((s.faxClears j).line i) = g (s.line i) := by
  unfold State.faxClears
  split
  · split
    · exact State.endJob_line_part s i j g _ hjob hwindow
    · exact State.line_upd_part s j i _ g fun l => hjob l _
  · exact State.line_upd_part s j i _ g fun l => hjob l _

end

section
variable (s : State) (i : LineNo)

theorem State.faxClears_line_vc : ((s.faxClears i).line i).vc = (s.line i).vc :=
  State.faxClears_line_part s i i _ (fun _ _ => rfl) fun _ _ => rfl

theorem State.faxClears_line_apc : ((s.faxClears i).line i).apc = (s.line i).apc :=
  State.faxClears_line_part s i i _ (fun _ _ => rfl) fun _ _ => rfl

/-- A job that ends has its outcome (R113). -/
theorem State.endJob_outcome {r : FaxOutcome} {job : FaxJob} (h : ((s.endJob i r).line i).fxc.job = some job) :
    job.outcome = some r := by
  have hmap : ((s.endJob i r).line i).fxc.job =
      ((s.closeIncomplete i).line i).fxc.job.map fun j => { j with outcome := some r, phase := .ended } := by
    simp [State.endJob]
  obtain ⟨j, -, rfl⟩ := Option.map_eq_some_iff.1 (hmap.symm.trans h)
  rfl

/-- A job that clearing leaves has an outcome: its own, or CLEARED (R114). -/
theorem State.faxClears_outcome {job : FaxJob} (h : ((s.faxClears i).line i).fxc.job = some job) :
    job.outcome.isSome := by
  unfold State.faxClears at h
  split at h
  · next j hj =>
    split at h
    · rw [State.endJob_outcome s i h]; rfl
    · next hended =>
      obtain rfl : j = job := by simpa [hj] using h
      exact Option.isSome_iff_ne_none.2 hended
  · next hnone => simp [hnone] at h

/-! ## The link and the holding are released (R60, R63, R96) -/

/-- The link is off and its send side empty (R96). -/
theorem State.linkClears_blc :
    ((s.linkClears i).line i).blc =
      { ({} : Blc) with
        rx := if (s.line i).blc.hold then [] else (s.line i).blc.rx, hold := (s.line i).blc.hold } := by
  simp [State.linkClears]

theorem State.linkClears_line_dp : ((s.linkClears i).line i).dp = (s.line i).dp := by simp [State.linkClears]

theorem State.linkClears_line_fxc : ((s.linkClears i).line i).fxc = (s.line i).fxc := by simp [State.linkClears]

theorem State.linkClears_line_vc : ((s.linkClears i).line i).vc = (s.line i).vc := by simp [State.linkClears]

theorem State.linkClears_line_apc : ((s.linkClears i).line i).apc = (s.line i).apc := by simp [State.linkClears]

theorem State.budgetClears_line : (s.budgetClears i).line i = { s.line i with acts := [] } := by
  have hdrop : (s.budgetClears i).line i =
      ((s.upd i fun l => { l with acts := [] }).dropPending i).line i := rfl
  rw [hdrop, State.dropPending_line, State.line_upd_self]

@[simp] theorem State.budgetClears_nu : (s.budgetClears i).nu = s.nu := by
  have hdrop : (s.budgetClears i).nu = ((s.upd i fun l => { l with acts := [] }).dropPending i).nu := rfl
  rw [hdrop, State.dropPending_nu, State.upd_nu]

@[simp] theorem State.budgetClears_callPart : (s.budgetClears i).callPart i = s.callPart i :=
  State.callPart_congr (by rw [State.budgetClears_line]; rfl) (by rw [State.budgetClears_nu])

/-- No admission of the line is left on the list (R61). -/
theorem State.dropPending_hasPending : (s.dropPending i).hasPending i = false := by
  unfold State.dropPending
  split
  · simp [State.hasPending]
  · next h => simpa using h

theorem State.budgetClears_hasPending : (s.budgetClears i).hasPending i = false :=
  State.dropPending_hasPending (s.upd i fun l => { l with acts := [] }) i

/-- No reclaim on the line is left in flight (R63). -/
theorem State.budgetClears_reclaim {r : Reclaim} (h : (s.budgetClears i).bm.reclaim = some r) : r.victim ≠ i := by
  simp only [State.budgetClears] at h
  split at h
  · split at h
    · simp at h
    · next hvictim =>
      obtain rfl := Option.some.inj h
      exact hvictim
  · simp at h

/-! ## Clearing (R34) -/

/-- The state once the Call Controller, the Tone Unit and the Line Interface have cleared (R34). -/
def State.callCleared (r : EndReason) : State :=
  (if (s.line i).cc.outcome = .glare ∧ (s.line i).cc.state = .seized then s.ccClears i r
    else (s.ccClears i r).freeAssigned i).toneClears i

/-- Clearing goes on from there with plan, job, pump, link and budget. -/
theorem State.clearWith_eq (r : EndReason) :
    s.clearWith i r =
      ((((((s.callCleared i r).planClears i).faxClears i).updDp i fun _ => {}).linkClears i).budgetClears i) := rfl

@[simp] theorem State.ccClears_nu (r : EndReason) : (s.ccClears i r).nu = s.nu := rfl

@[simp] theorem State.freeAssigned_nu : (s.freeAssigned i).nu = s.nu := rfl

/-- The Call Controller of a cleared call: the reason and the seconds fixed, the causes gone, the guard running (R34). -/
theorem State.ccClears_cc (r : EndReason) :
    ((s.ccClears i r).line i).cc =
      { (s.line i).cc with
        state := .clearing, endReason := some r, connSecs := s.connectedSeconds i, causes := []
        guardDue := some (s.now + 1000), elem := .none, dialToneDue := none, answerDue := none, settleDue := none
        ringbackDue := none, ringbackHeld := false, drainDue := none } := by
  simp [State.ccClears]

theorem State.callCleared_nu (r : EndReason) : (s.callCleared i r).nu = s.nu := by
  unfold State.callCleared; split <;> simp

theorem State.callCleared_cc (r : EndReason) : ((s.callCleared i r).line i).cc = ((s.ccClears i r).line i).cc := by
  unfold State.callCleared; split <;> simp

theorem State.callCleared_line_apc (r : EndReason) : ((s.callCleared i r).line i).apc = (s.line i).apc := by
  unfold State.callCleared; split <;> simp [State.ccClears]

/-- The Tone Unit and the Line Interface are last to clear. -/
theorem State.callCleared_toneClears (r : EndReason) : ∃ t : State, s.callCleared i r = t.toneClears i := ⟨_, rfl⟩

/-- The blocks that act after the Line Interface leave the call as it is cleared. -/
theorem State.clearWith_callPart (r : EndReason) : (s.clearWith i r).callPart i = (s.callCleared i r).callPart i := by
  simp [State.clearWith_eq]

/-- What clearing leaves in the blocks of the line that act after the Line Interface (R60, R81, R96, R114, R144, R159). -/
theorem State.clearWith_line (r : EndReason) :
    let l' := (s.clearWith i r).line i
    l'.acts = [] ∧ l'.dp = {} ∧ l'.blc.link = .off ∧ l'.blc.tx = [] ∧ l'.blc.unacked = [] ∧ l'.vc.op = none
      ∧ ((s.line i).apc.plan ≠ .waitRings → l'.apc.plan = .inactive)
      ∧ ∀ j, l'.fxc.job = some j → j.outcome.isSome := by
  intro l'
  have hl' : l' = { (((((s.callCleared i r).planClears i).faxClears i).updDp i fun _ => {}).linkClears i).line i with
      acts := [] } := by
    rw [← State.budgetClears_line, ← State.clearWith_eq]
  rw [hl']
  refine ⟨rfl, ?pump, ?link, ?tx, ?unacked, ?operation, fun h => ?plan, fun j hj => ?job⟩
  case pump => simp [State.linkClears_line_dp]
  case link => simp [State.linkClears_blc]
  case tx => simp [State.linkClears_blc]
  case unacked => simp [State.linkClears_blc]
  case operation => simp [State.linkClears_line_vc, State.faxClears_line_vc, State.planClears_op]
  case plan =>
    have hplan := State.planClears_plan (s.callCleared i r) i (by rwa [State.callCleared_line_apc])
    simp [State.linkClears_line_apc, State.faxClears_line_apc, hplan]
  case job =>
    refine State.faxClears_outcome ((s.callCleared i r).planClears i) i ?_
    simpa [State.linkClears_line_fxc] using hj

/-- In a call clearing starts with the end reason of the highest-ranked cause, and CLRD is raised (R34). -/
theorem State.startClearing_of_inCall (h : (s.line i).cc.state.inCall = true) :
    s.startClearing i = (s.clearWith i (endReasonOf (s.line i).cc.causes)).raise .clrd i := if_pos h

/-- CLRD is raised by clearing. -/
theorem State.clearWith_raise_clrd (r : EndReason) (h : s.nu.flags.length = 19) :
    ((s.clearWith i r).raise .clrd i).flag .clrd i = true := by
  obtain ⟨-, -, -, hlength⟩ := State.callPart_eq (State.clearWith_callPart s i r)
  refine State.flag_setFlag_self _ _ _ _ ?_
  rw [hlength, State.callCleared_nu, h]
  decide

end

/-! ## The settled obligation -/

/-- Settles O27: the Call Controller as `ccClears` leaves it, the Tone Unit and the Line Interface as `toneClears` leaves
them, the other blocks by `clearWith_line`, admissions and reclaim by `budgetClears`. -/
theorem clearingEndsTheCall : Obligations.ClearingEndsTheCall := by
  intro s i hflags u l l'
  refine ⟨fun h => if_neg (by simp [l] at h; simp [h]), fun h => ?inCall⟩
  case inCall =>
    have hu : u = (s.clearWith i (endReasonOf l.cc.causes)).raise .clrd i := State.startClearing_of_inCall s i h
    have hl' : l' = (s.clearWith i (endReasonOf l.cc.causes)).line i := by show u.line i = _; rw [hu]; rfl
    obtain ⟨hlif, hcc, htu, -⟩ := State.callPart_eq (State.clearWith_callPart s i (endReasonOf l.cc.causes))
    rw [State.callCleared_cc, State.ccClears_cc] at hcc
    obtain ⟨t, ht⟩ := State.callCleared_toneClears s i (endReasonOf l.cc.causes)
    rw [ht] at hlif htu
    obtain ⟨hacts, hdp, hlink, htx, hunacked, hop, hplan, hjob⟩ := State.clearWith_line s i (endReasonOf l.cc.causes)
    rw [← hl'] at hlif hcc htu hacts hdp hlink htx hunacked hop hplan hjob
    refine ⟨congrArg Cc.state hcc, congrArg Cc.endReason hcc, congrArg Cc.connSecs hcc, congrArg Cc.causes hcc,
      congrArg Cc.guardDue hcc, ?hook, ?abandon, hacts, hdp, hlink, htx, hunacked, hop, ?clid, ?toneDue, hplan, hjob,
      ?pending, fun r hr => ?reclaim, ?clrd⟩
    case hook => rw [hlif]; exact State.toneClears_hook t i
    case abandon => rw [hlif]; exact State.toneClears_abandon t i
    case clid => rw [htu]; exact State.toneClears_clid t i
    case toneDue => rw [htu]; exact State.toneClears_toneDue t i
    case pending => rw [hu]; exact State.budgetClears_hasPending _ i
    case reclaim =>
      rw [hu] at hr
      exact State.budgetClears_reclaim _ i hr
    case clrd => rw [hu]; exact State.clearWith_raise_clrd s i _ hflags

end Sys2Proof.Machine
end

section
/-! PROOFS. The line groups, the call queue and the requests of the Caller Table (chapter 3): O28, O29. The states of a
group and the choice of a line, the entries of the queue, the requests case by case, then the obligations. -/

namespace Sys2Proof.Machine

open Sys2Proof

/-! ## Group states (R38) -/

theorem mem_lineNos (i : LineNo) : i ∈ lineNos := by revert i; decide

/-- Four things are the same where each of them is. -/
theorem Four.ext_get {α : Type} {x y : Four α} (h : ∀ i, x.get i = y.get i) : x = y :=
  Four.ext (h 0) (h 1) (h 2) (h 3)

section
variable (s : State) (g : LineNo)

/-- The state of a group by what its members are, in the order of R38. -/
theorem State.groupStateOf_eq :
    s.groupStateOf g =
      if ∀ i, s.member g i = false then .empty
      else if ∀ i, s.member g i = true → (s.line i).lif.service ≠ .outOfService then .active
      else if ∀ i, s.member g i = true → (s.line i).lif.service = .outOfService then .down
      else .degraded := by
  have hempty : (lineNos.filter fun i => s.member g i).isEmpty = true ↔ ∀ i, s.member g i = false := by
    simp [List.filter_eq_nil_iff, mem_lineNos]
  have hin : ((lineNos.filter fun i => s.member g i).filter fun i =>
      (s.line i).lif.service == .outOfService).isEmpty = true ↔
        ∀ i, s.member g i = true → (s.line i).lif.service ≠ .outOfService := by
    rw [List.isEmpty_iff, List.filter_eq_nil_iff]; simp [mem_lineNos]
  have hout : ((lineNos.filter fun i => s.member g i).filter fun i =>
      (s.line i).lif.service == .outOfService).length = (lineNos.filter fun i => s.member g i).length ↔
        ∀ i, s.member g i = true → (s.line i).lif.service = .outOfService := by
    rw [List.length_filter_eq_length_iff]; simp [mem_lineNos]
  simp only [State.groupStateOf, hempty, hin, hout]

theorem State.groupStateOf_eq_empty : s.groupStateOf g = .empty ↔ ∀ i, s.member g i = false := by
  rw [State.groupStateOf_eq]
  split
  · next h => exact iff_of_true rfl h
  · next h => exact iff_of_false (by (repeat' split) <;> decide) h

theorem State.groupStateOf_eq_active :
    s.groupStateOf g = .active ↔
      (∃ i, s.member g i = true) ∧ ∀ i, s.member g i = true → (s.line i).lif.service ≠ .outOfService := by
  rw [State.groupStateOf_eq]
  by_cases hnone : ∀ i, s.member g i = false
  · simp [hnone]
  · have hsome : ∃ i, s.member g i = true := by simpa using hnone
    rw [if_neg hnone, and_iff_right hsome]
    split
    · next h => exact iff_of_true rfl h
    · next h => exact iff_of_false (by split <;> decide) h

theorem State.groupStateOf_eq_down :
    s.groupStateOf g = .down ↔
      (∃ i, s.member g i = true) ∧ ∀ i, s.member g i = true → (s.line i).lif.service = .outOfService := by
  rw [State.groupStateOf_eq]
  by_cases hnone : ∀ i, s.member g i = false
  · simp [hnone]
  · have hsome : ∃ i, s.member g i = true := by simpa using hnone
    rw [if_neg hnone, and_iff_right hsome]
    obtain ⟨i, hi⟩ := hsome
    split
    · next hin => exact iff_of_false (by decide) fun hout => hin i hi (hout i hi)
    · split
      · next h => exact iff_of_true rfl h
      · next h => exact iff_of_false (by decide) h

end

/-- The four group states that the service states make. -/
def State.groupStates (s : State) : Four GroupState :=
  ⟨s.groupStateOf 0, s.groupStateOf 1, s.groupStateOf 2, s.groupStateOf 3⟩

@[simp] theorem State.groupStates_get (s : State) (g : LineNo) : s.groupStates.get g = s.groupStateOf g := by
  fin_cases g <;> rfl

theorem State.groupStates_eq_iff (s : State) :
    s.groupStates = s.gd.groupState ↔ ∀ h, s.groupStateOf h = s.gd.groupState.get h := by
  refine ⟨fun e h => ?_, fun h => Four.ext_get fun i => ?_⟩
  · rw [← e, State.groupStates_get]
  · rw [State.groupStates_get, h]

theorem State.recomputeGroups_of_same {s : State} (h : s.groupStates = s.gd.groupState) : s.recomputeGroups = s :=
  if_pos h

theorem State.recomputeGroups_of_changed {s : State} (h : s.groupStates ≠ s.gd.groupState) :
    s.recomputeGroups = ({ s with gd := { s.gd with groupState := s.groupStates } } : State).raisePart .grup :=
  if_neg h

theorem State.recomputeGroups_groupState (s : State) (g : LineNo) :
    s.recomputeGroups.gd.groupState.get g = s.groupStateOf g := by
  rw [← State.groupStates_get]
  by_cases h : s.groupStates = s.gd.groupState
  · rw [State.recomputeGroups_of_same h, h]
  · rw [State.recomputeGroups_of_changed h]; rfl

/-- GRUP is raised exactly where a state changes (R38). -/
theorem State.recomputeGroups_flag_grup (s : State) (hflags : s.nu.flags.length = 19) :
    s.recomputeGroups.flag .grup 0 =
      (s.flag .grup 0 || decide (∃ h, s.groupStateOf h ≠ s.gd.groupState.get h)) := by
  have hchange : (∃ h, s.groupStateOf h ≠ s.gd.groupState.get h) ↔ s.groupStates ≠ s.gd.groupState := by
    rw [ne_eq, State.groupStates_eq_iff, not_forall]
  by_cases h : s.groupStates = s.gd.groupState
  · rw [State.recomputeGroups_of_same h, decide_eq_false (by rw [hchange]; exact not_not.2 h), Bool.or_false]
  · rw [State.recomputeGroups_of_changed h, decide_eq_true (hchange.2 h), Bool.or_true]
    exact State.flag_setFlag_self _ _ _ _ (by simp [hflags, Notice.idx])

/-! ## The choice of a line and its dispatch (R39, R42) -/

theorem State.eligible_iff (s : State) (g i : LineNo) :
    s.eligible g i = true ↔ s.member g i = true ∧ (s.line i).lif.service = .inService
      ∧ (s.line i).cc.state = .idle ∧ 6 ≤ s.free := by
  have hcost : Activity.callProgress.cost = 6 := rfl
  simp only [State.eligible, Bool.and_eq_true, beq_iff_eq, decide_eq_true_eq, and_assoc, hcost]

/-- The scan comes to every line, the pointer's own last. -/
theorem mem_scanAfter (p i : LineNo) : i ∈ scanAfter p := by revert p i; decide

/-- It comes to them in the order of their cyclic distance from the line after the pointer. -/
theorem scanAfter_pairwise (p : LineNo) : (scanAfter p).Pairwise fun i j => i - p - 1 < j - p - 1 := by
  revert p; decide

theorem State.chooseLine_eq_some {s : State} {g i : LineNo} (h : s.chooseLine g = some i) :
    s.eligible g i = true
      ∧ ∀ j : LineNo, j - s.gd.rotation.get g - 1 < i - s.gd.rotation.get g - 1 → s.eligible g j = false := by
  obtain ⟨hi, before, after, hscan, hbefore⟩ := List.find?_eq_some_iff_append.1 h
  refine ⟨hi, fun j hj => ?_⟩
  have hmem := mem_scanAfter (s.gd.rotation.get g) j
  have hsorted := scanAfter_pairwise (s.gd.rotation.get g)
  rw [hscan] at hmem hsorted
  obtain ⟨-, hrest, -⟩ := List.pairwise_append.1 hsorted
  obtain hb | hafter := List.mem_append.1 hmem
  · simpa using hbefore j hb
  · obtain rfl | hlater := List.mem_cons.1 hafter
    · exact absurd hj (lt_irrefl _)
    · exact absurd hj (lt_asymm (List.rel_of_pairwise_cons hrest hlater))

theorem State.chooseLine_eq_none {s : State} {g : LineNo} (h : s.chooseLine g = none) (i : LineNo) :
    s.eligible g i = false := by
  simpa using List.find?_eq_none.1 h i (mem_scanAfter _ i)

/-- A queue event leaves the groups and the queue as they are. -/
@[simp] theorem State.recordEvent_gd (s : State) (e : QEvent) : (s.recordEvent e).gd = s.gd := by
  unfold State.recordEvent; split <;> rfl

@[simp] theorem State.seize_gd (s : State) (i : LineNo) : (s.seize i).gd = s.gd := by
  unfold State.seize; split <;> rfl

@[simp] theorem State.enterSeized_gd (s : State) (i : LineNo) (kind : CallKind) (dial : List DialElem) (m : DialMethod)
    (conn : Option Conn) : (s.enterSeized i kind dial m conn).gd = s.gd := by
  simp [State.enterSeized, State.addActs]

/-- The pointer of the call's group moves to the line (R39). -/
@[simp] theorem State.dispatchTo_gd (s : State) (c : GroupCall) (i : LineNo) (k : Nat) :
    (s.dispatchTo c i k).gd = { s.gd with rotation := s.gd.rotation.set c.group i } := by
  simp [State.dispatchTo]

/-! ## Dispatch events and GLARE (R43, R46) -/

theorem State.queuedRec_of_queued {s : State} {k : Nat} {r : EntryRec} (h : s.gd.recs[k]? = some r)
    (hst : r.st = .queued) : s.queuedRec k = some r := by
  simp only [State.queuedRec, h, if_pos hst]

theorem State.queuedRec_of_other {s : State} {k : Nat} {r : EntryRec} (h : s.gd.recs[k]? = some r)
    (hst : r.st ≠ .queued) : s.queuedRec k = none := by
  simp only [State.queuedRec, h, if_neg hst]

/-- Line `i` can take entry `k`: the entry is queued and the line eligible for its call. -/
def State.canTakeEntry (s : State) (i : LineNo) (k : Nat) : Bool :=
  match s.queuedRec k with
  | some r => s.eligible r.call.group i
  | none => false

theorem State.canTakeEntry_of_queued {s : State} (i : LineNo) {k : Nat} {r : EntryRec} (h : s.queuedRec k = some r) :
    s.canTakeEntry i k = s.eligible r.call.group i := by
  simp only [State.canTakeEntry, h]

theorem State.canTakeEntry_eq_false {s : State} {i : LineNo} {k : Nat}
    (h : ∀ q, s.queuedRec k = some q → s.eligible q.call.group i = false) : s.canTakeEntry i k = false := by
  cases hk : s.queuedRec k with
  | none => simp only [State.canTakeEntry, hk]
  | some q => rw [State.canTakeEntry_of_queued i hk, h q hk]

/-- A dispatch event at a line is for the first entry of the queue that the line can take (R43). -/
theorem State.lineEvent_of_found {s : State} {i : LineNo} {k : Nat} {r : EntryRec}
    (hfind : s.gd.queue.find? (s.canTakeEntry i) = some k) (hrec : s.queuedRec k = some r) :
    s.lineEvent i = s.dispatchEntry k r i := by
  simp only [State.lineEvent]
  split
  · next hnone => exact absurd (hfind.symm.trans hnone) (Option.some_ne_none k)
  · next k' hk' =>
    obtain rfl : k = k' := Option.some.inj (hfind.symm.trans hk')
    simp only [hrec]

theorem State.lineEvent_of_notFound {s : State} {i : LineNo} (hfind : s.gd.queue.find? (s.canTakeEntry i) = none) :
    s.lineEvent i = s := by
  simp only [State.lineEvent]
  split
  · rfl
  · next k hk => exact absurd (hk.symm.trans hfind) (Option.some_ne_none k)

theorem State.lineEvent_dispatches {s : State} {i : LineNo} {a b : List Nat} {k : Nat} {r : EntryRec}
    (hqueue : s.gd.queue = a ++ k :: b) (hrec : s.queuedRec k = some r) (hline : s.eligible r.call.group i = true)
    (hbefore : ∀ x ∈ a, ∀ q, s.queuedRec x = some q → s.eligible q.call.group i = false) :
    s.lineEvent i = s.dispatchEntry k r i := by
  refine State.lineEvent_of_found (List.find?_eq_some_iff_append.2 ⟨?_, a, b, hqueue, fun x hx => ?_⟩) hrec
  · rw [State.canTakeEntry_of_queued i hrec, hline]
  · rw [State.canTakeEntry_eq_false (hbefore x hx)]; rfl

theorem State.lineEvent_of_noEntry {s : State} {i : LineNo}
    (h : ∀ x ∈ s.gd.queue, ∀ q, s.queuedRec x = some q → s.eligible q.call.group i = false) : s.lineEvent i = s :=
  State.lineEvent_of_notFound (List.find?_eq_none.2 fun x hx => by simp [State.canTakeEntry_eq_false (h x hx)])

section
variable {s : State} {i : LineNo}

theorem State.glareReturn_of_unassigned (h : s.assignedTo i = none) : s.glareReturn i = s := by
  simp only [State.glareReturn, h]

variable {k : Nat} {r : EntryRec} (hline : s.assignedTo i = some k) (hrec : s.gd.recs[k]? = some r)
include hline hrec

/-- Before its expiry time the record goes back to the head of the queue and is offered a line (R46). -/
theorem State.glareReturn_requeues (h : s.now < r.expiry) :
    s.glareReturn i =
      (({ s with gd := { s.gd with recs := s.gd.recs.set k { r with st := .queued }, queue := k :: s.gd.queue } } :
        State).recordEvent { kind := .glareRequeued, entry := k, tag := r.call.tag, line := none }).offerEntry k := by
  simp only [State.glareReturn, hline, hrec, if_pos h]; rfl

/-- At or past it the record is freed (R46). -/
theorem State.glareReturn_expires (h : r.expiry ≤ s.now) :
    s.glareReturn i =
      (s.setRec k {}).recordEvent { kind := .expired, entry := k, tag := r.call.tag, line := none } := by
  simp only [State.glareReturn, hline, hrec, if_neg (not_lt.2 h)]

end

/-- What the walk of the queue does for one entry: it is dispatched to a line where it is queued and one is found
(R43). -/
theorem State.offerEntry_of_queued {s : State} {k : Nat} {r : EntryRec} (h : s.queuedRec k = some r) :
    s.offerEntry k = match s.chooseLine r.call.group with
      | some j => s.dispatchEntry k r j
      | none => s := by
  simp only [State.offerEntry, h]
  cases s.chooseLine r.call.group <;> rfl

theorem State.offerEntry_of_notQueued {s : State} {k : Nat} (h : s.queuedRec k = none) : s.offerEntry k = s := by
  simp only [State.offerEntry, h]

/-! ## QUEUE_ENTRY_EXPIRY and CNCL (R44, R45) -/

theorem execQueueEntryExpiry_of_queued {s : State} {n : Fin 8} {r : EntryRec} (hp : s.phase = .running)
    (h : s.queuedRec n = some r) :
    execQueueEntryExpiry n s = .next ((s.reach r.expiry).entryExpires n r).settle := by
  simp only [execQueueEntryExpiry, react_running hp, h]

theorem execQueueEntryExpiry_of_notQueued {s : State} {n : Fin 8} (hp : s.phase = .running)
    (h : s.queuedRec n = none) : execQueueEntryExpiry n s = .next s.settle := by
  simp only [execQueueEntryExpiry, react_running hp, h]

theorem takeCncl_of_noNumber (s : State) {n : Nat} (h : 8 ≤ n) : takeCncl s 15 n = refuse s .badArgument := if_pos h

theorem takeCncl_of_queued {s : State} {n : Nat} {r : EntryRec} (hn : n < 8) (h : s.queuedRec n = some r) :
    takeCncl s 15 n =
      okWith { s with gd := { s.gd with
        queue := s.gd.queue.filter (fun x => x != n), recs := s.gd.recs.set n {} } } [] := by
  simp only [takeCncl, onPart, if_true, if_neg (not_le.2 hn), h]; rfl

theorem takeCncl_of_notQueued {s : State} {n : Nat} (hn : n < 8) (h : s.queuedRec n = none) :
    takeCncl s 15 n = refuse s .notFound := by
  simp only [takeCncl, onPart, if_true, if_neg (not_le.2 hn), h]

/-! ## The requests of the Caller Table (R52, R53) -/

section
variable (s : State) {number label : List Byte} {cls : Nat} {c : CallerClass} (hcls : CallerClass.ofEntry cls = some c)
  (hnumber : goodNumber number = true) (hlabel : goodLabel label = true)

include hcls hnumber hlabel

/-- CTAD of good form with the position it sets or places (R52). -/
theorem takeCtad_of_placed {t : Ct} {k : Nat} (h : s.ct.addEntry number c label = some (t, k)) :
    takeCtad s 15 number cls label = okWith { s with ct := t } (be1 k) := by
  simp only [takeCtad, onPart, if_true, hcls, if_pos (And.intro hnumber hlabel), h]

theorem takeCtad_of_full (h : s.ct.addEntry number c label = none) :
    takeCtad s 15 number cls label = refuse s .directoryFull := by
  simp only [takeCtad, onPart, if_true, hcls, if_pos (And.intro hnumber hlabel), h]

end

theorem takeCtad_of_bad (s : State) {number label : List Byte} {cls : Nat}
    (h : CallerClass.ofEntry cls = none ∨ goodNumber number = false ∨ goodLabel label = false) :
    takeCtad s 15 number cls label = refuse s .badArgument := by
  simp only [takeCtad, onPart, if_true]
  cases hcls : CallerClass.ofEntry cls with
  | none => rfl
  | some c =>
    have hform : ¬ (goodNumber number = true ∧ goodLabel label = true) := by
      rintro ⟨hnumber, hlabel⟩; simp [hcls, hnumber, hlabel] at h
    simp only [if_neg hform]

theorem takeCtdl_of_noPosition (s : State) {k : Nat} (h : 32 ≤ k) : takeCtdl s 15 k = refuse s .badArgument := if_pos h

theorem takeCtdl_of_used {s : State} {k : Nat} {e : CtEntry} (hk : k < 32) (h : s.ct.used k = some e) :
    takeCtdl s 15 k = okWith { s with ct := s.ct.put k none } [] := by
  simp only [takeCtdl, onPart, if_true, Config.tableSize, if_neg (not_le.2 hk), h]

theorem takeCtdl_of_free {s : State} {k : Nat} (hk : k < 32) (h : s.ct.used k = none) :
    takeCtdl s 15 k = refuse s .notFound := by
  simp only [takeCtdl, onPart, if_true, Config.tableSize, if_neg (not_le.2 hk), h]

theorem takeCtrd_of_noPosition (s : State) {k : Nat} (h : 32 ≤ k) : takeCtrd s 15 k = refuse s .badArgument := if_pos h

theorem takeCtrd_of_position (s : State) {k : Nat} (h : k < 32) :
    takeCtrd s 15 k = okWith s (be4 s.ct.ordinal ++ be1 ((s.ct.from k).take 8).length
      ++ (((s.ct.from k).take 8).flatMap fun x => CtEntry.bytes x.1 x.2) ++ be1 (nextAfter 8 32 (s.ct.from k))) :=
  if_neg (not_le.2 h)

/-! ## The settled obligations -/

/-- Settles O28: CNCL by the number and the state of the record it names. -/
theorem cnclWithdrawsAQueuedCall : Obligations.CnclWithdrawsAQueuedCall := by
  intro s tag n hs _
  refine ⟨fun h => ?noNumber, fun r hn hrec hst => ?queued, fun r hn hrec hst => ?notQueued⟩
  case noNumber => exact hostRecord_refuses hs (takeCncl_of_noNumber s h)
  case queued => exact hostRecord_answers hs (takeCncl_of_queued hn (State.queuedRec_of_queued hrec hst))
  case notQueued => exact hostRecord_refuses hs (takeCncl_of_notQueued hn (State.queuedRec_of_other hrec hst))

/-- Settles O29: the expiry by the record it names, each request of the Caller Table by the lemma about its taking, the
groups by the state of their members and the scan, the queue by `lineEvent` and `glareReturn`. -/
theorem queueExpiryAndCallerTableRequests : Obligations.QueueExpiryAndCallerTableRequests := by
  refine ⟨fun s n hp => ⟨fun r hr => ?expires, fun hr => ?stopped⟩,
    fun s tag hs => ⟨fun number cls label c hcls hnumber hlabel => ?ctad, fun k e hk he => ?ctdl, fun k hk => ?ctrd,
      fun number cls label hbad => ?ctadBad, fun k hk => ?noPosition, fun k hk he => ?ctdlFree⟩,
    fun s g hflags => ?groups, fun s i => ?queue⟩
  case expires => exact execQueueEntryExpiry_of_queued hp hr
  case stopped => exact execQueueEntryExpiry_of_notQueued hp hr
  case ctad =>
    cases h : s.ct.addEntry number c label with
    | none => exact hostRecord_refuses hs (takeCtad_of_full s hcls hnumber hlabel h)
    | some x => exact hostRecord_answers hs (takeCtad_of_placed s hcls hnumber hlabel h)
  case ctadBad => exact hostRecord_refuses hs (takeCtad_of_bad s hbad)
  case ctdl => exact hostRecord_answers hs (takeCtdl_of_used hk he)
  case ctdlFree => exact hostRecord_refuses hs (takeCtdl_of_free hk he)
  case ctrd => exact hostRecord_answers hs (takeCtrd_of_position s hk)
  case noPosition =>
    exact ⟨hostRecord_refuses hs (takeCtdl_of_noPosition s hk), hostRecord_refuses hs (takeCtrd_of_noPosition s hk)⟩
  case groups =>
    exact ⟨s.groupStateOf_eq_empty g, s.groupStateOf_eq_active g, s.groupStateOf_eq_down g,
      s.recomputeGroups_groupState g, s.recomputeGroups_flag_grup hflags, fun i => State.chooseLine_eq_some,
      State.chooseLine_eq_none, s.eligible_iff g, fun c i k => by simp⟩
  case queue =>
    refine ⟨fun a k r b => State.lineEvent_dispatches, State.lineEvent_of_noEntry, ?walk,
      State.glareReturn_of_unassigned, fun k r hline hrec => ⟨State.glareReturn_requeues hline hrec,
        State.glareReturn_expires hline hrec⟩, fun e => rfl⟩
    case walk =>
      refine congrArg (fun f => s.gd.queue.foldl f s) (funext fun t => funext fun k => ?_)
      cases hk : t.queuedRec k with
      | none => exact State.offerEntry_of_notQueued hk
      | some r => exact State.offerEntry_of_queued hk

end Sys2Proof.Machine
end

section
/-! PROOFS. The Processing Budget (chapter 4): O30. A pending admission that fails and the fields of BUDG, the rounds of
the hand-out, the choice of a victim and the reclaim, then the obligation. -/

namespace Sys2Proof.Machine

open Sys2Proof

/-! ## PENDING_TIMER_EXPIRY and BUDG (R61, R65) -/

/-- What an admission that leaves the list does to the Budget Manager (R61, R63, log 72). -/
theorem State.dropPending_of_pending {s : State} {i : LineNo} (h : s.hasPending i = true) :
    s.dropPending i = { s with bm := { s.bm with
      plist := s.bm.plist.filter fun q => q.line != i
      reclaim := s.bm.reclaim.map fun r : Reclaim => if r.madeFor = some i then { r with madeFor := none } else r
      due := true } } := if_pos h

theorem State.hasPending_eq_false {s : State} {i : LineNo} :
    s.hasPending i = false ↔ (s.bm.plist.find? fun q => q.line == i) = none := by
  simp [State.hasPending]

theorem State.hasPending_of_found {s : State} {i : LineNo} {p : Pending}
    (h : (s.bm.plist.find? fun q => q.line == i) = some p) : s.hasPending i = true :=
  List.any_eq_true.2 ⟨p, List.mem_of_find?_eq_some h, List.find?_some (p := fun q : Pending => q.line == i) h⟩

theorem execPendingTimerExpiry_of_pending {s : State} {i : LineNo} {p : Pending} (hp : s.phase = .running)
    (h : (s.bm.plist.find? fun q => q.line == i) = some p) :
    execPendingTimerExpiry i s = .next (s.pendingFails p).settle := by
  simp only [execPendingTimerExpiry, react_running hp, h]

theorem execPendingTimerExpiry_of_notPending {s : State} {i : LineNo} (hp : s.phase = .running)
    (h : (s.bm.plist.find? fun q => q.line == i) = none) : execPendingTimerExpiry i s = .next s.settle := by
  simp only [execPendingTimerExpiry, react_running hp, h]

/-- The failure of the admission of line `i` (R61). -/
theorem State.pendingFails_eq {s : State} {i : LineNo} {p : Pending}
    (h : (s.bm.plist.find? fun q => q.line == i) = some p) :
    s.pendingFails p = (({ s with
      now := max s.now p.due
      bm := { s.bm with
        plist := s.bm.plist.filter fun q => q.line != i
        reclaim := s.bm.reclaim.map fun r : Reclaim => if r.madeFor = some i then { r with madeFor := none } else r
        due := true } } : State)).failTo i p.requester := by
  obtain rfl : p.line = i := by simpa using List.find?_some h
  have hpend : (s.reach p.due).hasPending p.line = true := State.hasPending_of_found h
  rw [State.pendingFails, State.dropPending_of_pending hpend]
  rfl

theorem State.budgFields_eq (s : State) :
    s.budgFields = be1 120 ++ be1 (120 - s.held)
      ++ (lineNos.flatMap fun i => be1 (s.holding i) ++ be1 (s.precedence i)) ++ be1 s.handOutOrder.length
      ++ (s.handOutOrder.flatMap fun p => be1 p.line.val ++ be1 p.requirement ++ be2 (min 2000 (s.now - p.joined)))
      ++ (match s.bm.reclaim with
          | some r => be1 r.victim.val ++ be1 r.clsAt.code ++ be1? (r.madeFor.map (·.val)) ++ be4 (s.now - r.time)
          | none => be1 255 ++ be1 255 ++ be1 255 ++ be4 0) := by
  cases h : s.bm.reclaim <;>
    simp only [State.budgFields, State.free, Config.capacity, List.append_assoc, h]

/-! ## The rounds of the hand-out (R60) -/

/-- A head that fits is granted, and the walk goes on. -/
theorem settleN_of_fit {s : State} (n : Nat) {p : Pending} {acts : List Activity} (hdue : s.bm.due = true)
    (hhead : s.pendingHead = some p) (hfit : p.ask.fit s.free = some acts) :
    settleN (n + 1) s = settleN n (s.grant p acts) := by
  simp only [settleN, if_pos hdue, hhead, hfit]

/-- At a head that does not fit, or at none, the hand-out ends. -/
theorem settleN_of_noFit {s : State} (n : Nat) (hdue : s.bm.due = true)
    (h : ∀ p, s.pendingHead = some p → p.ask.fit s.free = none) : settleN (n + 1) s = s.handOutEnds := by
  simp only [settleN, if_pos hdue]
  cases hhead : s.pendingHead with
  | none => rfl
  | some p => simp only [h p hhead]

/-! ## The victim (R62) -/

theorem State.victimFor_iff (s : State) (h : Pending) (v : LineNo) :
    s.victimFor h v = true ↔ s.precedence v < s.precedence h.line
      ∧ ((s.line v).dp.pump = .running ∨ (s.line v).dp.pump = .rateChange ∨ (s.line v).dp.pump = .retraining)
      ∧ ∃ c f, (s.line v).dp.cur = some c ∧ (s.line v).dp.reclaimFloor = some f ∧ f.idx < c.idx := by
  cases hcur : (s.line v).dp.cur <;> cases hfloor : (s.line v).dp.reclaimFloor <;>
    simp [State.victimFor, hcur, hfloor, and_assoc, or_assoc]

/-- The place of a line among victims, the first taken the least: by precedence, then the larger holding, then the
higher number. -/
def State.victimRank (s : State) (v : LineNo) : ℕ ×ₗ ℕᵒᵈ ×ₗ LineNoᵒᵈ :=
  toLex (s.precedence v, toLex (OrderDual.toDual (s.holding v), OrderDual.toDual v))

theorem State.victimRank_lt_iff (s : State) (v b : LineNo) :
    s.victimRank v < s.victimRank b ↔ s.precedence v < s.precedence b ∨ (s.precedence v = s.precedence b
      ∧ (s.holding b < s.holding v ∨ (s.holding b = s.holding v ∧ b < v))) := by
  simp [State.victimRank, Prod.Lex.toLex_lt_toLex, eq_comm (a := s.holding b)]

theorem State.victimBefore_iff (s : State) (v b : LineNo) :
    s.victimBefore v b = true ↔ s.victimRank v < s.victimRank b := by
  simp [State.victimRank_lt_iff, State.victimBefore, eq_comm (a := s.holding b)]

/-- Lines of one rank are one line, as the number is part of it. -/
theorem State.victimRank_injective (s : State) : Function.Injective s.victimRank := by
  intro v w h
  exact congrArg (fun x => OrderDual.ofDual (ofLex (ofLex x).2).2) h

/-- The victim is the first of the qualifying lines. -/
theorem State.chooseVictim_eq (s : State) (h : Pending) :
    s.chooseVictim h = (lineNos.filter fun v => s.victimFor h v).argmin s.victimRank := by
  refine congrArg (fun f => List.foldl f none _) (funext fun best => funext fun v => ?_)
  cases best with
  | none => rfl
  | some b => simp only [State.victimBefore_iff]; rfl

theorem State.chooseVictim_eq_some {s : State} {h : Pending} {v : LineNo} (hv : s.chooseVictim h = some v) :
    s.victimFor h v = true ∧ ∀ w, s.victimFor h w = true → w ≠ v → s.victimRank v < s.victimRank w := by
  rw [State.chooseVictim_eq] at hv
  refine ⟨(List.mem_filter.1 (List.argmin_mem hv)).2, fun w hw hne => ?_⟩
  have hle : s.victimRank v ≤ s.victimRank w := List.le_of_mem_argmin (List.mem_filter.2 ⟨mem_lineNos w, hw⟩) hv
  exact lt_of_le_of_ne hle fun e => hne (s.victimRank_injective e).symm

theorem State.chooseVictim_eq_none {s : State} {h : Pending} (hnone : s.chooseVictim h = none) (w : LineNo) :
    s.victimFor h w = false := by
  rw [State.chooseVictim_eq, List.argmin_eq_none, List.filter_eq_nil_iff] at hnone
  simpa using hnone w (mem_lineNos w)

/-! ## The reclaim (R62, R63) -/

/-- The victim is ordered to step down, and the reclaim recorded with its class at the order. -/
theorem State.considerReclaim_orders {s : State} {h : Pending} {v : LineNo} {c : Cls} (hnone : s.bm.reclaim = none)
    (hhead : s.pendingHead = some h) (hfit : h.ask.fit s.free = none) (hv : s.chooseVictim h = some v)
    (hcur : (s.line v).dp.cur = some c) :
    s.considerReclaim = { s.stepDown v with bm := { (s.stepDown v).bm with
      reclaim := some { victim := v, clsAt := c, madeFor := some h.line, time := s.now } } } := by
  simp only [State.considerReclaim, hnone, hhead, hfit, hv, hcur]

/-- One in flight is not joined by another. -/
theorem State.considerReclaim_of_inFlight {s : State} (h : s.bm.reclaim ≠ none) : s.considerReclaim = s := by
  obtain ⟨r, hr⟩ := Option.ne_none_iff_exists'.1 h
  simp only [State.considerReclaim, hr]

theorem State.considerReclaim_of_noHead {s : State} (h : s.pendingHead = none) : s.considerReclaim = s := by
  cases hr : s.bm.reclaim <;> simp only [State.considerReclaim, hr, h]

theorem State.considerReclaim_of_noNeed {s : State} {h : Pending} (hhead : s.pendingHead = some h)
    (hno : h.ask.fit s.free ≠ none ∨ s.chooseVictim h = none) : s.considerReclaim = s := by
  by_cases hr : s.bm.reclaim = none
  · simp only [State.considerReclaim, hr, hhead]
    split
    · next hfit hv => simp [hfit, hv] at hno
    · rfl
  · exact State.considerReclaim_of_inFlight hr

theorem State.reclaimCheck_eq {s : State} {r : Reclaim} {i : LineNo} {c : Cls} (hr : s.bm.reclaim = some r)
    (hc : (s.line i).dp.cur = some c) :
    s.reclaimCheck i = if r.victim = i ∧ c.idx < r.clsAt.idx then
      { s with bm := { s.bm with reclaim := none, due := true } } else s := by
  simp only [State.reclaimCheck, hr, hc]

/-! ## The settled obligation -/

/-- Settles O30: the expiry by the admission it finds, BUDG by its fields, the hand-out round by round, the victim as
the least of the qualifying lines, the reclaim by what stands in its way. -/
theorem pendingExpiryAndBudg : Obligations.PendingExpiryAndBudg := by
  refine ⟨fun s i hp => ⟨fun p hfind => ?expires, fun hnone => ?stopped⟩, fun s tag hs => ?budg,
    fun s n hdue => ⟨rfl, fun p acts => settleN_of_fit n hdue, settleN_of_noFit n hdue⟩,
    fun s => ⟨fun h v c => State.considerReclaim_orders, ?noReclaim, fun h v hv => ?victim,
      fun h => State.chooseVictim_eq_none, s.victimFor_iff, fun i r c => State.reclaimCheck_eq⟩⟩
  case expires =>
    rw [← State.pendingFails_eq hfind]
    exact execPendingTimerExpiry_of_pending hp hfind
  case stopped => exact execPendingTimerExpiry_of_notPending hp (State.hasPending_eq_false.1 hnone)
  case budg =>
    refine (hostRecord_answers hs (r := .budg) (st := .ok) (fields := s.budgFields) rfl).trans ?_
    rw [State.budgFields_eq]
    rfl
  case noReclaim =>
    rintro (hinFlight | hnoHead | ⟨h, hhead, hno⟩)
    · exact State.considerReclaim_of_inFlight hinFlight
    · exact State.considerReclaim_of_noHead hnoHead
    · exact State.considerReclaim_of_noNeed hhead hno
  case victim =>
    obtain ⟨hqualifies, hfirst⟩ := State.chooseVictim_eq_some hv
    exact ⟨hqualifies, fun w hw hne => (s.victimRank_lt_iff v w).1 (hfirst w hw hne)⟩

end Sys2Proof.Machine
end

section
/-! PROOFS. What every step and every admission keeps (chapter 4): O5, O11, O12. The hand-out that ends each step, then
the fit of an admission and its taking, then a pending fax hand-over that names no pump. -/

namespace Sys2Proof.Machine

open Sys2Proof

/-! ## The hand-out ends every step (R60, log 16) -/

/-- Every command but those of reset and start-up is an event on a running part. -/
theorem exec_eq_react {c : Instr} (h : startsPart c = false) : ∃ f : State → State, ∀ s, exec c s = react s f := by
  cases c
  case powerOn | resetPin | clockLoss | startUp | settingsLoaded => cases h
  all_goals exact ⟨_, fun _ => rfl⟩

/-- An event on a running part ends with the hand-out, and one on another part changes nothing. -/
theorem react_handedOut {s t : State} {f : State → State} (hs : s.handedOut) (h : react s f = .next t) :
    t.handedOut := by
  by_cases hp : s.phase = .running
  · rw [react_running hp] at h
    cases h
    exact State.settle_handedOut _
  · rw [react_held hp] at h
    cases h
    exact hs

theorem State.hardReset_handedOut (s : State) (c : ResetCause) : (s.hardReset c).handedOut := ⟨rfl, rfl⟩

@[simp] theorem State.startUpEnds_bm (s : State) (read : Option (List Byte)) : (s.startUpEnds read).bm = s.bm := rfl

/-- Start-up touches no release. -/
theorem execStartUp_handedOut {s t : State} (hs : s.handedOut) (h : execStartUp s = .next t) : t.handedOut := by
  cases h
  split <;> exact hs

theorem execSettingsLoaded_handedOut {s t : State} {read : Option (List Byte)} (hs : s.handedOut)
    (h : execSettingsLoaded read s = .next t) : t.handedOut := by
  cases h
  split
  · rwa [State.handedOut, State.startUpEnds_bm]
  · exact hs

/-- No command leaves a release waiting. -/
theorem exec_handedOut {c : Instr} {s t : State} (hs : s.handedOut) (h : exec c s = .next t) : t.handedOut := by
  by_cases hc : startsPart c = false
  case pos =>
    obtain ⟨f, hf⟩ := exec_eq_react hc
    exact react_handedOut hs (hf s ▸ h)
  case neg =>
    cases c
    case powerOn | resetPin | clockLoss => cases h; exact State.hardReset_handedOut s _
    case startUp => exact execStartUp_handedOut hs h
    case settingsLoaded => exact execSettingsLoaded_handedOut hs h
    all_goals exact absurd rfl hc

/-- Settles O5: a millisecond that passes touches no release, and every command hands out those it makes. -/
theorem everyStepHandsOutItsUnits : Obligations.EveryStepHandsOutItsUnits := by
  refine ⟨fun s t hs h => ?_, fun s => State.settle_eq⟩
  unfold step at h
  split at h
  · cases h; exact hs
  · next c rest _ => exact exec_handedOut (s := { s with pending := rest }) hs h

/-! ## The classes of an admission (R56, R68) -/

@[simp] theorem costOf_cons (x : Activity) (l : List Activity) : costOf (x :: l) = x.cost + costOf l := rfl

theorem Cls.idx_dataOf (n : Nat) : (Cls.dataOf n).idx = max 1 (min 7 n) := by
  unfold Cls.dataOf
  split <;> simp only [Cls.idx] <;> grind

theorem Cls.idx_faxOf (n : Nat) : (Cls.faxOf n).idx = max 1 (min 6 n) := by
  unfold Cls.faxOf
  split <;> simp only [Cls.idx] <;> grind

/-- A higher number names a class that is no lower. -/
theorem Cls.idx_ofIdx_mono (f : Family) {m n : Nat} (h : m ≤ n) : (Cls.ofIdx f m).idx ≤ (Cls.ofIdx f n).idx := by
  cases f
  case data => simp only [Cls.ofIdx, Cls.idx_dataOf]; omega
  case fax => simp only [Cls.ofIdx, Cls.idx_faxOf]; omega

/-- The classes of an admission are walked from the highest down. -/
theorem classesDown_pairwise (c : Conn) : (classesDown c).Pairwise fun a b => b.idx ≤ a.idx := by
  unfold classesDown
  rw [List.pairwise_map]
  exact List.pairwise_lt_range.imp fun h => Cls.idx_ofIdx_mono _ (by omega)

/-- The first class of the walk that passes a test is the highest that does. -/
theorem classesDown_find? {c : Conn} {p : Cls → Bool} {k : Cls} (h : (classesDown c).find? p = some k) :
    k ∈ classesDown c ∧ p k = true ∧ ∀ x ∈ classesDown c, k.idx < x.idx → p x = false := by
  refine ⟨List.mem_of_find?_eq_some h, List.find?_some h, fun x hx hlt => ?_⟩
  obtain ⟨-, before, behind, heq, hbefore⟩ := List.find?_eq_some_iff_append.1 h
  have hsorted := classesDown_pairwise c
  rw [heq] at hx hsorted
  obtain ⟨-, hk, -⟩ := List.pairwise_append.1 hsorted
  rcases List.mem_append.1 hx with hx | hx
  · simpa using hbefore x hx
  · rcases List.mem_cons.1 hx with rfl | hx
    · omega
    · exact absurd ((List.pairwise_cons.1 hk).1 x hx) (by omega)

/-! ## What an admission is granted at (R56) -/

section
variable {a : Ask} {free : Nat} {acts : List Activity}

theorem Ask.fit_of_noPump (h : a.pump = none) : a.fit free = if costOf a.acts ≤ free then some a.acts else none := by
  simp only [Ask.fit, h]

theorem Ask.fit_of_pump {c : Conn} (h : a.pump = some c) :
    a.fit free = ((classesDown c).find? fun k => decide (k.cost + costOf a.acts ≤ free)).map fun k =>
      .pump k :: a.acts := by simp only [Ask.fit, h]

/-- A pump is granted at the highest class of its range that fits. -/
theorem Ask.fit_highest {c : Conn} (h : a.pump = some c) (hfit : a.fit free = some acts) :
    ∃ k ∈ classesDown c, acts = .pump k :: a.acts ∧ k.cost + costOf a.acts ≤ free
      ∧ ∀ x ∈ classesDown c, k.idx < x.idx → free < x.cost + costOf a.acts := by
  rw [Ask.fit_of_pump h, Option.map_eq_some_iff] at hfit
  obtain ⟨k, hfind, rfl⟩ := hfit
  obtain ⟨hmem, hk, hhigher⟩ := classesDown_find? hfind
  exact ⟨k, hmem, rfl, by simpa using hk, fun x hx hlt => by simpa using hhigher x hx hlt⟩

/-- What is granted fits the free units. -/
theorem Ask.fit_le (hfit : a.fit free = some acts) : costOf acts ≤ free := by
  cases h : a.pump with
  | none =>
    rw [Ask.fit_of_noPump h] at hfit
    split at hfit
    · next hle => cases hfit; exact hle
    · cases hfit
  | some c =>
    obtain ⟨k, -, rfl, hle, -⟩ := Ask.fit_highest h hfit
    exact hle

theorem Ask.lt_of_fit_none (hfit : a.fit free = none) (h : a.pump = none) : free < costOf a.acts := by
  rw [Ask.fit_of_noPump h] at hfit
  simpa using hfit

/-- A refused pump is too dear at every class of its range. -/
theorem Ask.lt_of_fit_none_pump {c : Conn} (hfit : a.fit free = none) (h : a.pump = some c) :
    ∀ x ∈ classesDown c, free < x.cost + costOf a.acts := by
  rw [Ask.fit_of_pump h, Option.map_eq_none_iff, List.find?_eq_none] at hfit
  simpa using hfit

end

/-! ## The activities that end with an admission (R56, R60) -/

section
variable (s : State) (i : LineNo) (ends : List Activity)

theorem State.endActs_line (j : LineNo) : (s.endActs i ends).line j =
    if j = i then { s.line i with acts := (s.line i).acts.filter fun x => !ends.contains x } else s.line j := by
  unfold State.endActs
  split <;> exact State.line_upd s i j fun l => { l with acts := l.acts.filter fun x => !ends.contains x }

@[simp] theorem State.endActs_acts :
    ((s.endActs i ends).line i).acts = (s.line i).acts.filter fun x => !ends.contains x := by
  rw [State.endActs_line, if_pos rfl]

theorem State.endActs_line_ne {j : LineNo} (h : j ≠ i) : (s.endActs i ends).line j = s.line j := by
  rw [State.endActs_line, if_neg h]

@[simp] theorem State.endActs_plist : (s.endActs i ends).bm.plist = s.bm.plist := by
  unfold State.endActs; split <;> rfl

@[simp] theorem State.endActs_now : (s.endActs i ends).now = s.now := by
  unfold State.endActs; split <;> rfl

/-- Units released are to be handed out, and to be offered to the call queue. -/
theorem State.endActs_releases (h : ∃ x ∈ (s.line i).acts, x ∈ ends) :
    (s.endActs i ends).bm.due = true ∧ (s.endActs i ends).bm.offer = true := by
  unfold State.endActs
  rw [if_pos (by simpa using h)]
  exact ⟨rfl, rfl⟩

end

/-! ## The taking of an admission (R56 to R58) -/

section
variable {s : State} {i : LineNo} {ends : List Activity} {a : Ask} {r : Requester}

theorem State.request_of_pending (h : s.hasPending i = true) : s.request i ends a r = (s, none) := if_pos h

theorem State.request_of_fit {acts : List Activity} (h : s.hasPending i = false)
    (hfit : a.fit (s.endActs i ends).free = some acts) :
    s.request i ends a r = ((s.endActs i ends).addActs i acts, some acts) := by
  simp [State.request, h, hfit]

theorem State.request_of_noFit (h : s.hasPending i = false) (hfit : a.fit (s.endActs i ends).free = none) :
    s.request i ends a r = (((s.endActs i ends).joinPending i a r).considerReclaim, none) := by
  simp [State.request, h, hfit]

end

/-! ## The request for the next class (R57, R73) -/

theorem State.askForward_granted {s : State} {cur next : Cls} (i : LineNo) (h : next.cost - cur.cost ≤ s.free) :
    s.askForward i cur next = ((s.setCounted i next).enterRateChange i true next, true) := if_pos h

theorem State.askForward_denied {s : State} {cur next : Cls} (i : LineNo) (h : s.free < next.cost - cur.cost) :
    s.askForward i cur next = ((s.updDp i fun d => { d with fwdRun := 0 }).updCnt i fun c => { c with
      forwardsDenied := satAdd c.forwardsDenied 1 }, false) := if_neg (by omega)

/-- Settles O12: the fit by the walk from the highest class down, the admission by whether its line has one pending and
whether it fits, the next class by whether the difference is free. -/
theorem admissionGrantsWithinFreeUnits : Obligations.AdmissionGrantsWithinFreeUnits := by
  refine ⟨fun a free => ⟨fun acts => Ask.fit_le, fun acts c hc hfit => ?highest, Ask.lt_of_fit_none,
      fun c => Ask.lt_of_fit_none_pump⟩,
    fun s i ends a r => ⟨State.request_of_pending, fun hfree =>
      ⟨State.endActs_acts s i ends, fun acts hfit => ?granted, fun hfit => ?joins⟩⟩,
    fun s i cur next => ⟨State.askForward_granted i, State.askForward_denied i⟩⟩
  case highest =>
    obtain ⟨k, hk, hacts, -, hhigher⟩ := Ask.fit_highest hc hfit
    exact ⟨k, hk, hacts, hhigher⟩
  case granted =>
    rw [State.request_of_fit hfree hfit]
    exact ⟨rfl, fun j hj => (State.line_upd_ne _ _ hj).trans (State.endActs_line_ne s i ends hj),
      State.endActs_plist s i ends, State.endActs_releases s i ends⟩
  case joins =>
    rw [State.request_of_noFit hfree hfit, State.joinPending, Ask.requirement, State.endActs_now]
    cases a.pump <;> rfl

/-! ## A pending fax hand-over that names no pump (R61, R153)

What `Line.pendingOk` asks of a hand-over's admission is the family of the pump it names, and nothing where it names none.
The grant starts the pump all the same, on a line that then holds no pump. `State.faxHandoff`, which alone makes such
admissions, always names one, so the part itself does not come to the state below. -/

/-- A voice call on line 0 that its plan has handed to fax, whose pending admission names the framing and no pump; line 1
is in RINGING with its caller-identification window open, whose timeout is the next command. -/
def pumplessHandOver : State :=
  { pending := [.clidWindowTimeout 1]
    phase := .running
    lines := {
      l0 := { cc := { state := .connected, kind := some .voice }, apc := { plan := .faxHandoff } }
      l1 := { cc := { state := .ringing }, acts := [.clid], tu := { clid := some { due := 4000 } } }
      l2 := {}
      l3 := {} }
    bm := { plist := [{ line := 0, ask := { acts := [.faxFraming], pump := none }, requirement := 4
                        requester := .planFax, joined := 0, due := 2000 }] } }

/-- A line that holds no pump has none to account for where it has no pump record, no job and no data or fax call. -/
theorem Line.pumpOk_of_noPump {l : Line} (hacts : pumpsOf l.acts = []) (hdp : l.dp = {}) (hjob : l.fxc.job = none)
    (hcall : ¬ (l.cc.state = .connected ∧ (l.cc.kind = some .data ∨ l.cc.kind = some .fax))) : l.pumpOk := by
  have hrun : l.runningJob = none := by simp [Line.runningJob, Line.jobRunning, hjob]
  exact ⟨by simp [hacts], by simp [hacts], fun _ => ⟨hdp, hrun, hcall⟩, by simp [hjob]⟩

/-- A pump out of OFF needs a pump among the line's activities. -/
theorem Line.not_pumpOk_of_noPump {l : Line} (hacts : pumpsOf l.acts = []) (hpump : l.dp.pump ≠ .off) :
    ¬ l.pumpOk := by
  rintro ⟨-, -, hnone, -⟩
  obtain ⟨hdp, -, -⟩ := hnone hacts
  exact hpump (by rw [hdp])

theorem pumplessHandOver_pumpOk (i : LineNo) : (pumplessHandOver.line i).pumpOk := by
  fin_cases i <;> exact Line.pumpOk_of_noPump (by decide) (by decide) (by decide) (by decide)

theorem pumplessHandOver_pendingOk : ∀ p ∈ pumplessHandOver.bm.plist, (pumplessHandOver.line p.line).pendingOk p := by
  simp only [pumplessHandOver, List.forall_mem_singleton]
  unfold Line.pendingOk
  decide

theorem pumplessHandOver_budgetOk : pumplessHandOver.budgetOk :=
  ⟨by decide, pumplessHandOver_pumpOk, pumplessHandOver_pendingOk⟩

/-- The window closes, its units are handed out, and the hand-over is granted: line 0 trains a pump it does not hold. -/
theorem step_pumplessHandOver :
    ∃ t, step pumplessHandOver = .next t ∧ (t.line 0).acts = [.faxFraming] ∧ (t.line 0).dp.pump = .training :=
  ⟨_, rfl, by decide, by decide⟩

/-- The invariant is lost from a state in which also no release waits and no line has two admissions pending. -/
theorem budgetOk_lost : ∃ s t : State, s.budgetOk ∧ s.handedOut ∧ s.pendingOnce ∧ step s = .next t ∧ ¬ t.budgetOk := by
  obtain ⟨t, hstep, hacts, hpump⟩ := step_pumplessHandOver
  refine ⟨pumplessHandOver, t, pumplessHandOver_budgetOk, ⟨rfl, rfl⟩, List.nodup_singleton _, hstep, ?_⟩
  rintro ⟨-, hlines, -⟩
  exact Line.not_pumpOk_of_noPump (by rw [hacts]; rfl) (by simp [hpump]) (hlines 0)

/-- Refutes O11: a pending fax hand-over that names no pump meets the invariant, and its grant starts a pump on a line that
holds none (`pumplessHandOver`). -/
theorem not_holdingsNeverExceedCapacity : ¬ Obligations.HoldingsNeverExceedCapacity := by
  rintro ⟨hkept, -⟩
  obtain ⟨s, t, hs, -, -, hstep, ht⟩ := budgetOk_lost
  exact ht (hkept s t hs hstep)

end Sys2Proof.Machine
end

section
/-! PROOFS. The Data Pump of a line (chapter 5): O31, O32. The ladder of classes and the local pick, what a change of class
sets, the end of a training, the readings by pump state, the rate changes and the remote's requests, then the
obligations. -/

namespace Sys2Proof.Machine

open Sys2Proof

/-! ## Updates of one pump -/

/-- Updates of a line's pump that agree on it are equal. -/
theorem State.updDp_congr (s : State) (i : LineNo) {f g : Dp → Dp} (h : f (s.line i).dp = g (s.line i).dp) :
    s.updDp i f = s.updDp i g :=
  State.upd_congr s i _ _ (congrArg (fun x => { s.line i with dp := x }) h)

/-! ## The ladder of a family (R55, R68) -/

theorem Cls.ofIdx_idx (c : Cls) : Cls.ofIdx c.family c.idx = c := by cases c <;> rfl

/-- A class is known by its family and its place there. -/
theorem Cls.eq_of_idx_eq {a b : Cls} (hf : a.family = b.family) (hi : a.idx = b.idx) : a = b := by
  rw [← Cls.ofIdx_idx a, ← Cls.ofIdx_idx b, hf, hi]

theorem Cls.idx_pos (c : Cls) : 0 < c.idx := by cases c <;> decide

theorem Cls.family_ofIdx (f : Family) (n : Nat) : (Cls.ofIdx f n).family = f := by
  cases f
  case data => unfold Cls.ofIdx; unfold Cls.dataOf; dsimp only; split <;> rfl
  case fax => unfold Cls.ofIdx; unfold Cls.faxOf; dsimp only; split <;> rfl

theorem Cls.idx_ofIdx_one (f : Family) : (Cls.ofIdx f 1).idx = 1 := by cases f <;> rfl

/-- The walk from a limit to the bottom of its ladder passes every class of the family at or below the limit. -/
theorem mem_classesDown_bottom {l c : Cls} :
    c ∈ classesDown ⟨l, Cls.ofIdx l.family 1⟩ ↔ c.family = l.family ∧ c.idx ≤ l.idx := by
  simp only [classesDown, List.mem_map, List.mem_range, Cls.idx_ofIdx_one]
  constructor
  · rintro ⟨k, hk, rfl⟩
    refine ⟨Cls.family_ofIdx _ _, ?_⟩
    calc (Cls.ofIdx l.family (l.idx - k)).idx ≤ (Cls.ofIdx l.family l.idx).idx := Cls.idx_ofIdx_mono _ (by omega)
      _ = l.idx := by rw [Cls.ofIdx_idx]
  · rintro ⟨hf, hle⟩
    have hpos := Cls.idx_pos c
    refine ⟨l.idx - c.idx, by omega, ?_⟩
    rw [show l.idx - (l.idx - c.idx) = c.idx by omega, ← hf, Cls.ofIdx_idx]

/-! ## The local pick (R70) -/

/-- The pick is within the limit and the quality, and the highest such class. -/
theorem localPick_highest {l p : Cls} {qt : Nat} (h : localPick l qt = some p) :
    p.family = l.family ∧ p.idx ≤ l.idx ∧ p.entry ≤ qt
      ∧ ∀ c : Cls, c.family = l.family → c.idx ≤ l.idx → c.entry ≤ qt → c.idx ≤ p.idx := by
  obtain ⟨hmem, hentry, hhigher⟩ := classesDown_find? h
  obtain ⟨hf, hle⟩ := mem_classesDown_bottom.1 hmem
  refine ⟨hf, hle, by simpa using hentry, fun c hcf hcl hce => ?_⟩
  by_contra hlt
  exact absurd (hhigher c (mem_classesDown_bottom.2 ⟨hcf, hcl⟩) (by omega)) (by simpa using hce)

/-- The highest class within the limit and the quality is the pick. -/
theorem localPick_of_highest {l p : Cls} {qt : Nat} (hf : p.family = l.family) (hle : p.idx ≤ l.idx) (he : p.entry ≤ qt)
    (hhighest : ∀ c : Cls, c.family = l.family → c.idx ≤ l.idx → c.entry ≤ qt → c.idx ≤ p.idx) :
    localPick l qt = some p := by
  cases hpick : localPick l qt with
  | none => exact absurd he (by simpa using List.find?_eq_none.1 hpick p (mem_classesDown_bottom.2 ⟨hf, hle⟩))
  | some k =>
    obtain ⟨hkf, hkl, hke, hk⟩ := localPick_highest hpick
    exact congrArg some (Cls.eq_of_idx_eq (hkf.trans hf.symm) (le_antisymm (hhighest k hkf hkl hke) (hk p hf hle he)))

/-! ## The class of the pump (R67, R80) -/

/-- An activity with a pump counted at class `c`. -/
def Activity.recounted (c : Cls) : Activity → Activity
  | .pump _ => .pump c
  | x => x

/-- A line whose pump is counted at another class. -/
def Line.recounted (c : Cls) (l : Line) : Line := { l with acts := l.acts.map (Activity.recounted c) }

theorem Line.recounted_counted (c : Cls) (l : Line) : (l.recounted c).counted = l.counted.map fun _ => c := by
  simp only [Line.counted, Line.recounted, List.findSome?_map, List.map_findSome?]
  refine congrArg (fun f => List.findSome? f l.acts) (funext fun a => ?_)
  cases a <;> rfl

@[simp] theorem State.setCounted_line (s : State) (i : LineNo) (c : Cls) :
    (s.setCounted i c).line i = (s.line i).recounted c := by
  have h : (s.upd i (Line.recounted c)).line i = (s.line i).recounted c := State.line_upd_self s i _
  unfold State.setCounted
  (repeat' split) <;> exact h

@[simp] theorem State.reclaimCheck_line (s : State) (i j : LineNo) : (s.reclaimCheck i).line j = s.line j := by
  unfold State.reclaimCheck
  (repeat' split) <;> rfl

section
variable (s : State) (i : LineNo) (c : Cls)

@[simp] theorem State.setClass_line_dp : ((s.setClass i c).line i).dp = { (s.line i).dp with cur := some c } := by
  simp only [State.setClass, State.reclaimCheck_line]
  split <;> simp [Line.recounted]

theorem State.setClass_line_counted : ((s.setClass i c).line i).counted = (s.line i).counted.map fun _ => c := by
  have hacts : ((s.setClass i c).line i).acts = ((s.line i).recounted c).acts := by
    simp only [State.setClass, State.reclaimCheck_line]
    split <;> simp [Line.recounted]
  rw [← Line.recounted_counted, Line.counted, hacts, Line.counted]

/-- A fall of the class is counted (R80). -/
theorem State.setClass_fallbacks :
    ((s.setClass i c).line i).cnt.fallbacks =
      if ∃ o, (s.line i).dp.cur = some o ∧ c.idx < o.idx then satAdd (s.line i).cnt.fallbacks 1
      else (s.line i).cnt.fallbacks := by
  simp only [State.setClass, State.reclaimCheck_line]
  cases hcur : (s.line i).dp.cur <;> split <;> simp [Line.recounted]

end

/-! ## The end of a training (R70, R71) -/

section
variable {s : State} {i : LineNo}

/-- With pick and offer there the training completes at the lower of the two, no higher than a cap owed (log 19). -/
theorem State.completeTraining_of_offer {p o : Cls} (hpick : (s.line i).dp.pick = some p)
    (hoffer : (s.line i).dp.offer = some o) :
    s.completeTraining i = s.trainingSucceeds i ((Cls.lower p o).cap (s.line i).dp.owed) := by
  simp only [State.completeTraining, Dp.agreed, hpick, hoffer]

/-- Without an offer it waits for one. -/
theorem State.completeTraining_of_noOffer (hoffer : (s.line i).dp.offer = none) :
    s.completeTraining i = s.updDp i fun d => { d with offerDue := some (s.now + 1000) } := by
  have hagreed : (s.line i).dp.agreed = none := by
    cases hpick : (s.line i).dp.pick <;> simp only [Dp.agreed, hpick, hoffer]
  simp only [State.completeTraining, hagreed]

theorem State.trainingRead_of_noPick {l : Cls} (hl : (s.line i).pickLimit = some l)
    (h : localPick l ((s.line i).dp.trainSum / 150) = none) : s.trainingRead i = s.trainingFails i := by
  simp only [State.trainingRead, hl, Option.bind_some, h]

theorem State.trainingRead_of_pick {l p : Cls} (hl : (s.line i).pickLimit = some l)
    (h : localPick l ((s.line i).dp.trainSum / 150) = some p) :
    s.trainingRead i = (s.updDp i fun d => { d with pick := some p, signal := some (.offer p) }).completeTraining i := by
  simp only [State.trainingRead, hl, Option.bind_some, h]

/-- The offer received is kept, and is waited for no longer where the pick is made (R70). -/
theorem State.takeOffer_of_pick {p : Cls} (c : Cls) (h : (s.line i).dp.pick = some p) :
    s.takeOffer i c = (s.updDp i fun d => { d with offer := some (Cls.ofIdx .data c.idx) }).trainingSucceeds i
      ((Cls.lower p (Cls.ofIdx .data c.idx)).cap (s.line i).dp.owed) := by
  simp only [State.takeOffer, h, Option.isSome_some, if_true]
  rw [State.completeTraining_of_offer (p := p) (o := Cls.ofIdx .data c.idx) (by simpa using h) (by simp),
    State.updDp_line_dp]

theorem State.takeOffer_of_noPick (c : Cls) (h : (s.line i).dp.pick = none) :
    s.takeOffer i c = s.updDp i fun d => { d with offer := some (Cls.ofIdx .data c.idx) } := by
  simp [State.takeOffer, h]

theorem Dp.dataTraining_iff {d : Dp} :
    d.dataTraining = true ↔ d.family = some .data ∧ (d.pump = .training ∨ d.pump = .retraining) := by
  simp [Dp.dataTraining]

end

/-! ## Readings (R69, R70, R72, R79) -/

section
variable {s : State} {i : LineNo} {n : Nat}

/-- Of the readings that are summed the last is the 150th. -/
theorem Dp.addTraining_full_iff {d : Dp} (h : d.trainCount < 150) :
    150 ≤ (d.addTraining n).trainCount ↔ d.trainCount = 149 := by
  simp only [Dp.addTraining]
  omega

/-- A reading of a data training is summed, and the 150th ends the sum (R70). -/
theorem State.dataTrainingReading_eq (h : (s.line i).dp.trainCount < 150) :
    s.dataTrainingReading i n =
      let u := s.updDp i fun d => d.addTraining n
      if (s.line i).dp.trainCount = 149 then u.trainingRead i else u := by
  simp only [State.dataTrainingReading, if_pos h, State.updDp_line_dp, Dp.addTraining_full_iff h]

/-- So is a reading of a receive job's check (R79). -/
theorem State.faxTrainingReading_eq (hcheck : (s.line i).receiveChecks = true) (h : (s.line i).dp.trainCount < 150) :
    s.faxTrainingReading i n =
      let u := s.updDp i fun d => d.addTraining n
      if (s.line i).dp.trainCount = 149 then u.faxCheckRead i else u := by
  simp only [State.faxTrainingReading, if_pos (And.intro hcheck h), State.updDp_line_dp, Dp.addTraining_full_iff h]

theorem Dp.countStable_eq (d : Dp) : d.countStable = { d with
    stableRun := if d.stableRun + 1 < 1000 then d.stableRun + 1 else 0
    retrainCount := if d.stableRun + 1 < 1000 then d.retrainCount else 0 } := by
  unfold Dp.countStable
  split <;> rfl

theorem Dp.readRunning_eq (d : Dp) : d.readRunning n = { d with
    acc := d.acc - d.acc / 8 + n
    stableRun := if d.stableRun + 1 < 1000 then d.stableRun + 1 else 0
    retrainCount := if d.stableRun + 1 < 1000 then d.retrainCount else 0 } := by
  rw [Dp.readRunning, Dp.countStable_eq]

theorem Dp.countRuns_eq (d : Dp) : d.countRuns n = { d with
    lossRun := if n < 8 then d.lossRun + 1 else 0
    belowRun := if d.belowHold then d.belowRun + 1 else 0
    fwdRun := if d.forwardTo.isSome then d.fwdRun + 1 else 0 } := by
  simp only [Dp.countRuns, runAfter, decide_eq_true_eq]

theorem Line.sendsRound_iff {l : Line} : l.sendsRound = true ↔
    ∃ j, l.runningJob = some j ∧ j.dir = some .send ∧ j.phase = .page ∧ j.partOpen = true ∧ l.fxc.wait = .none := by
  cases h : l.runningJob <;> simp [Line.sendsRound, h, and_assoc]

/-- A frame of a data pump is read and counted, and the tests act on it (R72, log 18). -/
theorem State.runningReading_of_data (h : (s.line i).dp.family = some .data) :
    s.runningReading i n = ((s.updDp i fun d => d.readRunning n).updDp i fun d => d.countRuns n).runningTests i :=
  if_pos h

/-- A frame of a fax pump that sends a round is counted in the stable run alone (log 90). -/
theorem State.runningReading_of_sending (h : (s.line i).dp.family ≠ some .data) (hsends : (s.line i).sendsRound = true) :
    s.runningReading i n = s.updDp i fun d => d.countStable := by
  simp only [State.runningReading, if_neg h, if_pos hsends]

theorem State.runningReading_of_notSending (h : (s.line i).dp.family ≠ some .data)
    (hsends : ¬ (s.line i).sendsRound = true) : s.runningReading i n = s.updDp i fun d => d.readRunning n := by
  simp only [State.runningReading, if_neg h, if_neg hsends]

end

/-! ## QUALITY_READING by pump state -/

theorem exec_qualityReading (i : LineNo) (q : Int) (s : State) :
    exec (.qualityReading i q) s = execQualityReading i q s := rfl

section
variable {s : State} {i : LineNo} (q : Int) (hp : s.phase = .running)
include hp

theorem exec_qualityReading_dataTraining (hf : (s.line i).dp.family = some .data)
    (ht : (s.line i).dp.pump = .training ∨ (s.line i).dp.pump = .retraining) :
    exec (.qualityReading i q) s = .next (s.dataTrainingReading i (clampQuality q)).settle := by
  rw [exec_qualityReading, execQualityReading, react_running hp]
  rcases ht with ht | ht <;> simp only [ht, hf]

theorem exec_qualityReading_faxTraining (hf : (s.line i).dp.family = some .fax)
    (ht : (s.line i).dp.pump = .training ∨ (s.line i).dp.pump = .retraining) :
    exec (.qualityReading i q) s = .next (s.faxTrainingReading i (clampQuality q)).settle := by
  rw [exec_qualityReading, execQualityReading, react_running hp]
  rcases ht with ht | ht <;> simp only [ht, hf]

theorem exec_qualityReading_running (ht : (s.line i).dp.pump = .running) :
    exec (.qualityReading i q) s = .next (s.runningReading i (clampQuality q)).settle := by
  rw [exec_qualityReading, execQualityReading, react_running hp]
  simp only [ht]

theorem exec_qualityReading_idle (ht : (s.line i).dp.pump = .rateChange ∨ (s.line i).dp.pump = .off) :
    exec (.qualityReading i q) s = .next s.settle := by
  rw [exec_qualityReading, execQualityReading, react_running hp]
  rcases ht with ht | ht <;> simp only [ht]

end

/-! ## Rate changes (R74) -/

section
variable {s : State} {i : LineNo} {r : RateChange}

theorem Dp.exchange_of_rc {d : Dp} (h : d.rc = some r) : d.exchange = r.begun := by simp [Dp.exchange, h]

theorem Dp.confirmed_of_rc {d : Dp} (h : d.rc = some r) : d.confirmed = r.confirmed := by simp [Dp.confirmed, h]

theorem State.confirm_of_rc (b : Nat) (h : (s.line i).dp.rc = some r) :
    s.confirm i b =
      let u := s.updDp i fun d => { d with rc := some { r with confirmed := true } }
      if b + 250 ≤ s.now then u.completeRateChange i else u := by
  rw [State.confirm, State.updDp_congr s i (g := fun d => { d with rc := some { r with confirmed := true } })
    (by simp [h])]

/-- A rate change completes at its target or a lower cap owed, and a rise is counted (R74, R76). -/
theorem State.completeRateChange_of_rc (hr : (s.line i).dp.rc = some r) :
    s.completeRateChange i =
      (let c := r.target.cap (s.line i).dp.owed
      ((((s.setClass i c).updDp i Dp.run).updCnt i fun k => { k with
        forwards := if r.up = true ∧ ∃ o, (s.line i).dp.cur = some o ∧ o.idx < c.idx then satAdd k.forwards 1
          else k.forwards }).raise .qual i).linkPumpRuns i) := by
  simp only [State.completeRateChange, hr]
  cases hcur : (s.line i).dp.cur <;> simp

/-- The remote's confirmation in an exchange (R74). -/
theorem execRateChangeConfirmation_of_exchange {b : Nat} (hp : s.phase = .running)
    (h : (s.line i).dp.exchange = some b) : execRateChangeConfirmation i s = .next (s.confirm i b).settle := by
  simp only [execRateChangeConfirmation, react_running hp, h]

/-- The end of the wait for a confirmation that has not come (R74). -/
theorem execRateChangeConfirmationTimeout_of_exchange {b : Nat} (hp : s.phase = .running)
    (h : (s.line i).dp.exchange = some b) (hc : (s.line i).dp.confirmed = false) :
    execRateChangeConfirmationTimeout i s = .next ((s.reach (b + 1000)).enterRetraining i).settle := by
  simp only [execRateChangeConfirmationTimeout, react_running hp, h, hc, Bool.false_eq_true, if_false, Option.map_some,
    onExpiry]

end

/-! ## The remote's requests (R78) -/

section
variable {s : State} {i : LineNo}

theorem execRemoteRateRequest_of_running {c cur : Cls} (hp : s.phase = .running)
    (hf : (s.line i).dp.family = some .data) (hrun : (s.line i).dp.pump = .running)
    (hcur : (s.line i).dp.cur = some cur) :
    execRemoteRateRequest i c s = .next (s.remoteRate i (Cls.ofIdx .data c.idx) cur).settle := by
  simp only [execRemoteRateRequest, react_running hp, hf, hrun, hcur]

/-- A data pump not in RUNNING declines. -/
theorem execRemoteRateRequest_of_notRunning (c : Cls) (hp : s.phase = .running)
    (hf : (s.line i).dp.family = some .data) (hrun : (s.line i).dp.pump ≠ .running) :
    execRemoteRateRequest i c s = .next (s.decline i).settle := by
  cases hpump : (s.line i).dp.pump with
  | running => exact absurd hpump hrun
  | off | training | rateChange | retraining => simp only [execRemoteRateRequest, react_running hp, hf, hpump]

end

/-! ## The settled obligations -/

/-- Settles O31: a reading by the state and family of the pump, the pick as the highest class of the walk that the
quality allows, the end of a training by pick and offer. -/
theorem qualityReadingDrivesThePump : Obligations.QualityReadingDrivesThePump := by
  intro s i q hp n d
  refine ⟨fun hf ht hlt => ?dataTraining, fun hf ht hcheck hlt => ?faxCheck,
    fun ht => ⟨fun hf hsends => ?sending, fun hf hsends => ?faxRunning, fun hf => ?dataRunning⟩,
    fun ht => exec_qualityReading_idle q hp ht, rfl, fun l p qt => ⟨localPick_highest, fun ⟨hf, hle, he, hh⟩ =>
      localPick_of_highest hf hle he hh⟩,
    fun l hl => ⟨State.trainingRead_of_noPick hl, fun p hpick => ⟨fun o ho => ?completes, fun ho => ?waits⟩⟩,
    rfl, fun c => ⟨?succeeds, State.setClass_line_dp s i c, State.setClass_line_counted s i c,
      State.setClass_fallbacks s i c⟩⟩
  case dataTraining =>
    rw [exec_qualityReading_dataTraining q hp hf ht, State.dataTrainingReading_eq hlt]
    rfl
  case faxCheck =>
    rw [exec_qualityReading_faxTraining q hp hf ht, State.faxTrainingReading_eq hcheck hlt]
    rfl
  case sending =>
    rw [exec_qualityReading_running q hp ht, State.runningReading_of_sending hf (Line.sendsRound_iff.2 hsends)]
    simp only [Dp.countStable_eq]
  case faxRunning =>
    rw [exec_qualityReading_running q hp ht,
      State.runningReading_of_notSending hf fun h => hsends (Line.sendsRound_iff.1 h)]
    simp only [Dp.readRunning_eq]
    rfl
  case dataRunning =>
    rw [exec_qualityReading_running q hp ht, State.runningReading_of_data hf]
    simp only [Dp.readRunning_eq, Dp.countRuns_eq]
    rfl
  case completes =>
    rw [State.trainingRead_of_pick hl hpick,
      State.completeTraining_of_offer (p := p) (o := o) (by simp) (by simpa using ho), State.updDp_line_dp]
  case waits =>
    rw [State.trainingRead_of_pick hl hpick, State.completeTraining_of_noOffer (by simpa using ho), State.updDp_updDp]
    rfl
  case succeeds =>
    simp only [State.trainingSucceeds, beq_iff_eq]
    rfl

/-- Settles O32: an offer by whether the pick is made, the exchange of a rate change by its beginning and its confirmation,
the remote's requests by the state of the pump. -/
theorem pumpExchangesWithTheRemote : Obligations.PumpExchangesWithTheRemote := by
  intro s i hp d
  refine ⟨fun c hf ht => ?offer, fun t h => ?wait, fun r b hr hb => ⟨?confirm, ?resync, fun hc => ?timeout⟩,
    fun c cur hf hrun hcur => ?rate, fun c hf hrun => ?declined, fun hf ht => ?retrain,
    fun r hr => State.completeRateChange_of_rc hr⟩
  case offer =>
    have hoffer : exec (.remoteOfferReceived i c) s =
        .next (if (s.line i).dp.dataTraining then s.takeOffer i c else s).settle := react_running hp _
    rw [hoffer, if_pos (Dp.dataTraining_iff.2 ⟨hf, ht⟩)]
    cases hpick : d.pick with
    | none => rw [State.takeOffer_of_noPick c hpick]
    | some p => rw [State.takeOffer_of_pick c hpick]
  case wait => exact react_onExpiry (fun s => (s.line i).dp.offerDue) (fun s => s.trainingFails i) hp h
  case confirm =>
    refine (execRateChangeConfirmation_of_exchange hp ((Dp.exchange_of_rc hr).trans hb)).trans ?_
    rw [State.confirm_of_rc b hr]
  case resync =>
    have hexpiry : (s.line i).dp.exchange.map (· + 250) = some (b + 250) := by rw [Dp.exchange_of_rc hr, hb]; rfl
    refine (react_onExpiry (fun s => (s.line i).dp.exchange.map (· + 250)) _ hp hexpiry).trans ?_
    rw [State.reach_line, Dp.confirmed_of_rc hr, apply_ite State.settle]
  case timeout =>
    exact execRateChangeConfirmationTimeout_of_exchange hp ((Dp.exchange_of_rc hr).trans hb)
      ((Dp.confirmed_of_rc hr).trans hc)
  case rate => exact execRemoteRateRequest_of_running hp hf hrun hcur
  case declined => exact execRemoteRateRequest_of_notRunning c hp hf hrun
  case retrain =>
    refine (react_running hp _).trans ?_
    rw [if_pos ⟨hf, ht⟩]

end Sys2Proof.Machine
end

section
/-! PROOFS. The block link (chapter 6): O33 to O35. The adaptation, the transmitter and its choice, the messages as their
bytes, the supervisory messages and data blocks received, the records of the host, then the obligations. -/

namespace Sys2Proof.Machine

open Sys2Proof

/-! ## Updates of one link -/

/-- Updates of a line's link that agree on it are equal. -/
theorem State.updBlc_congr (s : State) (i : LineNo) {f g : Blc → Blc} (h : f (s.line i).blc = g (s.line i).blc) :
    s.updBlc i f = s.updBlc i g :=
  State.upd_congr s i _ _ (congrArg (fun x => { s.line i with blc := x }) h)

/-! ## Adaptation (R93) -/

/-- A link with a send event counted in the span (R93). -/
def Blc.sendCounted (b : Blc) (again : Bool) : Blc :=
  { b with
    spanCount := b.spanCount + 1
    spanResends := b.spanResends + (if again then 1 else 0)
    cleanRun := if again then 0 else b.cleanRun }

/-- A link whose span is judged (R93). -/
def Blc.spanJudged (b : Blc) : Blc :=
  if 8 ≤ b.spanResends then b.halve else { b with spanCount := 0, spanResends := 0 }

/-- With 8 resends or more a block size above 32 is halved, which also ends the clean run. -/
theorem Blc.spanJudged_eq (b : Blc) :
    b.spanJudged = { b with
      spanCount := 0, spanResends := 0
      cleanRun := if 8 ≤ b.spanResends ∧ 32 < b.block then 0 else b.cleanRun
      block := if 8 ≤ b.spanResends ∧ 32 < b.block then b.block / 2 else b.block } := by
  by_cases hmany : 8 ≤ b.spanResends
  · by_cases hlarge : 32 < b.block
    · simp [Blc.spanJudged, Blc.halve, Blc.setBlock, Blc.resetAdaptation, hmany, hlarge]
    · simp [Blc.spanJudged, Blc.halve, hmany, hlarge]
  · simp [Blc.spanJudged, hmany]

section
variable (s : State) (i : LineNo) (again : Bool)

/-- A send event is counted, and ends the span at 64 (R93). -/
theorem State.sendEvent_eq :
    s.sendEvent i again =
      let b := (s.line i).blc.sendCounted again
      if b.spanCount < 64 then s.updBlc i fun b => b.sendCounted again
      else
        let u := s.updBlc i fun b => (b.sendCounted again).spanJudged
        if 16 ≤ b.spanResends then u.stepDown i else u := by
  rw [← State.updBlc_line_blc s i fun b => b.sendCounted again,
    ← State.updBlc_updBlc s i (fun b => b.sendCounted again) Blc.spanJudged]
  rfl

/-- What the 64th event makes of the link, by the resends of the span with it. -/
theorem Blc.spanJudged_sendCounted (b : Blc) :
    (b.sendCounted again).spanJudged =
      let n := b.spanResends + (if again then 1 else 0)
      { b with
        spanCount := 0, spanResends := 0
        cleanRun := if again = true ∨ (8 ≤ n ∧ 32 < b.block) then 0 else b.cleanRun
        block := if 8 ≤ n ∧ 32 < b.block then b.block / 2 else b.block } := by
  rw [Blc.spanJudged_eq]
  cases again <;> simp [Blc.sendCounted]

end

/-! ## The transmitter (R87, R88, R95) -/

section
variable {b : Blc} {k : Block} {pre r : List Block}

/-- A number finds the first block of the list that bears it. -/
theorem Blc.find_of_first (hl : b.unacked = pre ++ k :: r) (hfirst : ∀ x ∈ pre, x.seq ≠ k.seq) :
    b.find k.seq = some k := by
  have hpre : pre.find? (fun x => x.seq == k.seq) = none := List.find?_eq_none.2 (by simpa using hfirst)
  simp [Blc.find, hl, hpre]

/-- The pointer moves on from it to the next block of the list. -/
theorem Blc.after_of_first (hl : b.unacked = pre ++ k :: r) (hfirst : ∀ x ∈ pre, x.seq ≠ k.seq) :
    b.after k.seq = r.head?.map fun x => x.seq := by
  have hpre : (pre ++ k :: r).dropWhile (fun x => x.seq != k.seq) = k :: r := by
    rw [List.dropWhile_append_of_pos (by simpa using hfirst)]
    simp
  simp [Blc.after, hl, hpre]

/-- A pointer at no block of the list finds none. -/
theorem Blc.resend_finds_none (h : ∀ x ∈ b.unacked, b.resend ≠ some x.seq) : b.resend.bind b.find = none := by
  cases hp : b.resend with
  | none => rfl
  | some p =>
    refine List.find?_eq_none.2 fun x hx hseq => h x hx ?_
    rw [hp, beq_iff_eq.1 hseq]

theorem Blc.find_isSome_iff (b : Blc) (n : Nat) :
    (b.find n).isSome = true ↔ n ∈ b.unacked.map fun x : Block => x.seq := by
  simp [Blc.find]

end

section
variable {s : State} {i : LineNo}

theorem State.startTx_of_blocked (h : (s.line i).dp.pump ≠ .running ∨ (s.line i).blc.transmitting.isSome = true) :
    s.startTx i = s := if_pos h

/-! With the pump in RUNNING and nothing in transmission the link chooses by its state and mode. -/

section
variable (hrun : (s.line i).dp.pump = .running) (hidle : (s.line i).blc.transmitting = none)
include hrun hidle

theorem State.transmitter_free : ¬ ((s.line i).dp.pump ≠ .running ∨ (s.line i).blc.transmitting.isSome = true) := by
  simp [hrun, hidle]

theorem State.startTx_of_setup (hl : (s.line i).blc.link = .setup) :
    s.startTx i = if (s.line i).blc.setupOwed then s.sendSetup i else s := by
  simp only [State.startTx, if_neg (State.transmitter_free hrun hidle), hl]

theorem State.startTx_of_ec (hl : (s.line i).blc.link = .up) (hm : (s.line i).blc.mode = some .ec) :
    s.startTx i = s.startEc i := by
  simp only [State.startTx, if_neg (State.transmitter_free hrun hidle), hl, hm]

theorem State.startTx_of_byte {x : Byte} {r : List Byte} (hl : (s.line i).blc.link = .up)
    (hm : (s.line i).blc.mode = some .plain) (htx : (s.line i).blc.tx = x :: r) :
    s.startTx i = (s.updBlc i fun b => { b with tx := r, transmitting := some (.plain x) }).txFell i := by
  simp only [State.startTx, if_neg (State.transmitter_free hrun hidle), hl, hm, htx]

theorem State.startTx_of_noByte (hl : (s.line i).blc.link = .up) (hm : (s.line i).blc.mode = some .plain)
    (htx : (s.line i).blc.tx = []) : s.startTx i = s := by
  simp only [State.startTx, if_neg (State.transmitter_free hrun hidle), hl, hm, htx]

end

theorem State.startEc_of_slot {m : Sup} (h : (s.line i).blc.slot = some m) :
    s.startEc i = s.updBlc i fun b => { b with transmitting := some (.sup m), slot := none } := by
  simp only [State.startEc, h]

theorem State.startEc_of_setupOwed (hslot : (s.line i).blc.slot = none) (h : (s.line i).blc.setupOwed = true) :
    s.startEc i = s.sendSetup i := by
  simp only [State.startEc, hslot, h, if_true]

theorem State.startEc_of_peerNotReady (hslot : (s.line i).blc.slot = none) (howed : (s.line i).blc.setupOwed = false)
    (h : (s.line i).blc.peerNotReady = true) : s.startEc i = s := by
  simp only [State.startEc, hslot, howed, h, Bool.false_eq_true, if_false, if_true]

section
variable (hslot : (s.line i).blc.slot = none) (howed : (s.line i).blc.setupOwed = false)
  (hready : (s.line i).blc.peerNotReady = false)
include hslot howed hready

/-- The block at the resend pointer is sent again (R87). -/
theorem State.startEc_of_resend {pre r : List Block} {k : Block} (hl : (s.line i).blc.unacked = pre ++ k :: r)
    (hfirst : ∀ x ∈ pre, x.seq ≠ k.seq) (hp : (s.line i).blc.resend = some k.seq) :
    s.startEc i = (((s.updBlc i fun b => { b with
      transmitting := some (.data k.seq k.payload)
      unacked := b.unacked.map fun x => if x.seq = k.seq then { x with sends := x.sends + 1 } else x
      resend := r.head?.map fun x => x.seq }).updCnt i fun c => { c with
        resends := satAdd c.resends 1 }).sendEvent i true) := by
  have hfind : (s.line i).blc.resend.bind (s.line i).blc.find = some k := by
    rw [hp]; exact Blc.find_of_first hl hfirst
  simp only [State.startEc, hslot, howed, hready, hfind, Bool.false_eq_true, if_false, State.resendBlock]
  refine congrArg (fun u : State => (u.updCnt i fun c => { c with resends := satAdd c.resends 1 }).sendEvent i true)
    (State.updBlc_congr s i ?_)
  simp only [Blc.after_of_first hl hfirst]

theorem State.startEc_of_noResend (h : ∀ x ∈ (s.line i).blc.unacked, (s.line i).blc.resend ≠ some x.seq) :
    s.startEc i = s.newBlock i := by
  simp only [State.startEc, hslot, howed, hready, Blc.resend_finds_none h, Bool.false_eq_true, if_false]

end

/-- No byte to send or a full window: no block is formed (R88). -/
theorem State.newBlock_of_blocked
    (h : (s.line i).blc.tx = [] ∨ (s.line i).blc.window ≤ (s.line i).blc.unacked.length) : s.newBlock i = s :=
  if_pos (h.imp_left List.isEmpty_iff.2)

theorem State.newBlock_of_open (htx : (s.line i).blc.tx ≠ [])
    (hwindow : (s.line i).blc.unacked.length < (s.line i).blc.window) :
    s.newBlock i = ((((s.updBlc i fun b => { b with
      tx := b.tx.drop b.block
      unacked := b.unacked ++ [{ seq := b.vs, payload := b.tx.take b.block, sends := 1, retries := 0 }]
      vs := (b.vs + 1) % 128
      retryDue := if b.unacked = [] then some (s.now + 1500) else b.retryDue
      transmitting := some (.data b.vs (b.tx.take b.block)) }).updCnt i fun c => { c with
        blocksSent := satAdd c.blocksSent 1 }).txFell i).sendEvent i false) := by
  have hopen : ¬ ((s.line i).blc.tx.isEmpty = true ∨ (s.line i).blc.window ≤ (s.line i).blc.unacked.length) := by
    simp [htx, hwindow]
  refine (if_neg hopen).trans ?_
  simp only [List.isEmpty_iff]

end

/-! ## The messages as their bytes (R86) -/

/-- A message with its own check is the command of its kind. -/
theorem linkCommand_checked (i : LineNo) {l : List Byte} {m : LinkMsg} (h : linkFields l = some m) :
    linkCommand i (l ++ checkBytes m.covered) =
      match m with
      | .data seq p => .dataBlockReceived i seq p
      | .sup m => .supervisoryMessageReceived i m.kind m.n
      | .setup w size => .setupMessageReceived i w size
      | .plain _ => .badMessageReceived i := by
  rw [linkCommand, linkMessage_checked h]
  cases m <;> rfl

/-- With another check it is bad. -/
theorem linkCommand_unchecked (i : LineNo) {l check : List Byte} {m : LinkMsg} (hlen : check.length = 2)
    (h : linkFields l = some m) (hcheck : check ≠ checkBytes m.covered) :
    linkCommand i (l ++ check) = .badMessageReceived i := by
  have hbad : linkMessage (l ++ check) = none := by simp [linkMessage, hlen, h, hcheck]
  rw [linkCommand, hbad]

theorem linkFields_data {seq : Nat} {p : List Byte} (hseq : seq < 256) (hp : p.length < 65536) :
    linkFields ([kindByte 0] ++ (LinkMsg.data seq p).covered) = some (.data seq p) := by
  obtain ⟨a, b, htwo, hnumber⟩ := lineTwo_cases hp
  simp [linkFields, LinkMsg.covered, be1, htwo, hnumber, Nat.mod_eq_of_lt hseq]

theorem linkFields_sup {m : Sup} (hn : m.n < 256) : linkFields (LinkMsg.sup m).covered = some (.sup m) := by
  obtain ⟨kind, n⟩ := m
  have hmod : n % 256 = n := Nat.mod_eq_of_lt hn
  cases kind <;> simp [linkFields, LinkMsg.covered, be1, supNumber, kindByte_inj, hmod]

theorem linkFields_setup {w n : Nat} (hw : w < 256) (hn : n < 65536) :
    linkFields (LinkMsg.setup w n).covered = some (.setup w n) := by
  obtain ⟨a, b, htwo, hnumber⟩ := lineTwo_cases hn
  simp [linkFields, LinkMsg.covered, be1, htwo, hnumber, kindByte_inj, Nat.mod_eq_of_lt hw]

/-! ## Supervisory messages (R89) -/

/-- The blocks removed raise the clean run by those sent once, whatever the list and the pointer become. -/
theorem Blc.cleanBlock_with (b : Blc) (u : List Block) (p : Option Nat) :
    ({ b with unacked := u, resend := p } : Blc).cleanBlock = { b.cleanBlock with unacked := u, resend := p } := by
  simp only [Blc.cleanBlock, Blc.setBlock, Blc.resetAdaptation]
  (repeat' split) <;> rfl

theorem Blc.cleanBlocks_with (u : List Block) (p : Option Nat) (l : List Block) (b : Blc) :
    ({ b with unacked := u, resend := p } : Blc).cleanBlocks l = { b.cleanBlocks l with unacked := u, resend := p } := by
  induction l generalizing b with
  | nil => rfl
  | cons k r ih =>
    simp only [Blc.cleanBlocks]
    split
    · rw [Blc.cleanBlock_with, ih]
    · exact ih b

theorem Blc.cleanBlocks_eq_foldl (l : List Block) (b : Blc) :
    b.cleanBlocks l = (l.filter fun x => x.sends = 1).foldl (fun b _ => b.cleanBlock) b := by
  induction l generalizing b with
  | nil => rfl
  | cons k r ih =>
    by_cases hk : k.sends = 1 <;> simp [Blc.cleanBlocks, hk, ih]

@[simp] theorem Blc.cleanBlock_peerNotReady (b : Blc) : b.cleanBlock.peerNotReady = b.peerNotReady := by
  simp only [Blc.cleanBlock]
  (repeat' split) <;> rfl

@[simp] theorem Blc.cleanBlocks_peerNotReady (l : List Block) (b : Blc) :
    (b.cleanBlocks l).peerNotReady = b.peerNotReady := by
  induction l generalizing b with
  | nil => rfl
  | cons k r ih =>
    rw [Blc.cleanBlocks, ih]
    split <;> simp

/-- The resend pointer once the list is `seqs`: at a removed block it moves to the oldest left (R89). -/
def Blc.pointerIn (b : Blc) (seqs : List Nat) : Option Nat :=
  match b.resend with
  | some p => if p ∈ seqs then some p else seqs.head?
  | none => none

theorem Blc.removeAcked_eq (b : Blc) (n : Nat) :
    b.removeAcked n = { b.cleanBlocks (b.unacked.take (b.acked n)) with
      unacked := b.unacked.drop (b.acked n)
      resend := b.pointerIn ((b.unacked.drop (b.acked n)).map fun x : Block => x.seq) } := by
  rw [Blc.removeAcked, Blc.cleanBlocks_with]
  cases hp : b.resend with
  | none => simp only [Blc.pointerIn, hp]
  | some p => simp only [Blc.pointerIn, hp, List.any_eq_true, beq_iff_eq, List.mem_map, List.head?_map]

/-- The table of R89 on a list already shortened: RNR alone leaves the peer not ready. -/
theorem Blc.bySup_eq (b : Blc) (kind : SupKind) (n : Nat) :
    b.bySup kind n =
      let back := if n ∈ b.unacked.map (fun x : Block => x.seq) then some n else b.resend
      { b with
        peerNotReady := decide (kind = .rnr)
        resend := match kind with
          | .ack => if b.peerNotReady then back else b.resend
          | .rej => back
          | .rnr => b.resend } := by
  simp only [Blc.bySup, Blc.find_isSome_iff]
  cases kind with
  | ack =>
    cases hready : b.peerNotReady with
    | true => simp
    | false =>
      have hsame : b = { b with peerNotReady := false } := by rw [← hready]
      simpa using hsame
  | rej => rfl
  | rnr => rfl

/-- An accepted supervisory message, field by field (R89, R90): the list shortened, the pointer moved by the removal and
by the kind, the retry timer. -/
theorem State.takeSup_eq (s : State) (i : LineNo) (kind : SupKind) (n : Nat) :
    s.takeSup i kind n =
      let b := (s.line i).blc
      let left := b.unacked.drop (b.acked n)
      let seqs := left.map fun x : Block => x.seq
      let ptr := b.pointerIn seqs
      let back := if n ∈ seqs then some n else ptr
      (s.updBlc i fun _ =>
        { ((b.unacked.take (b.acked n)).filter fun x => x.sends = 1).foldl (fun b _ => b.cleanBlock) b with
          unacked := left
          peerNotReady := decide (kind = .rnr)
          resend := match kind with
            | .ack => if b.peerNotReady then back else ptr
            | .rej => back
            | .rnr => ptr
          retryDue := if left = [] ∨ kind = .rnr ∨ (s.line i).dp.pump ≠ .running then none
            else if 0 < b.acked n ∨ b.peerNotReady = true then some (s.now + 1500) else b.retryDue }).startTx i := by
  refine congrArg (fun u : State => u.startTx i) (State.updBlc_congr s i ?_)
  simp only [← Blc.cleanBlocks_eq_foldl, Blc.removeAcked_eq, Blc.bySup_eq, Blc.cleanBlocks_peerNotReady,
    List.isEmpty_iff, decide_eq_true_eq, beq_eq_false_iff_ne]

/-! ## Events of the link at a running part -/

theorem exec_setupMessageReceived (i : LineNo) (w n : Nat) (s : State) :
    exec (.setupMessageReceived i w n) s = execSetupMessageReceived i w n s := rfl

section
variable {s : State} {i : LineNo} (hp : s.phase = .running)
include hp

theorem exec_setupMessageReceived_setup (w n : Nat) (h : (s.line i).blc.link = .setup) :
    exec (.setupMessageReceived i w n) s = .next (s.setupEc i w n).settle := by
  rw [exec_setupMessageReceived, execSetupMessageReceived, react_running hp]
  simp only [h]

/-- In EC mode a setup message of the peer has the own one owed again (R83). -/
theorem exec_setupMessageReceived_ec (w n : Nat) (hm : (s.line i).blc.mode = some .ec)
    (h : (s.line i).blc.link = .up ∨ (s.line i).blc.link = .suspended) :
    exec (.setupMessageReceived i w n) s = .next
      (let u := s.updBlc i fun b => { b with setupOwed := true }
      (if (s.line i).blc.link = .up then u.startTx i else u).settle) := by
  rw [exec_setupMessageReceived, execSetupMessageReceived, react_running hp]
  rcases h with h | h
  · simp only [h, hm, if_true]
  · simp only [h, hm, reduceCtorEq, if_false]

/-- A supervisory message with a number within the list is taken (R89). -/
theorem exec_supervisoryMessageReceived_ec (kind : SupKind) (n : Nat) (hm : (s.line i).blc.mode = some .ec)
    (h : (s.line i).blc.link = .up ∨ (s.line i).blc.link = .suspended) :
    exec (.supervisoryMessageReceived i kind n) s = .next
      (if (s.line i).blc.unacked.length < (s.line i).blc.acked (n % 128) then s
      else s.takeSup i kind (n % 128)).settle := by
  refine (react_running hp _).trans ?_
  simp only [hm, h, true_and, ← Nat.not_lt, ite_not]

/-- A data block in EC mode is judged by its length, and a good one is taken in UP (R86, R91). -/
theorem exec_dataBlockReceived_ec (seq : Nat) (p : List Byte) (hm : (s.line i).blc.mode = some .ec)
    (h : (s.line i).blc.link = .up ∨ (s.line i).blc.link = .suspended) :
    exec (.dataBlockReceived i seq p) s = .next
      (if p.length = 0 ∨ (s.line i).blc.maxBlock < p.length then s.countBadCheck i
      else if (s.line i).blc.link = .up then s.takeBlock i (seq % 128) p else s).settle := by
  refine (react_running hp _).trans ?_
  simp only [hm, h, and_self, if_true, List.isEmpty_iff_length_eq_zero]

theorem exec_dataBlockReceived_setup (seq : Nat) (p : List Byte) (h : (s.line i).blc.link = .setup) :
    exec (.dataBlockReceived i seq p) s = .next s.settle := by
  refine (react_running hp _).trans ?_
  simp only [h, reduceCtorEq, or_self, and_false, if_false]

/-- The oldest block is resent from (R90). -/
theorem exec_retryTimerExpiry_of_oldest {d : Nat} {k : Block} {r : List Block}
    (hdue : (s.line i).blc.retryDue = some d) (hl : (s.line i).blc.unacked = k :: r) :
    exec (.retryTimerExpiry i) s = .next
      (let u := (s.reach d).updBlc i fun b => { b with
        unacked := { k with retries := k.retries + 1 } :: r, resend := some k.seq
        retryDue := some (max s.now d + 1500) }
      (if 11 ≤ k.retries + 1 then u.raiseCause i .linkFailed else u.startTx i).settle) := by
  refine (react_onExpiry (fun s => (s.line i).blc.retryDue) (fun s => s.retryExpires i) hp hdue).trans ?_
  simp only [State.retryExpires, State.reach_line, hl, State.reach_now]

end

theorem Line.takesMessages_iff {l : Line} :
    l.takesMessages = true ↔
      l.blc.link = .setup ∨ (l.blc.mode = some .ec ∧ (l.blc.link = .up ∨ l.blc.link = .suspended)) := by
  simp [Line.takesMessages]

/-! ## The host's side (R84, R85, R165) -/

/-- DATA_IN at a ready part is taken at once (R165). -/
theorem exec_dataIn_ready {s : State} (h : s.ready) (line tag : Nat) (bytes : List Byte) :
    exec (.dataIn line tag bytes) s = .next (s.takeDataIn line bytes).settle := by
  obtain ⟨hp, hopen, hhard, hempty, _⟩ := h
  exact hostRecord_taken hp hempty (by simp [Lp.canTake, hopen, hhard])

theorem State.takeDataIn_of_connected {s : State} {i : LineNo} (bytes : List Byte)
    (h : (s.line i).cc.connectedData = true) : s.takeDataIn i.val bytes = s.takeData i bytes := by
  simp only [State.takeDataIn, lineOf_val, h, if_true]

/-- Bytes for no line in a data call are stray (R165). -/
theorem State.takeDataIn_of_stray {s : State} {line : Nat} (bytes : List Byte)
    (h : 4 ≤ line ∨ ∃ j : LineNo, line = j.val ∧ (s.line j).cc.connectedData = false) :
    s.takeDataIn line bytes = s.linkError fun c => { c with stray := satAdd c.stray 1 } := by
  rcases h with hline | ⟨j, rfl, hj⟩
  · simp only [State.takeDataIn, lineOf_eq_none hline]
  · simp only [State.takeDataIn, lineOf_val, hj, Bool.false_eq_true, if_false]

/-- While the count can rise it does, with LERR (R171). -/
theorem State.linkError_stray {s : State} (h : s.cnt.stray < Config.counterMax) :
    s.linkError (fun c => { c with stray := satAdd c.stray 1 }) =
      ({ s with cnt := { s.cnt with stray := s.cnt.stray + 1 } } : State).raisePart .lerr := by
  have hsat : satAdd s.cnt.stray 1 = s.cnt.stray + 1 := min_eq_right h
  have hrises : ({ s.cnt with stray := s.cnt.stray + 1 } : PartCounters) ≠ s.cnt := fun heq =>
    absurd (congrArg PartCounters.stray heq) (Nat.succ_ne_self _)
  simp only [State.linkError, hsat, if_neg hrises]

theorem takeFlow_of_flag (s : State) (i : LineNo) {value : Nat} {v : Bool} (h : flagOf value = some v) :
    takeFlow s i.val value = okWith (s.updBlc i fun b => { b with hold := !v }) [] := by
  simp only [takeFlow, onLine_val, h]

theorem takeFlow_of_noFlag (s : State) (i : LineNo) {value : Nat} (h : flagOf value = none) :
    takeFlow s i.val value = refuse s .badArgument := by
  simp only [takeFlow, onLine_val, h]

theorem flagOf_eq_none {n : Nat} (h : 2 ≤ n) : flagOf n = none := by
  unfold flagOf
  split
  · omega
  · omega
  · rfl

/-! ## The settled obligations -/

/-- Settles O34: a supervisory message by what it removes and what its kind makes of the rest, a data block by its length
and its distance from the next one, the bytes of a message by the fields they spell. -/
theorem linkReceivesMessages : Obligations.LinkReceivesMessages := by
  intro s i hp b
  refine ⟨fun kind n hm hl => ?supervisory, fun seq p hm hl => ?block, fun seq p hm hl => ?suspended,
    fun seq p hl => exec_dataBlockReceived_setup hp seq p hl, fun x hm hl => ?plain,
    fun seq p hseq hlen => ?data, fun m hn => ?sup, fun w n hw hn => ?setup,
    fun l check m hlen hfields hcheck => linkCommand_unchecked i hlen hfields hcheck⟩
  case supervisory =>
    rw [exec_supervisoryMessageReceived_ec hp kind n hm hl, State.takeSup_eq]
    rfl
  case block =>
    rw [exec_dataBlockReceived_ec hp seq p hm (.inl hl), if_pos hl]
    rfl
  case suspended =>
    have hdown : ¬ (s.line i).blc.link = .up := fun h => by cases hl.symm.trans h
    rw [exec_dataBlockReceived_ec hp seq p hm (.inr hl), if_neg hdown]
    rfl
  case plain => exact (react_running hp _).trans (by rw [if_pos ⟨hm, hl⟩]; rfl)
  case data => exact linkCommand_checked i (linkFields_data hseq hlen)
  case sup => exact linkCommand_checked i (linkFields_sup hn)
  case setup => exact linkCommand_checked i (linkFields_setup hw hn)

/-- Settles O33: setup and the timers as events of a running part, the transmitter by its first choice that applies, the
span by its count. -/
theorem linkSetupAndTransmitter : Obligations.LinkSetupAndTransmitter := by
  intro s i hp b
  refine ⟨fun w n h => exec_setupMessageReceived_setup hp w n h,
    fun w n hm hl => exec_setupMessageReceived_ec hp w n hm hl, fun d h => ?tryEnds, fun h => ?transmitted, ?bad,
    fun d k r hdue hl => exec_retryTimerExpiry_of_oldest hp hdue hl,
    fun h => State.startTx_of_blocked h,
    fun hrun hidle => ⟨fun hl => State.startTx_of_setup hrun hidle hl,
      fun hl hm => ⟨fun x r htx => State.startTx_of_byte hrun hidle hl hm htx,
        fun htx => State.startTx_of_noByte hrun hidle hl hm htx⟩,
      fun hl hm => ?ec⟩, rfl, fun again => ?span, rfl⟩
  case tryEnds =>
    refine (react_onExpiry (fun s => (s.line i).blc.tryDue) _ hp h).trans ?_
    exact congrArg _ (apply_ite State.settle _ _ _)
  case transmitted => exact (react_running hp _).trans (by rw [if_pos h]; rfl)
  case bad =>
    have hbad : exec (.badMessageReceived i) s =
        .next (if (s.line i).takesMessages then s.countBadCheck i else s).settle := react_running hp _
    simp only [hbad, Line.takesMessages_iff]
    rfl
  case ec =>
    rw [State.startTx_of_ec hrun hidle hl hm]
    refine ⟨fun m h => State.startEc_of_slot h, fun hslot h => State.startEc_of_setupOwed hslot h,
      fun hslot howed h => State.startEc_of_peerNotReady hslot howed h,
      fun hslot howed hready => ⟨fun pre k r hlist hfirst hptr =>
        State.startEc_of_resend hslot howed hready hlist hfirst hptr, fun hptr => ?new⟩⟩
    case new =>
      rw [State.startEc_of_noResend hslot howed hready hptr]
      exact ⟨fun h => State.newBlock_of_blocked h, fun htx hwindow => State.newBlock_of_open htx hwindow⟩
  case span =>
    intro n
    rw [State.sendEvent_eq]
    refine if_congr Iff.rfl rfl ?_
    exact congrArg (fun u : State => if 16 ≤ n then u.stepDown i else u)
      (State.updBlc_congr s i (Blc.spanJudged_sendCounted again b))

/-- Settles O35: DATA_IN by the call of the line it names, FLOW by its value. -/
theorem dataInAndFlowAreTaken : Obligations.DataInAndFlowAreTaken := by
  intro s i tag h
  refine ⟨fun bytes hstate hkind => ?taken, fun line bytes hline hcount => ?stray, ?holds, ?resumes, fun v hv => ?refused⟩
  case taken =>
    rw [exec_dataIn_ready h, State.takeDataIn_of_connected bytes (by simp [Cc.connectedData, hstate, hkind])]
    rfl
  case stray => rw [exec_dataIn_ready h, State.takeDataIn_of_stray bytes hline, State.linkError_stray hcount]
  case holds => exact hostRecord_answers h (takeFlow_of_flag s i (value := 0) rfl)
  case resumes => exact hostRecord_answers h (takeFlow_of_flag s i (value := 1) rfl)
  case refused => exact hostRecord_refuses h (takeFlow_of_noFlag s i (flagOf_eq_none hv))

end Sys2Proof.Machine
end

section
/-! PROOFS. The fax transfer (chapter 7): O36 to O41. The cells of a page entry and its zeroed frames, what a running job
does with a message it awaits, then the obligations. -/

namespace Sys2Proof.Machine

open Sys2Proof

/-! ## The entry of an id (R118) -/

theorem Stc.entry_eq_some {t : Stc} {id : Nat} {e : Entry} : t.entry id = some e ↔ t.dir[id]? = some (some e) := by
  simp [Stc.entry, Option.join_eq_some_iff]

/-- A change of a used entry writes it at its place. -/
theorem Stc.updEntry_of_entry {t : Stc} {id : Nat} {e : Entry} (f : Entry → Entry) (h : t.entry id = some e) :
    t.updEntry id f = { t with dir := t.dir.set id (some (f e)) } := by
  have hdir := Stc.entry_eq_some.1 h
  refine congrArg (fun d => { t with dir := d }) (List.ext_getElem? fun k => ?_)
  by_cases hk : id = k
  · subst hk
    rw [List.getElem?_modify_eq, hdir, List.getElem?_set_self (List.getElem?_eq_some_iff.1 hdir).1]
    rfl
  · rw [List.getElem?_modify_ne _ _ hk, List.getElem?_set_ne hk]

theorem Stc.entry_updEntry {t : Stc} {id : Nat} {e : Entry} (f : Entry → Entry) (h : t.entry id = some e) :
    (t.updEntry id f).entry id = some (f e) := by
  have hlt : id < t.dir.length := (List.getElem?_eq_some_iff.1 (Stc.entry_eq_some.1 h)).1
  rw [Stc.updEntry_of_entry f h, Stc.entry_eq_some, List.getElem?_set_self hlt]

/-! ## Zeroed bytes of the store (R110) -/

/-- A selection of cells by their addresses keeps what is read at a selected address. -/
theorem memRead_filter (q : Nat → Bool) (x : Nat) : ∀ m : List Host.Cell,
    memRead (m.filter fun c => q c.1) x = if q x then memRead m x else unlistedByte
  | [] => by simp [memRead]
  | c :: r => by
    have ih := memRead_filter q x r
    by_cases hc : c.1 = x
    · subst hc
      cases hq : q c.1 <;> simp_all [memRead]
    · cases hq : q c.1 <;> simp_all [memRead]

theorem memRead_memClear (m : List Host.Cell) (a n x : Nat) :
    memRead (memClear m a n) x = if a ≤ x ∧ x < a + n then unlistedByte else memRead m x := by
  have h := memRead_filter (fun y => !(decide (a ≤ y) && decide (y < a + n))) x m
  refine h.trans ?_
  by_cases hx : a ≤ x ∧ x < a + n <;> simp [hx]

section
variable (id : Nat) (e : Entry) (off len : Nat → Nat)

/-- Zeroing leaves the directory and the move, and so every payload address. -/
theorem Stc.foldl_zero_dir : ∀ (l : List Nat) (t : Stc),
    (l.foldl (fun u k => u.zero (u.addr id e (off k)) (len k)) t).dir = t.dir
  | [], _ => rfl
  | k :: r, t => Stc.foldl_zero_dir r (t.zero (t.addr id e (off k)) (len k))

/-- Zeros over one range after another: a byte of one of them is zero, every other one is as it was. -/
theorem Stc.memRead_foldl_zero (x : Nat) : ∀ (l : List Nat) (t : Stc),
    memRead (l.foldl (fun u k => u.zero (u.addr id e (off k)) (len k)) t).mem x =
      if ∃ k ∈ l, t.addr id e (off k) ≤ x ∧ x < t.addr id e (off k) + len k then unlistedByte else memRead t.mem x
  | [], _ => by simp
  | k :: r, t => by
    have ih := Stc.memRead_foldl_zero x r (t.zero (t.addr id e (off k)) (len k))
    have hzero : memRead (t.zero (t.addr id e (off k)) (len k)).mem x = _ := memRead_memClear t.mem _ _ x
    have haddr : ∀ b, (t.zero (t.addr id e (off k)) (len k)).addr id e b = t.addr id e b := fun _ => rfl
    rw [List.foldl_cons, ih, hzero]
    simp only [haddr, List.exists_mem_cons_iff, ← ite_or, or_comm]

end

/-! ## The cells of a fax entry (R110, R116) -/

section
variable {t : Stc} {id : Nat} {e : Entry} (hv : e.kind.voice = false)
include hv

/-- The bytes of one cell of a fax entry lie next to each other. -/
theorem Stc.addr_fax (q r : Nat) (hr : r < 1024) : t.addr id e (q * 1024 + r) = t.addr id e (q * 1024) + r := by
  have hcell : (q * 1024 + r) / 1024 = q := by omega
  have hbyte : (q * 1024 + r) % 1024 = r := by omega
  simp [Stc.addr, hv, Config.cellBytes, hcell, hbyte]

/-- The zeroed ranges of a partial page are the addresses of its frames' bytes. -/
theorem Stc.in_zeroed_iff (p c x : Nat) :
    (∃ k ∈ List.range ((c + 7) / 8), t.addr id e (p * 16384 + k * 1024) ≤ x
        ∧ x < t.addr id e (p * 16384 + k * 1024) + min 1024 (c * 128 - k * 1024)) ↔
      ∃ k < c * 128, x = t.addr id e (p * 16384 + k) := by
  have hsplit : ∀ k r, r < 1024 →
      t.addr id e (p * 16384 + (k * 1024 + r)) = t.addr id e (p * 16384 + k * 1024) + r := fun k r hr => by
    have hcell : p * 16384 + (k * 1024 + r) = (p * 16 + k) * 1024 + r := by omega
    have hbase : p * 16384 + k * 1024 = (p * 16 + k) * 1024 := by ring
    rw [hcell, hbase, Stc.addr_fax hv _ _ hr]
  constructor
  · rintro ⟨k, -, hle, hlt⟩
    obtain ⟨r, rfl⟩ := Nat.exists_eq_add_of_le hle
    have hr : r < 1024 := by omega
    exact ⟨k * 1024 + r, by omega, (hsplit k r hr).symm⟩
  · rintro ⟨k, hk, rfl⟩
    have haddr := hsplit (k / 1024) (k % 1024) (Nat.mod_lt _ (by decide))
    rw [Nat.div_add_mod'] at haddr
    refine ⟨k / 1024, List.mem_range.2 (by omega), ?_, ?_⟩ <;> rw [haddr] <;> omega

variable (h : t.entry id = some e)
include h

/-- A page is covered up to its partial page `p` as it stands, by 16 more cells at the frontier, or not at all (R110). -/
theorem Stc.cover_of_fax (p : Nat) :
    t.cover id p =
      if 16 * p + 16 ≤ e.extent then some t
      else if e.base + 1 - e.extent = t.ff ∧ 16 ≤ t.ff - t.fv then
        some { t with dir := t.dir.set id (some { e with extent := e.extent + 16 }) }
      else none := by
  simp only [Stc.cover, h, hv, Bool.false_eq_true, if_false, Stc.updEntry_of_entry _ h]
  rfl

/-- The used length of a page after a partial page began (R110). -/
theorem Stc.zeroPart_entry (p c : Nat) :
    (t.zeroPart id p c).entry id = some { e with used := max e.used (min (e.extent * 1024) (p * 16384 + c * 128)) } := by
  have hcap : e.capacity = e.extent * 1024 := by simp [Entry.capacity, Entry.perCell, hv, Config.cellBytes]
  simp only [Stc.zeroPart, h, ← hcap]
  exact Stc.entry_updEntry _ (Stc.entry_eq_some.2 ((congrArg (fun d => d[id]?)
    (Stc.foldl_zero_dir id e _ _ _ t)).trans (Stc.entry_eq_some.1 h)))

/-- The bytes of the partial page's frames are zero, and no other byte changes (R110). -/
theorem Stc.memRead_zeroPart (p c x : Nat) :
    memRead (t.zeroPart id p c).mem x =
      if ∃ k < c * 128, x = t.addr id e (p * 16384 + k) then unlistedByte else memRead t.mem x := by
  simp only [Stc.zeroPart, h, Stc.updEntry_mem, Stc.memRead_foldl_zero, Stc.in_zeroed_iff hv]

end


/-! ## Updates of one record (R98) -/

theorem State.updFxc_congr (s : State) (i : LineNo) {f g : Fxc → Fxc} (h : f (s.line i).fxc = g (s.line i).fxc) :
    s.updFxc i f = s.updFxc i g :=
  State.upd_congr s i _ _ (congrArg (fun x => { s.line i with fxc := x }) h)

/-- Changes of the record that agree on the job are equal. -/
theorem State.updJob_congr {s : State} {i : LineNo} {j : FaxJob} {f g : FaxJob → FaxJob}
    (hjob : (s.line i).fxc.job = some j) (h : f j = g j) : s.updJob i f = s.updJob i g := by
  refine State.updFxc_congr s i ?_
  simp only [hjob, Option.map_some, h]

/-! ## Events at a running job (R98, R102) -/

/-- The running job is the one in the record. -/
theorem Line.job_of_running {l : Line} {j : FaxJob} (h : l.runningJob = some j) : l.fxc.job = some j := by
  unfold Line.runningJob at h
  split at h
  · exact h
  · cases h

theorem State.atJob_of_running {s : State} {i : LineNo} {j : FaxJob} {d : FaxDir} (f : FaxJob → State)
    (hj : (s.line i).runningJob = some j) (hd : j.dir = some d) : s.atJob i d f = f j := by
  simp only [State.atJob, hj, hd, if_true]

/-- A receive job's message that awaits nothing: sent, the sender awaited afresh (R102). -/
theorem State.faxTell_eq (s : State) (i : LineNo) (m : FaxMsg) :
    s.faxTell i m = s.updFxc i fun x => { x with sent := some m, wait := .sender (s.now + 10000) } := by
  rw [State.faxTell, State.faxSend, State.senderWait, State.updFxc_updFxc]
  rfl

/-! ## The fax requests (R99 to R101, R153) -/

theorem Cc.faxCall_eq_false {c : Cc} :
    c.faxCall = false ↔ c.kind ≠ some .fax ∨ c.state = .idle ∨ c.state = .ringing ∨ c.state = .clearing := by
  cases h : c.state <;> simp [Cc.faxCall, h]

section
variable (s : State) (i : LineNo)

/-- A job is refused in a plan's hand-over, outside a fax call, and beside another job or a plan, in this order
(log 80). -/
theorem State.jobRefusal_eq :
    s.jobRefusal i =
      if (s.line i).apc.plan = .faxHandoff ∧ (s.line i).cc.state = .connected ∧ (s.line i).cc.kind = some .voice then
        some .busy
      else if (s.line i).cc.kind ≠ some .fax ∨ (s.line i).cc.state = .idle ∨ (s.line i).cc.state = .ringing
          ∨ (s.line i).cc.state = .clearing then some .wrongState
      else if (s.line i).jobLive = true ∨ (s.line i).planActive = true then some .busy
      else none := by
  simp only [State.jobRefusal, Cc.connectedVoice_iff, Cc.faxCall_eq_false]

section
variable {pages : List Nat} {resolution width policy : Nat} {r : Resolution} {p : Policy}

/-- FAXS with every operand in its range: refused by the line, then by the pages, else accepted (R99). -/
theorem takeFaxs_of_good (hr : Resolution.of resolution = some r) (hp : Policy.of policy = some p) (hw : width ≤ 2)
    (hsome : 1 ≤ pages.length) (hfew : pages.length ≤ 16) (hids : ∀ x ∈ pages, x < 96) :
    takeFaxs s i.val pages resolution width policy =
      (s.jobRefusal i).elim
        ((s.pagesRefusal pages).elim
          (s.acceptJob i { dir := some .send, pages := pages, policy := p, wanted := ⟨r, width⟩ }) (refuse s))
        (refuse s) := by
  have hrange : ¬ (pages.isEmpty = true ∨ 16 < pages.length ∨ (pages.any fun x => decide (Config.dirSize ≤ x)) = true
      ∨ 2 < width) := by
    simp only [List.isEmpty_iff_length_eq_zero, List.any_eq_true, decide_eq_true_eq, not_or, not_exists, not_and]
    exact ⟨by omega, by omega, fun x hx => Nat.not_le.2 (hids x hx), by omega⟩
  simp only [takeFaxs, onLine_val, hr, hp, if_neg hrange]
  cases s.jobRefusal i with
  | some st => rfl
  | none => cases s.pagesRefusal pages <;> rfl

theorem takeFaxs_of_bad
    (h : Resolution.of resolution = none ∨ Policy.of policy = none ∨ 2 < width ∨ pages = [] ∨ 16 < pages.length
      ∨ ∃ x ∈ pages, 96 ≤ x) :
    takeFaxs s i.val pages resolution width policy = refuse s .badArgument := by
  rw [takeFaxs, onLine_val]
  cases hr : Resolution.of resolution with
  | none => rfl
  | some r =>
    cases hp : Policy.of policy with
    | none => rfl
    | some p =>
      refine if_pos ?_
      simp only [hr, hp, reduceCtorEq, false_or] at h
      simp only [List.isEmpty_iff, List.any_eq_true, decide_eq_true_eq]
      rcases h with hwide | hempty | hlong | hid
      exacts [.inr (.inr (.inr hwide)), .inl hempty, .inr (.inl hlong), .inr (.inr (.inl hid))]

theorem takeFaxr_of_known (hp : Policy.of policy = some p) :
    takeFaxr s i.val policy =
      (s.jobRefusal i).elim (s.acceptJob i { dir := some .receive, policy := p }) (refuse s) := by
  simp only [takeFaxr, onLine_val, hp]
  cases s.jobRefusal i <;> rfl

theorem takeFaxr_of_unknown (hp : Policy.of policy = none) : takeFaxr s i.val policy = refuse s .badArgument := by
  simp only [takeFaxr, onLine_val, hp]

end

theorem takeFxst_of_job {j : FaxJob} (h : (s.line i).fxc.job = some j) : takeFxst s i.val = okWith s j.fields := by
  simp only [takeFxst, onLine_val, h]

theorem takeFxst_of_noJob (h : (s.line i).fxc.job = none) : takeFxst s i.val = refuse s .notFound := by
  simp only [takeFxst, onLine_val, h]

theorem takeFxab_of_live (h : (s.line i).jobLive = true) :
    takeFxab s i.val = okWith
      (((if (s.line i).jobRunning then s.faxSend i .release else s).endJob i .aborted).raiseCause i .hostRelease) [] := by
  simp only [takeFxab, onLine_val, h, if_true]

theorem takeFxab_of_notLive (h : (s.line i).jobLive = false) : takeFxab s i.val = refuse s .wrongState := by
  simp only [takeFxab, onLine_val, h, Bool.false_eq_true, if_false]

end

/-! The checks of FAXS on its pages, in order -/

section
variable {s : State} {pages : List Nat}

/-- A check over the pages asks their entries. -/
theorem State.any_entries (q : Option Entry → Bool) :
    (pages.map s.stc.entry).any q = true ↔ ∃ x ∈ pages, q (s.stc.entry x) = true := by
  simp only [List.any_map, List.any_eq_true, Function.comp_apply]

theorem State.pagesRefusal_of_free (h : ∃ x ∈ pages, s.stc.entry x = none) :
    s.pagesRefusal pages = some .notFound := by
  obtain ⟨x, hx, hnone⟩ := h
  exact if_pos ((State.any_entries _).2 ⟨x, hx, by rw [hnone]; rfl⟩)

section
variable (hused : ∀ x ∈ pages, ∃ e, s.stc.entry x = some e)
include hused

theorem State.pages_used : ¬ (pages.map s.stc.entry).any Option.isNone = true := by
  rw [State.any_entries]
  rintro ⟨x, hx, hnone⟩
  obtain ⟨e, he⟩ := hused x hx
  simp [he] at hnone

theorem State.pagesRefusal_of_unsendable (h : ∃ x ∈ pages, ∃ e, s.stc.entry x = some e
    ∧ (e.kind ≠ .faxTxPage ∨ e.used = 0 ∨ 262144 < e.used)) : s.pagesRefusal pages = some .badArgument := by
  obtain ⟨x, hx, e, he, hbad⟩ := h
  refine (if_neg (State.pages_used hused)).trans (if_pos ((State.any_entries _).2 ⟨x, hx, ?_⟩))
  rw [he]
  simpa [or_assoc] using hbad

variable (hgood : ∀ x ∈ pages, ∀ e, s.stc.entry x = some e → e.kind = .faxTxPage ∧ 1 ≤ e.used ∧ e.used ≤ 262144)
include hgood

/-- Of used entries that are fax pages to send with bytes enough, only an OPEN one is refused. -/
theorem State.pagesRefusal_of_good : s.pagesRefusal pages =
    if ∃ x ∈ pages, ∃ e, s.stc.entry x = some e ∧ e.open_ = true then some .wrongState else none := by
  refine (if_neg (State.pages_used hused)).trans ((if_neg ?sendable).trans (if_congr ?opened rfl rfl))
  case sendable =>
    rw [State.any_entries]
    rintro ⟨x, hx, hbad⟩
    obtain ⟨e, he⟩ := hused x hx
    obtain ⟨hkind, hfirst, hlast⟩ := hgood x hx e he
    rw [he] at hbad
    simp [hkind] at hbad
    omega
  case opened =>
    rw [State.any_entries]
    refine exists_congr fun x => and_congr_right fun hx => ?_
    obtain ⟨e, he⟩ := hused x hx
    simp [he]

end

end

/-! ## The fax waits (R100, R102, R113) -/

section
variable {s : State} {i : LineNo} (hp : s.phase = .running)
include hp

theorem exec_faxJobWaitExpiry_running {d : Nat} (h : (s.line i).fxc.jobWaitDue = some d) :
    exec (.faxJobWaitExpiry i) s = .next ((s.reach d).noJob i).settle := by
  change execFaxJobWaitExpiry i s = _
  exact react_onExpiry (fun s => (s.line i).fxc.jobWaitDue) _ hp h

theorem exec_faxAnswerWaitExpiry_running {m : FaxMsg} {tries d : Nat} (h : (s.line i).fxc.wait = .answer m tries d) :
    exec (.faxAnswerWaitExpiry i) s = .next ((s.reach d).answerMissing i m tries).settle := by
  change execFaxAnswerWaitExpiry i s = _
  refine (react_running hp _).trans ?_
  simp only [h]

theorem exec_faxSenderWaitExpiry_capability {d : Nat} (h : (s.line i).fxc.wait = .capability d) :
    exec (.faxSenderWaitExpiry i) s = .next ((s.reach d).failJob i .noResponse).settle := by
  change execFaxSenderWaitExpiry i s = _
  refine (react_running hp _).trans ?_
  simp only [h]

/-- A receive job's wait on the sender ends by the phase (R113). -/
theorem exec_faxSenderWaitExpiry_sender {d : Nat} {j : FaxJob} (h : (s.line i).fxc.wait = .sender d)
    (hj : (s.line i).runningJob = some j) :
    exec (.faxSenderWaitExpiry i) s = .next
      (if j.phase = .release then (s.reach d).doneJob i else (s.reach d).failJob i .noResponse).settle := by
  change execFaxSenderWaitExpiry i s = _
  refine (react_running hp _).trans ?_
  simp only [h, State.senderMissing, State.reach_line, hj]

theorem exec_releaseWaitExpiry_running {d : Nat} (h : (s.line i).fxc.wait = .release d) :
    exec (.releaseWaitExpiry i) s = .next ((s.reach d).doneJob i).settle := by
  change execReleaseWaitExpiry i s = _
  refine (react_running hp _).trans ?_
  simp only [h]

variable {j : FaxJob} (hj : (s.line i).runningJob = some j)
include hj

theorem exec_badFaxMessageReceived_unreadable :
    exec (.badFaxMessageReceived i .unreadable) s = .next
      (if j.phase = .page then s.updJob i FaxJob.goesOn else s).settle := by
  change execBadFaxMessageReceived i .unreadable s = _
  refine (react_running hp _).trans ?_
  simp only [State.unreadable, hj]

theorem exec_badFaxMessageReceived_outOfPhase (k : FaxKind) :
    exec (.badFaxMessageReceived i (.outOfPhase k)) s = .next (s.answerAgain i j k).settle := by
  change execBadFaxMessageReceived i (.outOfPhase k) s = _
  refine (react_running hp _).trans ?_
  simp only [hj]

end

/-! ## The set-up (R102, R103) -/

section
variable (s : State) (i : LineNo)

@[simp] theorem State.startCheck_now (c : Cls) (after : AfterCheck) : (s.startCheck i c after).now = s.now := by
  dsimp only [State.startCheck]
  split <;> split <;> rfl

/-- A check by whether one of the job has been accepted before (R79, R104). -/
theorem State.startCheck_eq {j : FaxJob} (hjob : (s.line i).fxc.job = some j) (c : Cls) (after : AfterCheck) :
    s.startCheck i c after =
      let u := s.updJob i fun k => { k with phase := .train, fk := some c, after := after, bursts := 1 }
      if j.checked then
        ((u.updDp i fun d => { d.freshTraining with
          pump := .retraining, lossRun := 0, belowRun := 0, fwdRun := 0, stableRun := 0 }).updCnt i fun k => { k with
            retrains := satAdd k.retrains 1 })
      else u.updDp i Dp.freshTraining := by
  simp only [State.startCheck, hjob]
  cases j.checked <;> rfl

theorem State.senderWait_startCheck (c : Cls) (after : AfterCheck) :
    (s.startCheck i c after).senderWait i =
      (s.startCheck i c after).updFxc i fun x => { x with wait := .sender (s.now + 10000) } := by
  rw [State.senderWait, State.startCheck_now]

/-- A choice of a resolution or a width that the part does not know is refused (R103). -/
theorem State.takeChoice_of_unknown (c : Cls) {resolution width : Nat}
    (h : Resolution.of resolution = none ∨ 2 < width) :
    s.takeChoice i c resolution width =
      (((s.updJob i fun k => { k with phase := .negotiate }).faxSend i (.confirmation false)).failJob i
        .incompatible) := by
  cases hr : Resolution.of resolution with
  | none => simp only [State.takeChoice, hr]
  | some r =>
    have hwide : 2 < width := h.resolve_left (by simp [hr])
    simp only [State.takeChoice, hr, if_pos hwide]

/-- A known choice is confirmed, and the first check begins no higher than offered and counted (R103, log 74). -/
theorem State.takeChoice_of_known {j : FaxJob} (hjob : (s.line i).fxc.job = some j) (c : Cls) {resolution width : Nat}
    {r : Resolution} (hr : Resolution.of resolution = some r) (hw : ¬ 2 < width) :
    s.takeChoice i c resolution width =
      (((s.updJob i fun k => { k with
        phase := .negotiate, agreed := some ⟨r, width⟩, choiceAnswer := some true }).startCheck i
          (((asFax c).cap (j.offered.map asFax)).cap (s.line i).counted) .firstPage).updFxc i fun x => { x with
            sent := some (.confirmation true), wait := .sender (s.now + 10000) }) := by
  simp only [State.takeChoice, hr, if_neg hw, hjob, Option.bind_some, State.faxTell_eq, State.startCheck_now,
    State.updJob, State.updFxc_updFxc, Option.map_map, Function.comp_def, State.updFxc_now]

end

section
variable {s : State} {i : LineNo} {j : FaxJob} (hp : s.phase = .running) (hj : (s.line i).runningJob = some j)
include hp hj

theorem exec_capabilityReceived_send (hd : j.dir = some .send) (highest : Cls) (fine : Bool) (widest reserve : Nat) :
    exec (.capabilityReceived i highest fine widest reserve) s = .next
      (if j.phase = .setup then s.takeCapability i j highest fine widest reserve
      else s.answerAgain i j .capability).settle := by
  change execCapabilityReceived i highest fine widest reserve s = _
  refine (react_running hp _).trans ?_
  simp only [State.atJob_of_running _ hj hd]

theorem exec_choiceReceived_receive (hd : j.dir = some .receive) (c : Cls) (resolution width : Nat) :
    exec (.choiceReceived i c resolution width) s = .next
      (if j.phase = .setup then s.takeChoice i c resolution width else s.answerAgain i j .choice).settle := by
  change execChoiceReceived i c resolution width s = _
  refine (react_running hp _).trans ?_
  simp only [State.atJob_of_running _ hj hd]

theorem exec_confirmationReceived_send (hd : j.dir = some .send) (accepted : Bool) :
    exec (.confirmationReceived i accepted) s = .next
      (if j.phase = .negotiate then s.takeConfirmation i j accepted else s).settle := by
  change execConfirmationReceived i accepted s = _
  refine (react_running hp _).trans ?_
  simp only [State.atJob_of_running _ hj hd]

end

/-! ## Training checks (R79, R104) -/

section
variable {s : State} {i : LineNo} {j : FaxJob} (hp : s.phase = .running) (hj : (s.line i).runningJob = some j)
include hp hj

theorem exec_retrainAnnouncementReceived_receive (hd : j.dir = some .receive) (c : Cls) :
    exec (.retrainAnnouncementReceived i c) s = .next (s.takeAnnouncement i j c).settle := by
  change execRetrainAnnouncementReceived i c s = _
  refine (react_running hp _).trans ?_
  simp only [State.atJob_of_running _ hj hd]

/-- The burst of a check has been sent: its verdict is awaited (R102). -/
theorem exec_trainingBurstSent_send (hd : j.dir = some .send) {c : Cls} (hphase : j.phase = .train)
    (hwait : (s.line i).fxc.wait = .none) (hfk : j.fk = some c) :
    exec (.trainingBurstSent i) s = .next
      (s.updFxc i fun x => { x with
        sent := some (.burst c), wait := .answer (.burst c) j.bursts (s.now + 3000) }).settle := by
  change execTrainingBurstSent i s = _
  refine (react_running hp _).trans ?_
  simp only [State.atJob_of_running _ hj hd, hphase, hwait, and_self, if_true, State.burstSent, hfk]

theorem exec_verdictReceived_awaited (hd : j.dir = some .send) {c : Cls} {tries d : Nat} (rejected : Option Cls)
    (hwait : (s.line i).fxc.wait = .answer (.burst c) tries d) :
    exec (.verdictReceived i rejected) s = .next (s.takeVerdict i rejected).settle := by
  change execVerdictReceived i rejected s = _
  refine (react_running hp _).trans ?_
  simp only [State.atJob_of_running _ hj hd, hwait, FaxWait.awaits, FaxMsg.isBurst, if_true]

end

section
variable (s : State) (i : LineNo) {j : FaxJob}

/-- In TRAIN the announced class becomes that of the check, whose readings start afresh (R104). -/
theorem State.takeAnnouncement_train (hjob : (s.line i).fxc.job = some j) (c : Cls) (h : j.phase = .train) :
    s.takeAnnouncement i j c =
      ((s.updJob i fun k => { k with fk := some (((asFax c).cap j.fk).cap (s.line i).counted) }).updDp i
        Dp.freshTraining).updFxc i fun x => { x with wait := .sender (s.now + 10000) } := by
  simp only [State.takeAnnouncement, h]
  exact congrArg (fun u : State => (u.updDp i Dp.freshTraining).senderWait i) (State.updJob_congr hjob rfl)

/-- Between the checks an announcement begins one (R104). -/
theorem State.takeAnnouncement_page (c : Cls) (h : j.phase = .page ∨ j.phase = .postpage) :
    s.takeAnnouncement i j c =
      (s.startCheck i ((((asFax c).cap (s.line i).dp.cur).cap (s.line i).dp.owed).cap (s.line i).counted)
        (if j.partOpen ∧ j.partEnded = false then .samePart else .boundary)).updFxc i fun x => { x with
          wait := .sender (s.now + 10000) } := by
  rw [← State.senderWait_startCheck]
  rcases h with h | h <;> simp only [State.takeAnnouncement, h]

/-- The class of the check in progress, no higher than the cap of an order (log 74). -/
theorem Line.checkClass_of_job {l : Line} (hjob : l.fxc.job = some j) :
    l.checkClass = j.fk.map fun c => c.cap l.dp.owed := by
  simp only [Line.checkClass, hjob, Option.bind_some]

end

/-! ## A receive job takes pages (R106 to R111) -/

section
variable {s : State} {i : LineNo} {j : FaxJob} (hp : s.phase = .running) (hj : (s.line i).runningJob = some j)
  (hd : j.dir = some .receive)
include hp hj hd

/-- A header in PAGE by the ranges of its partial page and of its count (R106). -/
theorem exec_partialPageHeaderReceived_page (page part count : Nat) (last : Bool) (h : j.phase = .page) :
    exec (.partialPageHeaderReceived i page part count last) s = .next
      (if 15 < part then (s.failJob i .remoteError).settle
      else if count = 0 ∨ 128 < count then s.settle
      else (s.takeHeader i j part count last).settle) := by
  change execPartialPageHeaderReceived i page part count last s = _
  refine (react_running hp _).trans ?_
  simp only [State.atJob_of_running _ hj hd, h, ne_eq, not_true, if_false, apply_ite State.settle]

theorem exec_frameReceived_page (n : Nat) (bytes : List Byte) (h : j.phase = .page) :
    exec (.frameReceived i n bytes) s = .next (s.takeFrame i j n bytes).settle := by
  change execFrameReceived i n bytes s = _
  refine (react_running hp _).trans ?_
  simp only [State.atJob_of_running _ hj hd, h, if_true]

theorem exec_roundEndReceived_receive :
    exec (.roundEndReceived i) s = .next (s.takeRoundEnd i j).settle := by
  change execRoundEndReceived i s = _
  refine (react_running hp _).trans ?_
  simp only [State.atJob_of_running _ hj hd]

theorem exec_pageCloseReceived_receive (more : Bool) :
    exec (.pageCloseReceived i more) s = .next (s.takeClose i j more).settle := by
  change execPageCloseReceived i more s = _
  refine (react_running hp _).trans ?_
  simp only [State.atJob_of_running _ hj hd]

end

section
variable (s : State) (i : LineNo) (j : FaxJob) (count : Nat) (last : Bool)

/-- A header where no page has begun: the page's entry is allocated and attached, and its first partial page begins
(R109, log 94). -/
theorem State.takeHeader_begins (part : Nat) (hpage : j.page = none) :
    s.takeHeader i j part count last = if part ≠ 0 then s else s.beginReceivePage i j count last := by
  simp only [State.takeHeader, hpage, ne_eq, ite_not]

theorem State.takeHeader_continues {id : Nat} (hpage : j.page = some id) :
    s.takeHeader i j j.part count last = (s.updJob i FaxJob.goesOn).senderWait i := by
  simp only [State.takeHeader, hpage, if_true]

/-- A header of the next partial page ends the present one with the frames it lacks (R106, R107). -/
theorem State.takeHeader_next {id : Nat} (hpage : j.page = some id) :
    s.takeHeader i j (j.part + 1) count last =
      (if j.partEnded then s else s.updJob i fun k => k.endPart k.missing).takePart i id (j.part + 1) count last := by
  simp only [State.takeHeader, hpage, Nat.succ_ne_self, if_true, if_false]

theorem State.takeHeader_other {id part : Nat} (hpage : j.page = some id) (hsame : part ≠ j.part)
    (hnext : part ≠ j.part + 1) : s.takeHeader i j part count last = s := by
  simp only [State.takeHeader, hpage, if_neg hsame, if_neg hnext]

@[simp] theorem State.storeFrame_now (n : Nat) (b : List Byte) : (s.storeFrame i j n b).now = s.now := by
  unfold State.storeFrame
  split
  · rfl
  · split <;> rfl

/-- A frame in PAGE is stored where it is missing in the open partial page; every one restarts the sender wait (R106,
logs 84, 88). -/
theorem State.takeFrame_eq (n : Nat) (b : List Byte) :
    s.takeFrame i j n b =
      ((if j.partOpen = true ∧ j.partEnded = false ∧ n ∈ j.missing then s.storeFrame i j n b else s).updJob i
        FaxJob.goesOn).updFxc i fun x => { x with wait := .sender (s.now + 10000) } := by
  simp only [State.takeFrame, List.contains_iff_mem]
  split
  · have hnow : ((s.storeFrame i j n b).updJob i FaxJob.goesOn).now = s.now := State.storeFrame_now s i j n b
    rw [State.senderWait, hnow]
  · rfl

/-- A round end with no answer held, in an open partial page that has not ended, is judged (R106, R107). -/
theorem State.takeRoundEnd_judged (hmap : j.mapAnswer = none) (hphase : j.phase = .page) (hopen : j.partOpen = true)
    (hended : j.partEnded = false) : s.takeRoundEnd i j = s.judgeRound i j := by
  simp only [State.takeRoundEnd, hmap, hphase, hopen, hended, and_self, if_true]

theorem State.takeRoundEnd_repeated {m : FaxMsg} (hmap : j.mapAnswer = some m) :
    s.takeRoundEnd i j = s.faxTell i m := by
  simp only [State.takeRoundEnd, hmap]

end

/-! ## A send job sends pages (R105, R107, R112, R113) -/

section
variable {s : State} {i : LineNo} {j : FaxJob} (hp : s.phase = .running) (hj : (s.line i).runningJob = some j)
include hp hj

theorem exec_roundSent_sending (hd : j.dir = some .send) (hphase : j.phase = .page) (hopen : j.partOpen = true)
    (hwait : (s.line i).fxc.wait = .none) : exec (.roundSent i) s = .next (s.roundSent i j).settle := by
  change execRoundSent i s = _
  refine (react_running hp _).trans ?_
  have hsends : (s.line i).sendsRound = true := Line.sendsRound_iff.2 ⟨j, hj, hd, hphase, hopen, hwait⟩
  simp only [State.atJob_of_running _ hj hd, hsends, if_true]

/-- A frame map that answers the round end is followed with the frames of the partial page it names (R105). -/
theorem exec_frameMapReceived_awaited (hd : j.dir = some .send) {tries d : Nat} (missing : List Nat)
    (action : MapAction) (hwait : (s.line i).fxc.wait = .answer .roundEnd tries d) :
    exec (.frameMapReceived i missing action) s = .next (s.followMap i j (j.mapFrames missing) action).settle := by
  change execFrameMapReceived i missing action s = _
  refine (react_running hp _).trans ?_
  simp only [State.atJob_of_running _ hj hd, hwait, FaxWait.awaits, beq_self_eq_true, if_true]

theorem exec_pageConfirmationReceived_awaited (hd : j.dir = some .send) {more : Bool} {tries d : Nat}
    (hwait : (s.line i).fxc.wait = .answer (.pageClose more) tries d) :
    exec (.pageConfirmationReceived i) s = .next (s.pageConfirmed i j).settle := by
  change execPageConfirmationReceived i s = _
  refine (react_running hp _).trans ?_
  simp only [State.atJob_of_running _ hj hd, hwait, FaxWait.awaits, FaxMsg.isPageClose, if_true]

theorem exec_releaseReceived_running : exec (.releaseReceived i) s = .next (s.takeRelease i j).settle := by
  change execReleaseReceived i s = _
  refine (react_running hp _).trans ?_
  simp only [hj]

end

section
variable (s : State) (i : LineNo) (j : FaxJob)

/-- A message that awaits an answer, sent with another change of the exchange (R102). -/
theorem State.faxAsk_updFxc (f : Fxc → Fxc) (m : FaxMsg) :
    (s.updFxc i f).faxAsk i m =
      s.updFxc i fun x => { f x with sent := some m, wait := .answer m 1 (s.now + 3000) } := by
  rw [State.faxAsk, State.updFxc_updFxc]
  rfl

@[simp] theorem State.readFrame_now (n : Nat) : (s.readFrame i j n).1.now = s.now := by
  unfold State.readFrame
  split
  · rfl
  · split
    · rfl
    · dsimp only
      split <;> rfl

/-- Reading frames takes no time. -/
theorem State.readRound_now : ∀ (l : List Nat) (s : State), (s.readRound i j l).1.now = s.now
  | [], _ => rfl
  | n :: r, s => (State.readRound_now r (s.readFrame i j n).1).trans (State.readFrame_now s i j n)

/-- The frames of the round are read, and round end is asked (R105). -/
theorem State.roundSent_eq :
    s.roundSent i j =
      (s.readRound i j j.missing).1.updFxc i fun x => { x with
        roundOut := (s.readRound i j j.missing).2, sent := some .roundEnd
        wait := .answer .roundEnd 1 (s.now + 3000) } := by
  simp only [State.roundSent, State.faxAsk_updFxc, State.readRound_now]

end

/-! ## The settled obligations -/

/-- Settles O40: a header by the page in progress and the partial page it names, the cells and bytes by the laws of a
fax entry, a frame by the missing list, a round end by its answer, a page close by the page. -/
theorem faxReceiveJobTakesPages : Obligations.FaxReceiveJobTakesPages := by
  intro s i j hp hj hd
  refine ⟨fun page part count last h => ?header, fun t id p c e he hv => ?cells, fun n bytes h => ?frame,
    fun m h => ?roundRepeated, fun hmap hphase hopen hended => ?roundJudged, fun id more hpage h => ?close,
    fun more hpage hanswered => ?closeRepeated⟩
  case header =>
    rw [exec_partialPageHeaderReceived_page hp hj hd page part count last h]
    refine congrArg _ (if_congr Iff.rfl rfl (if_congr Iff.rfl rfl (congrArg State.settle ?_)))
    cases hpage : j.page with
    | none =>
      rw [State.takeHeader_begins s i j count last part hpage]
      by_cases hpart : part = 0
      · subst hpart
        rw [if_neg (not_not.2 rfl)]
        simp only [State.beginReceivePage]
        cases s.stc.alloc .faxRxPage j.reserve _ with
        | error st => cases st <;> rfl
        | ok r => rfl
      · rw [if_pos hpart]; exact (if_pos hpart).symm
    | some id =>
      by_cases hsame : part = j.part
      · rw [hsame, State.takeHeader_continues s i j count last hpage]
        exact (if_pos rfl).symm
      by_cases hnext : part = j.part + 1
      · subst hnext
        rw [State.takeHeader_next s i j count last hpage]
        simp only [if_neg hsame, if_true]
        cases j.partEnded <;> rfl
      · rw [State.takeHeader_other s i j count last hpage hsame hnext]
        simp only [if_neg hsame, if_neg hnext]
  case cells =>
    refine ⟨Stc.cover_of_fax hv he p, Stc.zeroPart_entry hv he p c, fun k hk => ?_, fun a ha => ?_⟩
    · rw [Stc.memRead_zeroPart hv he, if_pos ⟨k, hk, rfl⟩]; rfl
    · rw [Stc.memRead_zeroPart hv he, if_neg fun ⟨k, hk, hak⟩ => ha k hk hak]
  case frame =>
    rw [exec_frameReceived_page hp hj hd n bytes h, State.takeFrame_eq]
    unfold State.storeFrame
    cases j.page with
    | none => rfl
    | some id =>
      dsimp only
      cases s.stc.entry id <;> rfl
  case roundRepeated =>
    rw [exec_roundEndReceived_receive hp hj hd, State.takeRoundEnd_repeated s i j h, State.faxTell_eq]
  case roundJudged =>
    rw [exec_roundEndReceived_receive hp hj hd, State.takeRoundEnd_judged s i j hmap hphase hopen hended]
    exact congrArg (fun u : State => Host.Outcome.next u.settle) (if_congr List.isEmpty_iff rfl rfl)
  case close =>
    rw [exec_pageCloseReceived_receive hp hj hd]
    simp only [State.takeClose, hpage, if_pos h]
  case closeRepeated =>
    rw [exec_pageCloseReceived_receive hp hj hd]
    simp only [State.takeClose, hpage, hanswered, if_true]

/-- Settles O41: the round read and its end asked, a frame map by its action, a page confirmation by the pages left, a
release by the phase. -/
theorem faxSendJobSendsPages : Obligations.FaxSendJobSendsPages := by
  intro s i j hp hj
  refine ⟨fun hd hphase hopen hwait => ?round, fun tries d missing action hd hwait => ?map,
    fun more tries d hd hwait => ?confirmed, ?release⟩
  case round => rw [exec_roundSent_sending hp hj hd hphase hopen hwait, State.roundSent_eq]
  case map =>
    rw [exec_frameMapReceived_awaited hp hj hd missing action hwait]
    cases action <;> rfl
  case confirmed =>
    rw [exec_pageConfirmationReceived_awaited hp hj hd hwait]
    simp only [State.pageConfirmed, decide_eq_true_eq]
  case release => exact exec_releaseReceived_running hp hj

/-- Settles O36: FAXS and FAXR by their ranges, the line and the pages, FXST by the record, FXAB by whether the job
lives. -/
theorem faxRequestsAreTaken : Obligations.FaxRequestsAreTaken := by
  intro s i tag h
  refine ⟨fun pages resolution width policy r p hr hp hw hsome hfew hids hline hpages => ?faxs,
    fun policy p hp hline => ?faxr, fun j hj => hostRecord_answers h (takeFxst_of_job s i hj),
    fun hlive => hostRecord_answers h (takeFxab_of_live s i hlive),
    fun pages resolution width policy => ⟨fun hbad => hostRecord_refuses h (takeFaxs_of_bad s i hbad),
      fun hr hp hw hsome hfew hids => ?faxsRefused⟩,
    fun policy => ⟨fun hp => hostRecord_refuses h (takeFaxr_of_unknown s i hp), fun st hp hline => ?faxrRefused⟩,
    fun hj => hostRecord_refuses h (takeFxst_of_noJob s i hj),
    fun hlive => hostRecord_refuses h (takeFxab_of_notLive s i hlive), State.jobRefusal_eq s i,
    fun pages => ⟨State.pagesRefusal_of_free, fun hused => ⟨State.pagesRefusal_of_unsendable hused,
      fun hgood => ⟨fun hopen => ?opened, fun hclosed => ?closed⟩⟩⟩⟩
  case faxs =>
    refine hostRecord_answers h ((takeFaxs_of_good s i hr hp hw hsome hfew hids).trans ?_)
    rw [hline, hpages]
    rfl
  case faxr =>
    refine hostRecord_answers h ((takeFaxr_of_known s i hp).trans ?_)
    rw [hline]
    rfl
  case faxsRefused =>
    obtain ⟨r, hr⟩ := Option.ne_none_iff_exists'.1 hr
    obtain ⟨p, hp⟩ := Option.ne_none_iff_exists'.1 hp
    have htaken := takeFaxs_of_good s i hr hp hw hsome hfew hids
    refine ⟨fun st hline => hostRecord_refuses h (htaken.trans ?_),
      fun st hline hpages => hostRecord_refuses h (htaken.trans ?_)⟩
    · rw [hline]; rfl
    · rw [hline, hpages]; rfl
  case faxrRefused =>
    obtain ⟨p, hp⟩ := Option.ne_none_iff_exists'.1 hp
    refine hostRecord_refuses h ((takeFaxr_of_known s i hp).trans ?_)
    rw [hline]
    rfl
  case opened => rw [State.pagesRefusal_of_good hused hgood, if_pos hopen]
  case closed =>
    rw [State.pagesRefusal_of_good hused hgood, if_neg]
    rintro ⟨x, hx, e, he, hopen⟩
    exact absurd hopen (by simp [hclosed x hx e he])

/-- Settles O37: each wait by what it waits for, a stray message by the running job. -/
theorem faxWaitsEnd : Obligations.FaxWaitsEnd := by
  intro s i hp
  refine ⟨fun d h => exec_faxJobWaitExpiry_running hp h, fun m tries d h => ?answer,
    fun d h => exec_faxSenderWaitExpiry_capability hp h, fun d j h hj => exec_faxSenderWaitExpiry_sender hp h hj,
    fun d h => exec_releaseWaitExpiry_running hp h, fun j hj => ⟨exec_badFaxMessageReceived_unreadable hp hj,
      fun k => exec_badFaxMessageReceived_outOfPhase hp hj k⟩⟩
  case answer =>
    rw [exec_faxAnswerWaitExpiry_running hp h]
    unfold State.answerMissing
    cases m <;> rfl

/-- Settles O38: the capability, the choice and the confirmation by the phase, a choice by whether it is known, a check
by whether one has been accepted. -/
theorem faxSetUpIsNegotiated : Obligations.FaxSetUpIsNegotiated := by
  intro s i j hp hj
  have hjob := Line.job_of_running hj
  refine ⟨fun highest fine widest reserve hd => ?capability, fun c resolution width hd => ?choice,
    fun c after => State.startCheck_eq s i hjob c after, fun accepted hd h => ?confirmed, fun accepted hd h => ?ignored⟩
  case capability =>
    rw [exec_capabilityReceived_send hp hj hd highest fine widest reserve]
    refine congrArg (fun u : State => Host.Outcome.next u.settle) (if_congr Iff.rfl (if_congr Iff.rfl rfl ?_) rfl)
    refine congrArg (fun u : State => u.faxAsk i _)
      (State.updJob_congr (j := { j with remoteReserve := some reserve }) ?_ rfl)
    simp [State.updJob, hjob]
  case choice =>
    rw [exec_choiceReceived_receive hp hj hd]
    refine congrArg (fun u : State => Host.Outcome.next u.settle) (if_congr Iff.rfl ?_ rfl)
    cases hr : Resolution.of resolution with
    | none => exact State.takeChoice_of_unknown s i c (.inl hr)
    | some r =>
      by_cases hw : 2 < width
      · rw [State.takeChoice_of_unknown s i c (.inr hw)]
        exact (if_pos hw).symm
      · rw [State.takeChoice_of_known s i hjob c hr hw]
        exact (if_neg hw).symm
  case confirmed =>
    rw [exec_confirmationReceived_send hp hj hd, if_pos h]
    refine congrArg (fun u : State => Host.Outcome.next u.settle) (if_congr Iff.rfl ?_ rfl)
    refine congrArg (fun u : State => (u.startCheck i _ _).faxSend i _) (State.updJob_congr (j := j) ?_ rfl)
    simpa using hjob
  case ignored => rw [exec_confirmationReceived_send hp hj hd, if_neg h]

/-- Settles O39: an announcement by the phase, a burst and a verdict by the wait. -/
theorem faxChecksRun : Obligations.FaxChecksRun := by
  intro s i j hp hj
  refine ⟨fun c hd h => ?inTrain, fun c hd h => ?between,
    fun c hd hphase hwait hfk => exec_trainingBurstSent_send hp hj hd hphase hwait hfk,
    fun c tries d rejected hd hwait => ?verdict⟩
  case inTrain =>
    rw [exec_retrainAnnouncementReceived_receive hp hj hd, State.takeAnnouncement_train s i (Line.job_of_running hj) c h]
    rfl
  case between =>
    rw [exec_retrainAnnouncementReceived_receive hp hj hd, State.takeAnnouncement_page s i c h]
    rfl
  case verdict =>
    rw [exec_verdictReceived_awaited hp hj hd rejected hwait]
    have hclass := Line.checkClass_of_job (Line.job_of_running hj)
    cases rejected <;> simp only [State.takeVerdict, hclass]

end Sys2Proof.Machine
end

section
/-! PROOFS. The store memory at every step (chapter 8): O7, O13. What the commands of the host link, the events that write
store bytes and all others leave of its canonical form, and what it reads back. -/

namespace Sys2Proof.Machine

open Sys2Proof

/-! ## Events and the store bytes (R116) -/

theorem onExpiry_mem (t : Option Nat) (s : State) (f : State → State) (hf : ∀ x, (f x).stc.mem = x.stc.mem) :
    (onExpiry t s f).stc.mem = s.stc.mem := by
  cases t with
  | none => rfl
  | some d => exact hf (s.reach d)

section
variable {c : Instr} {s t : State}

/-- An event whose act keeps the canonical form keeps it, whether the part runs or not. -/
theorem event_storeCanonical {f : State → State} (hevent : ∀ u, exec c u = react u f) (hs : s.storeCanonical)
    (hf : (f s).storeCanonical) (h : exec c s = .next t) : t.storeCanonical := by
  rw [hevent] at h
  cases h
  split
  · rwa [State.storeCanonical, State.settle_mem]
  · exact hs

/-- An event whose act writes no store byte. -/
theorem silentEvent_storeCanonical {f : State → State} (hevent : ∀ u, exec c u = react u f) (hs : s.storeCanonical)
    (hf : (f s).stc.mem = s.stc.mem) (h : exec c s = .next t) : t.storeCanonical :=
  event_storeCanonical hevent hs (by rwa [State.storeCanonical, hf]) h

/-- The expiry of a timer whose act writes no store byte. -/
theorem silentExpiry_storeCanonical {due : State → Option Nat} {f : State → State}
    (hevent : ∀ u, exec c u = react u fun x => onExpiry (due x) x f) (hs : s.storeCanonical)
    (hf : ∀ x, (f x).stc.mem = x.stc.mem) (h : exec c s = .next t) : t.storeCanonical :=
  silentEvent_storeCanonical hevent hs (onExpiry_mem _ _ _ hf) h

/-- An event at a running fax job whose act keeps the canonical form. -/
theorem atJob_storeCanonical {i : LineNo} {d : FaxDir} {f : State → FaxJob → State}
    (hevent : ∀ u, exec c u = react u fun x => x.atJob i d (f x)) (hs : s.storeCanonical)
    (hf : ∀ j, (f s j).storeCanonical) (h : exec c s = .next t) : t.storeCanonical :=
  event_storeCanonical hevent hs (State.atJob_wf s i d (f s) hf hs) h

/-- An event at a running fax job whose act writes no store byte. -/
theorem silentAtJob_storeCanonical {i : LineNo} {d : FaxDir} {f : State → FaxJob → State}
    (hevent : ∀ u, exec c u = react u fun x => x.atJob i d (f x)) (hs : s.storeCanonical)
    (hf : ∀ j, (f s j).stc.mem = s.stc.mem) (h : exec c s = .next t) : t.storeCanonical :=
  atJob_storeCanonical hevent hs (fun j => by rw [State.storeCanonical, hf]; exact hs) h

end

/-! ## The records of the host link (R163 to R168) -/

@[simp] theorem State.linkError_mem (s : State) (f : PartCounters → PartCounters) :
    (s.linkError f).stc.mem = s.stc.mem := by
  unfold State.linkError; split <;> rfl

@[simp] theorem State.badRecord_mem (s : State) : s.badRecord.stc.mem = s.stc.mem := State.linkError_mem s _

@[simp] theorem State.offer_mem (s : State) (r : Inbound) : (s.offer r).stc.mem = s.stc.mem := by
  unfold State.offer
  split
  · rfl
  · exact State.linkError_mem s _

@[simp] theorem State.takeDataIn_mem (s : State) (line : Nat) (bytes : List Byte) :
    (s.takeDataIn line bytes).stc.mem = s.stc.mem := by
  unfold State.takeDataIn
  split
  · split <;> simp
  · exact State.linkError_mem s _

/-- Every request keeps the canonical form: SWRT by what it appends, the others by writing no store byte. -/
theorem answerRequest_storeCanonical {s : State} (line : Nat) (r : Request) (hs : s.storeCanonical) :
    (answerRequest s line r).state.storeCanonical := by
  cases r
  case swrt id bytes => exact takeSwrt_wf line id bytes hs
  all_goals simpa [State.storeCanonical, answerRequest] using hs

theorem State.takeRecord_storeCanonical {s : State} (r : Inbound) (hs : s.storeCanonical) :
    (s.takeRecord r).storeCanonical := by
  unfold State.takeRecord
  split
  · rwa [State.storeCanonical, State.takeDataIn_mem]
  · exact answerRequest_storeCanonical (s := s) _ _ hs

theorem drainN_storeCanonical : ∀ (n : Nat) {s : State}, s.storeCanonical → (drainN n s).storeCanonical
  | 0, _, hs => hs
  | n + 1, s, hs => by
    unfold drainN
    split
    · exact hs
    · split
      · refine drainN_storeCanonical n ?_
        rw [State.storeCanonical, State.settle_mem]
        exact State.takeRecord_storeCanonical _ hs
      · exact hs

theorem State.drain_storeCanonical {s : State} (hs : s.storeCanonical) : s.drain.storeCanonical :=
  drainN_storeCanonical _ hs

theorem State.judgeRecord_storeCanonical {s : State} (b : List Byte) (hs : s.storeCanonical) :
    (s.judgeRecord b).storeCanonical := by
  unfold State.judgeRecord
  split
  · exact State.drain_storeCanonical (by rwa [State.storeCanonical, State.offer_mem])
  · rwa [State.storeCanonical, State.badRecord_mem]

theorem State.receiveByte_storeCanonical {s : State} (x : Byte) (hs : s.storeCanonical) :
    (s.receiveByte x).storeCanonical := by
  unfold State.receiveByte
  split
  · split <;> exact hs
  · dsimp only
    split
    · rw [State.storeCanonical, State.badRecord_mem]
      exact hs
    · split
      · exact State.judgeRecord_storeCanonical (s := s.hunt) _ hs
      · exact hs

theorem State.receiveBytes_storeCanonical (l : List Byte) {s : State} (hs : s.storeCanonical) :
    (s.receiveBytes l).storeCanonical := by
  unfold State.receiveBytes
  induction l generalizing s with
  | nil => exact hs
  | cons x r ih => exact ih (State.receiveByte_storeCanonical x hs)

@[simp] theorem State.sendEnds_mem (s : State) (r : OutRec) : (s.sendEnds r).stc.mem = s.stc.mem := by
  unfold State.sendEnds
  split
  · rfl
  · split <;> rfl
  · rfl

@[simp] theorem State.sendData_mem (s : State) (i : LineNo) : (s.sendData i).stc.mem = s.stc.mem :=
  State.formDataOut_mem s i

@[simp] theorem State.formNotice_mem (s : State) (k : Notice) (i : LineNo) :
    (s.formNotice k i).1.stc.mem = s.stc.mem := by
  simp only [State.formNotice]; split <;> rfl

@[simp] theorem State.sendOther_mem (s : State) (r : OutRec) (waits : Bool) :
    (s.sendOther r waits).stc.mem = s.stc.mem := rfl

@[simp] theorem State.chooseOther_mem (s : State) : s.chooseOther.stc.mem = s.stc.mem := by
  simp only [State.chooseOther]
  (repeat' split) <;> simp

@[simp] theorem State.chooseRecord_mem (s : State) : s.chooseRecord.stc.mem = s.stc.mem := by
  unfold State.chooseRecord
  (repeat' split) <;> simp

theorem State.recordSent_storeCanonical {s : State} (hs : s.storeCanonical) : s.recordSent.storeCanonical := by
  have hended : ∀ r, (s.sendEnds r).drain.storeCanonical := fun r =>
    State.drain_storeCanonical (by rwa [State.storeCanonical, State.sendEnds_mem])
  have hchosen : ∀ u : State, u.storeCanonical → u.chooseRecord.drain.storeCanonical := fun u hu =>
    State.drain_storeCanonical (by rwa [State.storeCanonical, State.chooseRecord_mem])
  simp only [State.recordSent]
  cases s.lp.sending <;> dsimp only <;> split
  · exact hchosen _ hs
  · exact hs
  · exact hchosen _ (hended _)
  · exact hended _

/-- A record of the host that arrives whole keeps the canonical form. -/
theorem hostRecord_storeCanonical {c : Instr} {s t : State} {line tag : Nat} {b : InBody}
    (hrecord : ∀ u, exec c u = hostRecord u line tag b) (hs : s.storeCanonical) (h : exec c s = .next t) :
    t.storeCanonical :=
  event_storeCanonical hrecord hs (State.drain_storeCanonical (by rwa [State.storeCanonical, State.offer_mem])) h

/-! ## The events that write store bytes (R106, R109, R129, R136) -/

section
variable {s t : State} {i : LineNo}

theorem exec_moveCellCopy_storeCanonical (hs : s.storeCanonical) (h : exec .moveCellCopy s = .next t) :
    t.storeCanonical := by
  refine event_storeCanonical (fun _ => rfl) hs ?_ h
  split
  · exact hs
  · split
    · exact State.moveCell_wf _ _ hs
    · exact hs

theorem exec_partialPageHeaderReceived_storeCanonical {page part count : Nat} {last : Bool} (hs : s.storeCanonical)
    (h : exec (.partialPageHeaderReceived i page part count last) s = .next t) : t.storeCanonical := by
  refine atJob_storeCanonical (fun _ => rfl) hs (fun j => ?_) h
  split
  · exact hs
  · split
    · rwa [State.storeCanonical, State.failJob_mem]
    · split
      · exact hs
      · exact State.takeHeader_wf _ _ _ _ _ hs

theorem exec_frameReceived_storeCanonical {n : Nat} {bytes : List Byte} (hs : s.storeCanonical)
    (h : exec (.frameReceived i n bytes) s = .next t) : t.storeCanonical := by
  refine atJob_storeCanonical (fun _ => rfl) hs (fun j => ?_) h
  split
  · exact State.takeFrame_wf _ _ _ _ hs
  · exact hs

theorem exec_voiceFrameEnd_storeCanonical {samples : List Int} (hs : s.storeCanonical)
    (h : exec (.voiceFrameEnd i samples) s = .next t) : t.storeCanonical := by
  refine event_storeCanonical (fun _ => rfl) hs ?_ h
  split
  · exact hs
  · split
    · exact State.recordFrame_wf _ _ _ hs
    · rwa [State.storeCanonical, State.playFrame_mem]

theorem exec_recordingLimitReached_storeCanonical {samples : List Int} (hs : s.storeCanonical)
    (h : exec (.recordingLimitReached i samples) s = .next t) : t.storeCanonical := by
  refine event_storeCanonical (fun _ => rfl) hs ?_ h
  split
  · exact hs
  · split
    · exact State.limitReached_wf _ _ _ hs
    · exact hs

end

/-! ## Every command (R116) -/

/-- Every command keeps the canonical form: the events that write store bytes and the commands of the host link by the
lemmas above, resets and start-up since they write none (log 9), the other events by what each of them does. -/
theorem exec_storeCanonical {c : Instr} {s t : State} (hs : s.storeCanonical) (h : exec c s = .next t) :
    t.storeCanonical := by
  cases c
  case powerOn | resetPin | clockLoss => cases h; exact hs
  case startUp | settingsLoaded => cases h; split <;> exact hs
  case moveCellCopy => exact exec_moveCellCopy_storeCanonical hs h
  case partialPageHeaderReceived => exact exec_partialPageHeaderReceived_storeCanonical hs h
  case frameReceived => exact exec_frameReceived_storeCanonical hs h
  case voiceFrameEnd => exact exec_voiceFrameEnd_storeCanonical hs h
  case recordingLimitReached => exact exec_recordingLimitReached_storeCanonical hs h
  case recordReceived => exact event_storeCanonical (fun _ => rfl) hs (State.receiveBytes_storeCanonical _ hs) h
  case hostLinkByteReceived => exact event_storeCanonical (fun _ => rfl) hs (State.receiveByte_storeCanonical _ hs) h
  case recordSent => exact event_storeCanonical (fun _ => rfl) hs (State.recordSent_storeCanonical hs) h
  case call | callGroup | ansr | digr | tone | rels | cncl | ctad | ctdl | ctrd | budg | dataIn | flow | faxs | faxr
      | fxst | fxab | scrt | scls | sdel | atch | dtch | swrt | sred | slst | ssta | packStart | packStop | play | recd
      | paus | vstp | take | unknownRequest | nmsk | getp | setp | save | rsetSoft | rsetHard | cntr =>
    exact hostRecord_storeCanonical (fun _ => rfl) hs h
  case flashComplete | breakEnd | makeEnd | burstQualified | blankingEnd | loopLost | supervisionCheck
      | dialToneWaitExpiry | awaitToneExpiry | dtmfDigitSent | interDigitPauseEnd | pauseEnd | answerWaitExpiry
      | ringbackAbsenceExpiry | settleEnd | clidWindowTimeout | toneDigitEnd | drainWaitExpiry | guardExpiry
      | offerWaitExpiry | retryTimerExpiry | faxJobWaitExpiry | recordToneEnd | callingToneReset =>
    exact silentExpiry_storeCanonical (fun _ => rfl) hs (fun x => by simp) h
  case inboundGapExpiry =>
    exact silentExpiry_storeCanonical (fun _ => rfl) hs (fun x => State.badRecord_mem x.hunt) h
  case rateChangeResyncEnd | setupTryExpiry | gapEnd | mailboxWaitExpiry =>
    exact silentExpiry_storeCanonical (fun _ => rfl) hs (fun x => by split <;> simp) h
  case retrainAnnouncementReceived | roundEndReceived | pageCloseReceived =>
    exact silentAtJob_storeCanonical (fun _ => rfl) hs (fun j => by simp) h
  case capabilityReceived | choiceReceived | confirmationReceived | trainingBurstSent | verdictReceived | roundSent
      | frameMapReceived | pageConfirmationReceived =>
    exact silentAtJob_storeCanonical (fun _ => rfl) hs (fun j => by split <;> simp) h
  case cpSilenceLimit | cpToneLimit =>
    refine silentEvent_storeCanonical (fun _ => rfl) hs ?_ h
    split
    · exact onExpiry_mem _ _ _ fun x => by simp
    · rfl
  case rateChangeConfirmationTimeout =>
    refine silentEvent_storeCanonical (fun _ => rfl) hs ?_ h
    split
    · rfl
    · exact onExpiry_mem _ _ _ fun x => by simp
  case dialToneQualified | callerMessageReceived | callerIdByteReceived =>
    exact silentEvent_storeCanonical (fun _ => rfl) hs (by simp) h
  case ringVoltageOnset | loopCurrentAbsent | loopCurrentReturn | cpToneStart | cpToneEnd | progressFrameLevel
      | answerToneDetected | dtmfDigitDeclared | drainEnd | remoteOfferReceived
      | messageTransmitted | badMessageReceived | plainByteReceived =>
    exact silentEvent_storeCanonical (fun _ => rfl) hs (by split <;> simp) h
  case ringVoltageEnd | ringAbandoned | queueEntryExpiry | pendingTimerExpiry | qualityReading
      | rateChangeConfirmation | setupMessageReceived | faxAnswerWaitExpiry | faxSenderWaitExpiry
      | badFaxMessageReceived | releaseReceived | releaseWaitExpiry | voiceOperationStart | playCellReached
      | callingToneBurst =>
    exact silentEvent_storeCanonical (fun _ => rfl) hs (by (repeat' split) <;> simp) h
  case saveEnd =>
    exact silentEvent_storeCanonical (fun _ => rfl) hs (by (repeat' split) <;> rfl) h
  case remoteRateRequest | remoteRetrainRequest | supervisoryMessageReceived | dataBlockReceived =>
    exact silentEvent_storeCanonical (fun _ => rfl) hs (by dsimp only; (repeat' split) <;> simp) h

/-! ## The settled obligations -/

/-- Settles O7: a millisecond that passes writes nothing, and every command keeps the canonical form. -/
theorem storeMemoryStaysCanonical : Obligations.StoreMemoryStaysCanonical := by
  intro s t hs h
  unfold step at h
  split at h
  · cases h; exact hs
  · next c rest _ => exact exec_storeCanonical (s := { s with pending := rest }) hs h

/-- Settles O13: a write by the address read, a cleared range by whether the address lies in it. -/
theorem storeReadsBackWhatWasWritten : Obligations.StoreReadsBackWhatWasWritten := by
  intro m a b hm
  exact ⟨memRead_memWrite_self a b m hm, fun x hx => memRead_memWrite_ne b hx m hm, memRead_memClear m a⟩

end Sys2Proof.Machine
end

section
/-! PROOFS. The requests on the message store, and compaction (chapter 8): O42 to O45. The frontiers, an allocation and
the slots, how each request is taken, then the obligations. -/

namespace Sys2Proof.Machine

open Sys2Proof

/-! ## Frontiers and allocation (R117, R119) -/

/-- What a selection of the used entries gives, in one pass over the directory. -/
theorem map_filter_used (p : Entry → Bool) (f : Entry → Nat) (l : List (Option Entry)) :
    ((l.filterMap fun x => x).filter p).map f =
      l.filterMap fun x => x.bind fun e => if p e then some (f e) else none := by
  induction l with
  | nil => rfl
  | cons x r ih =>
    cases x with
    | none => simpa using ih
    | some e => cases hp : p e <;> simpa [hp] using ih

section
variable (t : Stc)

theorem Stc.fv_eq : t.fv = (t.dir.filterMap fun x => x.bind fun e =>
    if e.kind.voice then some (e.base + e.extent) else none).foldl max 0 := by
  rw [← map_filter_used (fun e => e.kind.voice) fun e => e.base + e.extent, List.foldl_map]
  rfl

theorem Stc.ff_eq : t.ff = (t.dir.filterMap fun x => x.bind fun e =>
    if e.kind.voice then none else some (e.base + 1 - e.extent)).foldl min t.size := by
  have hfax : ∀ e : Entry, (if e.kind.voice then none else some (e.base + 1 - e.extent)) =
      if !e.kind.voice then some (e.base + 1 - e.extent) else none := fun e => by cases e.kind.voice <;> rfl
  simp only [hfax]
  rw [← map_filter_used (fun e => !e.kind.voice) fun e => e.base + 1 - e.extent, List.foldl_map]
  rfl

variable {t}

theorem Stc.freeId_eq_some {id : Nat} (hfree : t.dir[id]? = some none) (hfirst : ∀ j, j < id → t.dir[j]? ≠ some none) :
    t.freeId = some id := by
  obtain ⟨hlt, hid⟩ := List.getElem?_eq_some_iff.1 hfree
  refine List.findIdx?_eq_some_iff_getElem.2 ⟨hlt, by simp [hid], fun j hj hnone => ?_⟩
  have hjlt := hj.trans hlt
  exact hfirst j hj (by rw [List.getElem?_eq_getElem hjlt]; simpa using hnone)

/-- The entry that an allocation makes, its optional fields absent (R119). -/
def Stc.newEntry (t : Stc) (k : EntryKind) (extent : Nat) : Entry :=
  { kind := k, open_ := true, moving := false, damaged := false, base := if k.voice then t.fv else t.ff - 1
    extent := max 1 extent, used := 0, mailbox := none, originLine := none, ordinal := none, number := none
    fax := none }

section
variable (k : EntryKind) (blank : Entry → Entry) {extent : Nat}

theorem Stc.alloc_of_fits {id : Nat} (hfit : max 1 extent ≤ t.freeSpan) (hid : t.freeId = some id) :
    t.alloc k extent blank = .ok (t.setEntry id (some (blank (t.newEntry k extent))), id) := by
  simp only [Stc.alloc, if_neg (not_lt.2 hfit), hid]; rfl

theorem Stc.alloc_of_noSpan (h : t.freeSpan < max 1 extent) : t.alloc k extent blank = .error .storeFull := if_pos h

theorem Stc.alloc_of_noId (hfit : max 1 extent ≤ t.freeSpan) (hid : t.freeId = none) :
    t.alloc k extent blank = .error .directoryFull := by
  simp only [Stc.alloc, if_neg (not_lt.2 hfit), hid]

end

/-- The entry written at an id of the directory is the used entry of that id. -/
theorem Stc.entry_setEntry {id : Nat} (e : Entry) (h : id < t.dir.length) :
    (t.setEntry id (some e)).entry id = some e := by
  rw [Stc.entry_eq_some]
  exact List.getElem?_set_self h

end

/-! ## Slots (R121, R122) -/

theorem Four.any_toList {α : Type} (x : Four α) (p : α → Bool) : x.toList.any p = true ↔ ∃ i, p (x.get i) = true := by
  simp [Four.toList, Four.get, Fin.exists_fin_succ]

/-- Some slot satisfies a test: there is a line and a slot of its window that holds such an entry. -/
theorem State.anySlot_iff (s : State) (p : Attach → Bool) :
    s.anySlot p = true ↔ ∃ (i k : LineNo) (a : Attach), (s.line i).window.get k = some a ∧ p a = true := by
  simp only [State.anySlot, State.line, Four.any_toList]
  refine exists_congr fun i => exists_congr fun k => ?_
  cases (s.lines.get i).window.get k <;> simp

/-! ## Directory requests (R119 to R121) -/

theorem onEntry_of_used {s : State} {id : Nat} {e : Entry} (f : Entry → Answer) (hid : id < 96)
    (he : s.stc.entry id = some e) : onEntry s id f = f e := by
  simp only [onEntry, Config.dirSize, if_neg (not_le.2 hid), he]

theorem onEntry_of_free {s : State} {id : Nat} (f : Entry → Answer) (hid : id < 96) (he : s.stc.entry id = none) :
    onEntry s id f = refuse s .notFound := by
  simp only [onEntry, Config.dirSize, if_neg (not_le.2 hid), he]

theorem onEntry_of_noId (s : State) {id : Nat} (f : Entry → Answer) (hid : 96 ≤ id) :
    onEntry s id f = refuse s .badArgument := if_pos hid

/-- A request with the part-wide line number is decided by its own rule. -/
theorem onPart_15 (s : State) (a : Answer) : onPart s 15 a = a := rfl

section
variable (s : State) {kind : Nat} (extent mailbox : Nat)

theorem takeScrt_of_fits {k : EntryKind} {id : Nat} (hkind : EntryKind.of kind = some k)
    (hfit : max 1 extent ≤ s.stc.freeSpan) (hid : s.stc.freeId = some id) (hlt : id < s.stc.dir.length) :
    takeScrt s 15 kind extent mailbox = okWith
      { s with stc := s.stc.setEntry id (some { s.stc.newEntry k extent with mailbox := mailboxOf mailbox }) }
      (be1 id ++ be2 (if k.voice then s.stc.fv else s.stc.ff - 1) ++ be2 (max 1 extent)) := by
  have hwhole : max 1 (max 1 extent) ≤ s.stc.freeSpan := by omega
  have hnew : s.stc.newEntry k (max 1 extent) = s.stc.newEntry k extent := by simp [Stc.newEntry]
  simp only [takeScrt, onPart_15, hkind, Stc.alloc_of_fits k _ hwhole hid, Stc.entry_setEntry _ hlt, hnew]
  rfl

theorem takeScrt_of_noKind (hkind : EntryKind.of kind = none) :
    takeScrt s 15 kind extent mailbox = refuse s .badArgument := by
  simp only [takeScrt, onPart_15, hkind]

theorem takeScrt_of_noSpan (hkind : EntryKind.of kind ≠ none) (h : s.stc.freeSpan < max 1 extent) :
    takeScrt s 15 kind extent mailbox = refuse s .storeFull := by
  obtain ⟨k, hk⟩ := Option.ne_none_iff_exists'.1 hkind
  have hwhole : s.stc.freeSpan < max 1 (max 1 extent) := by omega
  simp only [takeScrt, onPart_15, hk, Stc.alloc_of_noSpan k _ hwhole]

theorem takeScrt_of_noId (hkind : EntryKind.of kind ≠ none) (hfit : max 1 extent ≤ s.stc.freeSpan)
    (hid : s.stc.freeId = none) : takeScrt s 15 kind extent mailbox = refuse s .directoryFull := by
  obtain ⟨k, hk⟩ := Option.ne_none_iff_exists'.1 hkind
  have hwhole : max 1 (max 1 extent) ≤ s.stc.freeSpan := by omega
  simp only [takeScrt, onPart_15, hk, Stc.alloc_of_noId k _ hwhole hid]

end

section
variable {s : State} {id : Nat} {e : Entry} (hid : id < 96)
include hid

theorem takeScls_of_free (he : s.stc.entry id = none) : takeScls s 15 id = refuse s .notFound :=
  onEntry_of_free _ hid he

/-- SCLS of a used entry, in the order of R120. -/
theorem takeScls_of_used (he : s.stc.entry id = some e) :
    takeScls s 15 id =
      if e.open_ = false then refuse s .wrongState
      else if s.recordInUse id then refuse s .inUse
      else okWith (s.closeEntry id) (be2 e.closedExtent ++ be4 e.used) := onEntry_of_used _ hid he

theorem takeSdel_of_free (he : s.stc.entry id = none) : takeSdel s 15 id = refuse s .notFound :=
  onEntry_of_free _ hid he

/-- SDEL of a used entry, in the order of R121. -/
theorem takeSdel_of_used (he : s.stc.entry id = some e) :
    takeSdel s 15 id =
      if e.open_ = true then refuse s .wrongState
      else if e.moving = true then refuse s .busy
      else if ∃ (i k : LineNo) (a : Attach), (s.line i).window.get k = some a ∧ a.id = id then refuse s .inUse
      else okWith (s.freeEntry id) [] := by
  have hheld := s.anySlot_iff fun a => a.id == id
  simp only [beq_iff_eq] at hheld
  simp only [takeSdel, onPart_15, onEntry_of_used _ hid he, State.deleteRefusal, ← hheld]
  by_cases hopen : e.open_ = true
  · simp only [if_pos hopen]
  by_cases hmoving : e.moving = true
  · simp only [if_neg hopen, if_pos hmoving]
  by_cases hslot : (s.anySlot fun a => a.id == id) = true
  · simp only [if_neg hopen, if_neg hmoving, if_pos hslot]
  · simp only [if_neg hopen, if_neg hmoving, if_neg hslot]

end

theorem takeScls_of_noId (s : State) {id : Nat} (hid : 96 ≤ id) : takeScls s 15 id = refuse s .badArgument :=
  onEntry_of_noId s _ hid

theorem takeSdel_of_noId (s : State) {id : Nat} (hid : 96 ≤ id) : takeSdel s 15 id = refuse s .badArgument :=
  onEntry_of_noId s _ hid

/-! ## Windows (R123) -/

section
variable (s : State) (i : LineNo)

/-- ATCH with its fields in range, in the order of R123. -/
theorem takeAtch_of_good (k : LineNo) {id right : Nat} {r : Right} (hr : Right.of right = some r) (hid : id < 96) :
    takeAtch s i.val k.val id right =
      if (s.line i).slotInUse k then refuse s .inUse
      else onEntry s id fun e =>
        if r = .play ∨ (e.open_ ∧ s.recordElsewhere i k id = false) then
          okWith (s.setSlot i k (some { id := id, right := r })) []
        else refuse s .noRight := by
  simp only [takeAtch, onLine_val, lineOf_val, hr]
  refine (if_neg (not_le.2 hid)).trans (if_congr Iff.rfl rfl ?_)
  cases he : s.stc.entry id with
  | none => exact (onEntry_of_free _ hid he).symm
  | some e => rw [onEntry_of_used _ hid he]

theorem takeAtch_of_bad {slot id right : Nat} (h : 4 ≤ slot ∨ Right.of right = none ∨ 96 ≤ id) :
    takeAtch s i.val slot id right = refuse s .badArgument := by
  simp only [takeAtch, onLine_val]
  split
  · next k r hk hr =>
    have hid : 96 ≤ id := by
      rcases h with h | h | h
      · rw [lineOf_eq_none h] at hk; cases hk
      · rw [h] at hr; cases hr
      · exact h
    exact if_pos hid
  · rfl

/-- DTCH of a slot of the window, in the order of R123. -/
theorem takeDtch_of_slot (k : LineNo) :
    takeDtch s i.val k.val =
      if (s.line i).slotInUse k then refuse s .inUse
      else if ((s.line i).window.get k).isNone then refuse s .notFound
      else okWith (s.setSlot i k none) [] := by
  simp only [takeDtch, onLine_val, lineOf_val]

theorem takeDtch_of_noSlot {slot : Nat} (h : 4 ≤ slot) : takeDtch s i.val slot = refuse s .badArgument := by
  simp only [takeDtch, onLine_val, lineOf_eq_none h]

end

/-! ## Host reads and writes (R124 to R126) -/

section
variable {s : State} {id : Nat} {bytes : List Byte} {e : Entry}

theorem takeSwrt_of_bad (h : 96 ≤ id ∨ 1024 < bytes.length) : takeSwrt s 15 id bytes = refuse s .badArgument := if_pos h

theorem takeSwrt_of_good (hid : id < 96) (hlen : bytes.length ≤ 1024) :
    takeSwrt s 15 id bytes = onEntry s id fun e =>
      if e.open_ = false then refuse s .wrongState
      else if s.recordHeld id then refuse s .inUse
      else
        let l := bytes.take (e.capacity - e.used)
        okWith { s with stc := l.foldl (fun t b => t.appendByte id (0, 16) b) s.stc }
          (be2 l.length ++ be4 (e.used + l.length)) :=
  if_neg (not_or.2 ⟨not_le.2 hid, not_lt.2 hlen⟩)

end

/-! ## Compaction (R127 to R129) -/

section
variable (s : State) {region : Nat}

theorem takePackStart_of_unknown (h : Region.of region = none) : takePackStart s 15 region = refuse s .badArgument := by
  simp only [takePackStart, onPart_15, h]

/-- PACK START of a known region, in the order of R127. -/
theorem takePackStart_of_known {r : Region} (h : Region.of region = some r) :
    takePackStart s 15 region =
      if s.stc.pack.st ≠ .idle then refuse s .busy
      else
        let p : Pack := { st := .running, region := r, working := if r = .fax then .fax else .voice }
        { state := ({ s with stc := { s.stc with pack := p } } : State).packWalk, status := .accepted } := by
  simp only [takePackStart, onPart_15, h]

theorem takePackStop_of_idle (h : s.stc.pack.st = .idle) : takePackStop s 15 = refuse s .wrongState := by
  simp only [takePackStop, onPart_15, h]

/-- PACK STOP of a pack under way: a RUNNING one becomes STOPPING, a STOPPING one stays so. -/
theorem takePackStop_of_active (h : s.stc.pack.st ≠ .idle) :
    takePackStop s 15 =
      okWith { s with stc := { s.stc with pack := { s.stc.pack with st := .stopping } } } [] := by
  simp only [takePackStop, onPart_15]
  cases hst : s.stc.pack.st with
  | idle => exact absurd hst h
  | running => rfl
  | stopping =>
    have hsame : { s.stc.pack with st := .stopping } = s.stc.pack := by rw [← hst]
    rw [hsame]

end

section
variable {s : State} (hp : s.phase = .running)
include hp

theorem exec_moveCellCopy_of_noMove (h : s.stc.move = none) : exec .moveCellCopy s = .next s.settle := by
  change execMoveCellCopy s = _
  simp only [execMoveCellCopy, react_running hp, h]

theorem exec_moveCellCopy_of_move {m : Move} {e : Entry} (hm : s.stc.move = some m) (he : s.stc.entry m.id = some e) :
    exec .moveCellCopy s = .next ((s.reach m.due).moveCell m e).settle := by
  change execMoveCellCopy s = _
  simp only [execMoveCellCopy, react_running hp, hm, he]

end

/-! ## The settled obligations -/

/-- Settles O43: the id, then the used entry by the checks of `takeSdel_of_used`. -/
theorem sdelChecksInOrder : Obligations.SdelChecksInOrder := by
  intro s tag id hs
  split
  · next hid => exact hostRecord_refuses hs (takeSdel_of_noId s hid)
  · next hid =>
    rw [not_le] at hid
    cases he : s.stc.entry id with
    | none => exact hostRecord_refuses hs (takeSdel_of_free hid he)
    | some e =>
      have htaken := takeSdel_of_used hid he
      dsimp only
      split_ifs with hopen hmoving hheld
      · exact hostRecord_refuses hs (by rw [answerRequest, htaken, if_pos hopen])
      · exact hostRecord_refuses hs (by rw [answerRequest, htaken, if_neg hopen, if_pos hmoving])
      · exact hostRecord_refuses hs (by rw [answerRequest, htaken, if_neg hopen, if_neg hmoving, if_pos hheld])
      · exact hostRecord_answers hs (by rw [answerRequest, htaken, if_neg hopen, if_neg hmoving, if_neg hheld]; rfl)

/-- Settles O42: the frontiers as one pass over the directory, each request by the lemma about its taking, the first of
its refusals that holds. -/
theorem storeEntriesAndSlotsAreManaged : Obligations.StoreEntriesAndSlotsAreManaged := by
  intro s tag hs
  refine ⟨fun kind extent mailbox k id hkind hfit hfree hfirst => ?scrt, ⟨Stc.fv_eq _, Stc.ff_eq _⟩,
    fun id e hid he hopen hfreeSlot => ?scls, fun i k id right r e hr hid hslot he hright => ?atch,
    fun i k a hslot ha => ?dtch, fun kind extent mailbox => ⟨fun hkind => ?noKind, fun hkind => ⟨fun hfit => ?noSpan,
      fun hfit hid => ?noDir⟩⟩, fun id => ⟨fun hid => ?sclsNoId, fun hid he => ?sclsFree, fun e hid he =>
        ⟨fun hopen => ?sclsClosed, fun hopen huse => ?sclsInUse⟩⟩,
    fun i slot id right => ⟨fun hbad => ?atchBad, fun hbad => ?dtchBad⟩,
    fun i k id right r hr hid => ⟨fun huse => ⟨?atchInUse, ?dtchInUse⟩, fun hslot => ⟨fun he => ?atchFree,
      fun e he hrec hno => ?atchNoRight, fun hempty => ?dtchEmpty⟩⟩⟩
  case scrt =>
    exact hostRecord_answers hs (takeScrt_of_fits s extent mailbox hkind hfit (Stc.freeId_eq_some hfree hfirst)
      (List.getElem?_eq_some_iff.1 hfree).1)
  case scls =>
    exact hostRecord_answers hs (by
      rw [answerRequest, takeScls_of_used hid he, if_neg (by simp [hopen]), if_neg (by simp [hfreeSlot])]; rfl)
  case atch =>
    exact hostRecord_answers hs (by
      rw [answerRequest, takeAtch_of_good s i k hr hid, if_neg (by simp [hslot]), onEntry_of_used _ hid he,
        if_pos hright]
      rfl)
  case dtch =>
    exact hostRecord_answers hs (by
      rw [answerRequest, takeDtch_of_slot, if_neg (by simp [hslot]), if_neg (by simp [ha])]; rfl)
  case noKind => exact hostRecord_refuses hs (takeScrt_of_noKind s extent mailbox hkind)
  case noSpan => exact hostRecord_refuses hs (takeScrt_of_noSpan s extent mailbox hkind hfit)
  case noDir => exact hostRecord_refuses hs (takeScrt_of_noId s extent mailbox hkind hfit hid)
  case sclsNoId => exact hostRecord_refuses hs (takeScls_of_noId s hid)
  case sclsFree => exact hostRecord_refuses hs (takeScls_of_free hid he)
  case sclsClosed =>
    exact hostRecord_refuses hs (by rw [answerRequest, takeScls_of_used hid he, if_pos hopen])
  case sclsInUse =>
    exact hostRecord_refuses hs (by
      rw [answerRequest, takeScls_of_used hid he, if_neg (by simp [hopen]), if_pos huse])
  case atchBad => exact hostRecord_refuses hs (takeAtch_of_bad s i hbad)
  case dtchBad => exact hostRecord_refuses hs (takeDtch_of_noSlot s i hbad)
  case atchInUse =>
    exact hostRecord_refuses hs (by rw [answerRequest, takeAtch_of_good s i k hr hid, if_pos huse])
  case dtchInUse =>
    exact hostRecord_refuses hs (by rw [answerRequest, takeDtch_of_slot, if_pos huse])
  case atchFree =>
    exact hostRecord_refuses hs (by
      rw [answerRequest, takeAtch_of_good s i k hr hid, if_neg (by simp [hslot]), onEntry_of_free _ hid he])
  case atchNoRight =>
    have hrefused : ¬ (r = .play ∨ (e.open_ ∧ s.recordElsewhere i k id = false)) := by
      rcases hno with h | h <;> simp [hrec, h]
    exact hostRecord_refuses hs (by
      rw [answerRequest, takeAtch_of_good s i k hr hid, if_neg (by simp [hslot]), onEntry_of_used _ hid he,
        if_neg hrefused])
  case dtchEmpty =>
    exact hostRecord_refuses hs (by
      rw [answerRequest, takeDtch_of_slot, if_neg (by simp [hslot]), if_pos (by simp [hempty])])

/-- Settles O44: SWRT and SRED by the entry they name, SLST and SSTA by what they report. -/
theorem storeReadsAndReports : Obligations.StoreReadsAndReports := by
  intro s tag hs
  refine ⟨fun id bytes e hid hlen he hopen hheld => ?swrt, fun id offset count e hid he => ?sred,
    fun start hstart => ?slst, hostRecord_answers hs rfl, fun id bytes hbad => ?swrtBad,
    fun id offset count hid => ⟨?sredNoId, ?slstNoId⟩,
    fun id bytes offset count hid hlen he => ⟨?swrtFree, ?sredFree⟩,
    fun id bytes e hid hlen he => ⟨fun hopen => ?swrtClosed, fun hopen hheld => ?swrtHeld⟩⟩
  case swrt =>
    exact hostRecord_answers hs (by
      rw [answerRequest, takeSwrt_of_good hid hlen, onEntry_of_used _ hid he, if_neg (by simp [hopen]),
        if_neg (by simp [hheld])]
      rfl)
  case sred =>
    intro n f
    split
    · next hbad => exact hostRecord_answers hs ((onEntry_of_used _ hid he).trans (if_pos hbad))
    · next hgood => exact hostRecord_answers hs ((onEntry_of_used _ hid he).trans (if_neg hgood))
  case slst => exact hostRecord_answers hs (if_neg (not_le.2 hstart))
  case swrtBad => exact hostRecord_refuses hs (takeSwrt_of_bad hbad)
  case sredNoId => exact hostRecord_refuses hs (onEntry_of_noId s _ hid)
  case slstNoId => exact hostRecord_refuses hs (if_pos hid)
  case swrtFree =>
    exact hostRecord_refuses hs ((takeSwrt_of_good hid hlen).trans (onEntry_of_free _ hid he))
  case sredFree => exact hostRecord_refuses hs (onEntry_of_free _ hid he)
  case swrtClosed =>
    exact hostRecord_refuses hs (by
      rw [answerRequest, takeSwrt_of_good hid hlen, onEntry_of_used _ hid he, if_pos hopen])
  case swrtHeld =>
    exact hostRecord_refuses hs (by
      rw [answerRequest, takeSwrt_of_good hid hlen, onEntry_of_used _ hid he, if_neg (by simp [hopen]), if_pos hheld])

/-- Settles O45: PACK START and PACK STOP by the region and the state of the pack, a copy by `moveCell`. -/
theorem packStartsStopsAndCopies : Obligations.PackStartsStopsAndCopies := by
  refine ⟨fun s tag hs => ⟨fun region r hr hidle => ?start, fun hactive => ?stop, fun region hr => ?unknown,
    fun region hr hactive => ?busy, fun hidle => ?idle⟩, fun s hp => ⟨fun hm => ?noMove, fun m e hm he => ?copies⟩⟩
  case start =>
    exact hostRecord_answers hs ((takePackStart_of_known s hr).trans (if_neg (not_not.2 hidle)))
  case stop => exact hostRecord_answers hs (takePackStop_of_active s hactive)
  case unknown => exact hostRecord_refuses hs (takePackStart_of_unknown s hr)
  case busy =>
    obtain ⟨r, hknown⟩ := Option.ne_none_iff_exists'.1 hr
    exact hostRecord_refuses hs ((takePackStart_of_known s hknown).trans (if_pos hactive))
  case idle => exact hostRecord_refuses hs (takePackStop_of_idle s hidle)
  case noMove => exact exec_moveCellCopy_of_noMove hp hm
  case copies => exact exec_moveCellCopy_of_move hp hm he

end Sys2Proof.Machine
end

section
/-! PROOFS. The voice coder (R134 to R137): its six steps, O46, and the range its states keep. -/

namespace Sys2Proof.Machine

open Sys2Proof

/-- The code of a sample: the sign of its distance from the predicted value, and the magnitude (R135 steps 1 to 3). -/
theorem encodeSample_eq (c : Int × Nat) (x : Int) :
    encodeSample c x = (if x - c.1 < 0 then 8 else 0) + min 7 (4 * (x - c.1).natAbs / stepSize c.2) := by
  simp only [encodeSample]
  split
  · rfl
  · exact (Nat.zero_add _).symm

/-- A code with a magnitude of at most 7 is decoded by its sign and its magnitude (R135 steps 4 to 6). -/
theorem decodeCode_signed (c : Int × Nat) {p : Prop} [Decidable p] {m : Nat} (hm : m ≤ 7) :
    decodeCode c ((if p then 8 else 0) + m) =
      (clampP (if p then c.1 - ((2 * m + 1) * stepSize c.2 / 8 : Nat)
        else c.1 + ((2 * m + 1) * stepSize c.2 / 8 : Nat)), nextIndex c.2 m) := by
  have hmag : ((if p then 8 else 0) + m) % 8 = m := by split <;> omega
  have hsign : 8 ≤ (if p then 8 else 0) + m ↔ p := by
    split <;> simp_all
  simp only [decodeCode, hmag, hsign]

/-- The step index after a magnitude code, as R135 step 6 tabulates the moves. -/
theorem nextIndex_cast {n m : Nat} (hn : n ≤ 47) (hm : m ≤ 7) :
    (nextIndex n m : Int) = max 0 (min 47 ((n : Int)
      + (if m = 4 then 2 else if m = 5 then 4 else if m = 6 then 6 else if m = 7 then 8 else -1))) := by
  unfold nextIndex
  by_cases hlow : m ≤ 3
  · rw [if_pos hlow, if_neg (by omega), if_neg (by omega), if_neg (by omega), if_neg (by omega)]
    omega
  · rw [if_neg hlow]
    obtain rfl | rfl | rfl | rfl : m = 4 ∨ m = 5 ∨ m = 6 ∨ m = 7 := by omega
    all_goals
      simp only [reduceIte, Nat.reduceEqDiff]
      omega

/-- Settles O46: the code is its sign bit and its magnitude, from which decoding reads the two back. -/
theorem sampleIsCodedInSixSteps : Obligations.SampleIsCodedInSixSteps := by
  intro p n x _ _ hn _ _ size m r code
  have hm : m ≤ 7 := min_le_left _ _
  have hcode : code = (if x - p < 0 then 8 else 0) + m := encodeSample_eq (p, n) x
  have hdecoded := decodeCode_signed (p, n) (p := x - p < 0) hm
  rw [← hcode] at hdecoded
  refine ⟨hcode, ?_, ?_, ?_⟩
  · rw [hcode]
    split <;> omega
  · rw [hdecoded]
    rfl
  · rw [hdecoded]
    exact nextIndex_cast hn hm

/-! ## The range of coder states (R134) -/

theorem coderStart_ok : coderOk coderStart := by unfold coderOk; decide

theorem clampP_bounds (p : Int) : -8192 ≤ clampP p ∧ clampP p ≤ 8191 := by
  unfold clampP
  omega

theorem nextIndex_le {n : Nat} (hn : n ≤ 47) (m : Nat) : nextIndex n m ≤ 47 := by
  unfold nextIndex
  split <;> omega

theorem decodeCode_ok {c : Int × Nat} (hc : coderOk c) (k : Nat) : coderOk (decodeCode c k) :=
  ⟨(clampP_bounds _).1, (clampP_bounds _).2, nextIndex_le hc.2.2 _⟩

theorem decodeCodes_ok {c : Int × Nat} (hc : coderOk c) (l : List Nat) : coderOk (decodeCodes c l).1 := by
  induction l generalizing c with
  | nil => exact hc
  | cons k r ih => exact ih (decodeCode_ok hc k)

/-- A header read is held in range (log 37). -/
theorem Stc.readHeader_ok (t : Stc) (cell : Nat) :
    coderOk ((t.readHeader cell).predicted, (t.readHeader cell).stepIndex) :=
  ⟨(clampP_bounds _).1, (clampP_bounds _).2, min_le_left _ _⟩

/-- The coder state that a recording goes on from behind a cell (R137). -/
theorem Stc.readCell_resume_ok (t : Stc) (id : Nat) (e : Entry) (k stop : Nat) :
    coderOk ((t.readCell id e k stop).resume e) := by
  unfold CellRead.resume
  split
  · exact decodeCodes_ok (t.readHeader_ok _) _
  · exact coderStart_ok

theorem PlayBuf.take_ok (b : PlayBuf) {c : Int × Nat} (hc : coderOk c) (n : Nat) : coderOk (b.take c n).2.1 := by
  cases b with
  | codes l => exact decodeCodes_ok hc _
  | silent k => exact hc

theorem recSample_coder_ok (o : VoiceOp) {r : RecRun} (hr : coderOk r.coder) (x : Int) :
    coderOk (recSample o r x).coder := by
  simp only [recSample]
  split
  · exact hr
  · split
    · exact hr
    · split
      · exact decodeCode_ok hr _
      · exact decodeCode_ok hr _

theorem recSamples_coder_ok (o : VoiceOp) (l : List Int) {r : RecRun} (hr : coderOk r.coder) :
    coderOk (l.foldl (recSample o) r).coder := by
  induction l generalizing r with
  | nil => exact hr
  | cons x l ih => exact ih (recSample_coder_ok o hr x)

end Sys2Proof.Machine
end

section
/-! PROOFS. The ranges of coder states, quality readings and counters at every step (chapters 5, 9, 12): O8. The
relation that every operation of the model stands in, block by block, then the commands and the obligation. -/

namespace Sys2Proof.Machine

open Sys2Proof

/-! ## Ranges (R134, R69, R70, R179) -/

/-- Every counter of a line is at most at its upper end (R179). -/
def LineCounters.bounded (c : LineCounters) : Prop := ∀ x ∈ c.list, x ≤ Config.counterMax

/-- Every part-wide counter is at most at its upper end (R179). -/
def PartCounters.bounded (c : PartCounters) : Prop := ∀ x ∈ c.list, x ≤ Config.counterMax

theorem satAdd_le (c n : Nat) : satAdd c n ≤ Config.counterMax := min_le_left _ _

/-- A counter that a condition raises. -/
theorem ite_satAdd_le {p : Prop} [Decidable p] {c : Nat} (n : Nat) (h : c ≤ Config.counterMax) :
    (if p then satAdd c n else c) ≤ Config.counterMax := by
  split
  · exact satAdd_le c n
  · exact h

/-- A list of counters of which one is set within its range. -/
theorem forall_mem_set_le {l : List Nat} {k x : Nat} (hx : x ≤ Config.counterMax) (h : ∀ y ∈ l, y ≤ Config.counterMax) :
    ∀ y ∈ l.set k x, y ≤ Config.counterMax := fun y hy =>
  (List.mem_or_eq_of_mem_set hy).elim (h y) fun heq => heq.trans_le hx

/-- The counter at place `k` of a list of bounded counters. -/
theorem getD_le {l : List Nat} (k : Nat) (h : ∀ y ∈ l, y ≤ Config.counterMax) : l.getD k 0 ≤ Config.counterMax := by
  rw [List.getD_eq_getElem?_getD]
  cases hk : l[k]? with
  | none => exact Nat.zero_le _
  | some x => exact h x (List.mem_of_getElem? hk)

theorem LineCounters.zero_bounded : ({} : LineCounters).bounded := by
  simp [LineCounters.bounded, LineCounters.list]

theorem PartCounters.zero_bounded : ({} : PartCounters).bounded := by
  simp [PartCounters.bounded, PartCounters.list]

theorem Dp.reset_readingsInRange : ({} : Dp).readingsInRange := by simp [Dp.readingsInRange]

/-- The mean of 150 training readings is at most 100, its eightfold at most 800 (R70). -/
theorem Dp.trainMean_le {d : Dp} (h : d.readingsInRange) : 8 * (d.trainSum / 150) ≤ 800 := by
  obtain ⟨-, hcount, hsum⟩ := h
  omega

/-- Eight times an entry threshold (R68) is an accumulator in its range. -/
theorem eight_entry_le (c : Cls) : 8 * c.entry ≤ 800 := by cases c <;> decide

/-- From `s` to `t` no coder state, no reading and no counter leaves its range. -/
structure State.Keeps (s t : State) : Prop where
  coders : s.codersInRange → t.codersInRange
  counts : s.countsInRange → t.countsInRange

namespace State.Keeps

theorem refl (s : State) : s.Keeps s := ⟨id, id⟩

variable {s₀ s t : State}

/-- A change that leaves every line's coder, pump and counters, and the part-wide counters. -/
theorem ofLines (h : s₀.Keeps s)
    (hlines : ∀ j, (t.line j).vc = (s.line j).vc ∧ (t.line j).dp = (s.line j).dp ∧ (t.line j).cnt = (s.line j).cnt)
    (hcnt : t.cnt = s.cnt) : s₀.Keeps t := by
  refine ⟨fun hs j => ?_, fun hs => ?_⟩
  · rw [(hlines j).1]
    exact h.coders hs j
  · obtain ⟨hpart, hall⟩ := h.counts hs
    refine ⟨by rwa [hcnt], fun j => ?_⟩
    obtain ⟨-, hdp, hlineCnt⟩ := hlines j
    rw [hdp, hlineCnt]
    exact hall j

/-- A change of neither lines nor part-wide counters. -/
theorem same (h : s₀.Keeps s) (hlines : t.lines = s.lines) (hcnt : t.cnt = s.cnt) : s₀.Keeps t :=
  h.ofLines (fun j => by simp only [State.line, hlines, and_self]) hcnt

theorem ite {c : Prop} [Decidable c] {a b : State} (ha : s₀.Keeps a) (hb : s₀.Keeps b) :
    s₀.Keeps (if c then a else b) := by
  split
  · exact ha
  · exact hb

theorem foldl {α : Type} {f : State → α → State} (hf : ∀ {u : State} (a : α), s₀.Keeps u → s₀.Keeps (f u a))
    (l : List α) (h : s₀.Keeps s) : s₀.Keeps (l.foldl f s) := by
  induction l generalizing s with
  | nil => exact h
  | cons a l ih => exact ih (hf a h)

/-- A change of one line whose coder state, readings and counters stay in their ranges. -/
theorem updLine (h : s₀.Keeps s) (i : LineNo) (f : Line → Line)
    (hvc : coderOk (s.line i).vc.coder → coderOk (f (s.line i)).vc.coder)
    (hdp : s₀.countsInRange → (s.line i).dp.readingsInRange → (f (s.line i)).dp.readingsInRange)
    (hcnt : (s.line i).cnt.bounded → (f (s.line i)).cnt.bounded) : s₀.Keeps (s.upd i f) := by
  refine ⟨fun hs j => ?_, fun hs => ⟨(h.counts hs).1, fun j => ?_⟩⟩
  · rw [State.line_upd]
    split
    · exact hvc (h.coders hs i)
    · exact h.coders hs j
  · obtain ⟨-, hlines⟩ := h.counts hs
    rw [State.line_upd]
    split
    · exact ⟨hdp hs (hlines i).1, hcnt (hlines i).2⟩
    · exact hlines j

section
variable (h : s₀.Keeps s)
include h

/-- Part-wide counters are raised, each up to its upper end (R179). -/
theorem raiseCounts (hlines : t.lines = s.lines) (hcnt : s.cnt.bounded → t.cnt.bounded) : s₀.Keeps t := by
  have hline : ∀ j, t.line j = s.line j := fun j => by simp only [State.line, hlines]
  refine ⟨fun hs j => ?_, fun hs => ?_⟩
  · rw [hline]
    exact h.coders hs j
  · obtain ⟨hpart, hall⟩ := h.counts hs
    exact ⟨hcnt hpart, fun j => by rw [hline]; exact hall j⟩

/-- The part-wide counter at place `k` of R179's list is raised. -/
theorem countPart (k : Nat) {n : Nat} (hlines : t.lines = s.lines)
    (hcnt : t.cnt.list = s.cnt.list.set k (satAdd (s.cnt.list.getD k 0) n)) : s₀.Keeps t :=
  h.raiseCounts hlines fun hs => by
    unfold PartCounters.bounded
    rw [hcnt]
    exact forall_mem_set_le (satAdd_le _ _) hs

/-- The part-wide counter at place `k` of R179's list is raised under a condition. -/
theorem countPartIf (k : Nat) {n : Nat} {p : Prop} {_ : Decidable p} (hlines : t.lines = s.lines)
    (hcnt : t.cnt.list = s.cnt.list.set k (if p then satAdd (s.cnt.list.getD k 0) n else s.cnt.list.getD k 0)) :
    s₀.Keeps t :=
  h.raiseCounts hlines fun hs => by
    unfold PartCounters.bounded
    rw [hcnt]
    exact forall_mem_set_le (ite_satAdd_le _ (getD_le k hs)) hs

theorem withBm {b : Bm} : s₀.Keeps { s with bm := b } := h.same rfl rfl
theorem withGd {g : Gd} : s₀.Keeps { s with gd := g } := h.same rfl rfl
theorem withCt {c : Ct} : s₀.Keeps { s with ct := c } := h.same rfl rfl
theorem withStc {t : Stc} : s₀.Keeps { s with stc := t } := h.same rfl rfl
theorem withLp {p : Lp} : s₀.Keeps { s with lp := p } := h.same rfl rfl
theorem withSl {l : Sl} : s₀.Keeps { s with sl := l } := h.same rfl rfl
theorem reach {d : Nat} : s₀.Keeps (s.reach d) := h.same rfl rfl
theorem setFlag {k : Notice} {i : LineNo} {b : Bool} : s₀.Keeps (s.setFlag k i b) := h.same rfl rfl
theorem raise {k : Notice} {i : LineNo} : s₀.Keeps (s.raise k i) := h.same rfl rfl
theorem raisePart {k : Notice} : s₀.Keeps (s.raisePart k) := h.same rfl rfl

end

section
variable (h : s₀.Keeps s) (i : LineNo)
include h

/-- A change of one line that leaves its coder, its pump and its counters. Where a chain goes on, such an argument
stands under `by exact`: it waits until the goal has said what `f` is. -/
theorem upd {f : Line → Line} (hf : ∀ l, (f l).vc = l.vc ∧ (f l).dp = l.dp ∧ (f l).cnt = l.cnt) :
    s₀.Keeps (s.upd i f) := by
  obtain ⟨hvc, hdp, hcnt⟩ := hf (s.line i)
  exact h.updLine i f (by rw [hvc]; exact id) (by rw [hdp]; exact fun _ => id) (by rw [hcnt]; exact id)

theorem updLif {f : Lif → Lif} : s₀.Keeps (s.updLif i f) := h.upd i fun _ => ⟨rfl, rfl, rfl⟩
theorem updCc {f : Cc → Cc} : s₀.Keeps (s.updCc i f) := h.upd i fun _ => ⟨rfl, rfl, rfl⟩
theorem updTu {f : Tu → Tu} : s₀.Keeps (s.updTu i f) := h.upd i fun _ => ⟨rfl, rfl, rfl⟩
theorem updBlc {f : Blc → Blc} : s₀.Keeps (s.updBlc i f) := h.upd i fun _ => ⟨rfl, rfl, rfl⟩
theorem updFxc {f : Fxc → Fxc} : s₀.Keeps (s.updFxc i f) := h.upd i fun _ => ⟨rfl, rfl, rfl⟩
theorem updApc {f : Apc → Apc} : s₀.Keeps (s.updApc i f) := h.upd i fun _ => ⟨rfl, rfl, rfl⟩
theorem setSlot {slot : LineNo} {a : Option Attach} : s₀.Keeps (s.setSlot i slot a) := h.upd i fun _ => ⟨rfl, rfl, rfl⟩

/-- A change of the Voice Coder. -/
theorem updVc {f : Vc → Vc} (hf : coderOk (s.line i).vc.coder → coderOk (f (s.line i).vc).coder) :
    s₀.Keeps (s.updVc i f) := h.updLine i _ hf (fun _ => id) id

/-- A change of the Data Pump. -/
theorem updDp {f : Dp → Dp}
    (hf : (s.line i).dp.readingsInRange → (f (s.line i).dp).readingsInRange) :
    s₀.Keeps (s.updDp i f) := h.updLine i _ id (fun _ => hf) id

/-- The readings of a training start anew, the accumulator staying (R70). -/
theorem freshen {f : Dp → Dp} (hf : ∀ d, (f d).acc = d.acc ∧ (f d).trainSum = 0 ∧ (f d).trainCount = 0) :
    s₀.Keeps (s.updDp i f) :=
  h.updDp i fun hd => by
    obtain ⟨hacc, hsum, hcount⟩ := hf (s.line i).dp
    exact ⟨hacc ▸ hd.1, by omega, by omega⟩

/-- The pump runs with an accumulator that is in range where the readings were (R70, R79). -/
theorem runWithAcc {acc : Nat} (hacc : s₀.countsInRange → acc ≤ 800) :
    s₀.Keeps (s.updDp i fun d => { d.run with acc := acc }) :=
  h.updLine i _ id (fun hs ⟨_, hcount, hsum⟩ => ⟨hacc hs, hcount, hsum⟩) id

/-- Counters of a line are raised, each up to its upper end (R179). -/
theorem updCnt {f : LineCounters → LineCounters}
    (hf : (s.line i).cnt.bounded → (f (s.line i).cnt).bounded) :
    s₀.Keeps (s.updCnt i f) := h.updLine i _ id (fun _ => id) hf

/-- The counter at place `k` of R179's list is raised. -/
theorem count (k : Nat) {f : LineCounters → LineCounters}
    (hf : ∀ c, ∃ n, (f c).list = c.list.set k (satAdd (c.list.getD k 0) n)) : s₀.Keeps (s.updCnt i f) :=
  h.updCnt i fun hs => by
    obtain ⟨n, hn⟩ := hf (s.line i).cnt
    unfold LineCounters.bounded
    rw [hn]
    exact forall_mem_set_le (satAdd_le _ _) hs

/-- The counter at place `k` of R179's list is raised under a condition. -/
theorem countIf (k : Nat) {p : Prop} {_ : Decidable p} {f : LineCounters → LineCounters}
    (hf : ∀ c, ∃ n, (f c).list = c.list.set k (if p then satAdd (c.list.getD k 0) n else c.list.getD k 0)) :
    s₀.Keeps (s.updCnt i f) :=
  h.updCnt i fun hs => by
    obtain ⟨n, hn⟩ := hf (s.line i).cnt
    unfold LineCounters.bounded
    rw [hn]
    exact forall_mem_set_le (ite_satAdd_le _ (getD_le k hs)) hs

end

/-! ## Slots, holdings, pending list (chapters 4 and 8) -/

section
variable (h : s₀.Keeps s)
include h

theorem emptySlots {p : Attach → Bool} : s₀.Keeps (s.emptySlots p) :=
  h.ofLines (fun j => by simp only [State.line, State.emptySlots, Four.get_map, and_self]) rfl

theorem closeEntry {id : Nat} : s₀.Keeps (s.closeEntry id) := h.withStc.emptySlots

theorem tryDelete (id : Nat) : s₀.Keeps (s.tryDelete id).1 := by
  unfold State.tryDelete
  split
  · exact h
  · split
    · exact h
    · exact h.withStc

theorem trim {id n : Nat} : s₀.Keeps (s.trim id n) := h.withStc
theorem digitTrim {o : VoiceOp} : s₀.Keeps (s.digitTrim o) := h.trim
theorem dropMessage {id : Nat} : s₀.Keeps (s.dropMessage id) := h.closeEntry.tryDelete id
theorem setRec {k : Nat} {r : EntryRec} : s₀.Keeps (s.setRec k r) := h.withGd
theorem recomputeGroups : s₀.Keeps s.recomputeGroups := .ite h h.withGd.raisePart

/-- A queue event lost is counted (R47). -/
theorem recordEvent {e : QEvent} : s₀.Keeps (s.recordEvent e) := by
  dsimp only [State.recordEvent]
  exact (ite (h.same (by rfl) (by rfl)) (h.countPart 2 (by rfl) (by rfl))).raisePart

end

section
variable (h : s₀.Keeps s) (i : LineNo)
include h

theorem addActs {a : List Activity} : s₀.Keeps (s.addActs i a) := h.upd i fun _ => ⟨rfl, rfl, rfl⟩
theorem endActs {a : List Activity} : s₀.Keeps (s.endActs i a) :=
  .ite (h.upd i (by exact fun _ => ⟨rfl, rfl, rfl⟩)).withBm (h.upd i fun _ => ⟨rfl, rfl, rfl⟩)

theorem setCounted {c : Cls} : s₀.Keeps (s.setCounted i c) := by
  simp only [State.setCounted]
  split
  · exact .ite (h.upd i (by exact fun _ => ⟨rfl, rfl, rfl⟩)).withBm (h.upd i fun _ => ⟨rfl, rfl, rfl⟩)
  · exact h.upd i fun _ => ⟨rfl, rfl, rfl⟩

theorem dropPending : s₀.Keeps (s.dropPending i) := .ite h.withBm h
theorem joinPending {a : Ask} {r : Requester} : s₀.Keeps (s.joinPending i a r) := h.withBm

/-! ## Line interface, seizure, groups and call queue (chapters 1 to 3) -/

theorem seize : s₀.Keeps (s.seize i) := .ite (h.updLif i) h
theorem release : s₀.Keeps (s.release i) := .ite h (h.updLif i)

theorem flashOrder : s₀.Keeps (s.flashOrder i).1 := by
  simp only [State.flashOrder, apply_ite Prod.fst]
  exact .ite (h.updLif i) h

theorem breakOrder (n : Nat) : s₀.Keeps (s.breakOrder i n).1 := by
  simp only [State.breakOrder, apply_ite Prod.fst]
  exact .ite (h.updLif i) h

theorem applyResult {good : Bool} : s₀.Keeps (s.applyResult i good) :=
  .ite (h.updLif i) (h.updLif i).raise.recomputeGroups

theorem enterSeized {kind : CallKind} {dial : List DialElem} {m : DialMethod} {conn : Option Conn} :
    s₀.Keeps (s.enterSeized i kind dial m conn) := by
  dsimp only [State.enterSeized]
  exact ((((h.addActs i).seize i).updCc i).updTu i).count i 1 fun _ => ⟨_, rfl⟩

theorem dispatchTo (c : GroupCall) (entry : Nat) : s₀.Keeps (s.dispatchTo c i entry) :=
  (h.withGd.enterSeized i).recordEvent

theorem dispatchEntry (k : Nat) (r : EntryRec) : s₀.Keeps (s.dispatchEntry k r i) :=
  h.withGd.setRec.dispatchTo i r.call k

theorem lineEvent : s₀.Keeps (s.lineEvent i) := by
  simp only [State.lineEvent]
  split
  · exact h
  · split
    · exact h.dispatchEntry i _ _
    · exact h

omit i in
theorem offerEntry (k : Nat) : s₀.Keeps (s.offerEntry k) := by
  unfold State.offerEntry
  split
  · exact h
  · split
    · exact h
    · exact h.dispatchEntry _ _ _

omit i in
theorem walkQueue : s₀.Keeps s.walkQueue := foldl (fun k hu => hu.offerEntry k) _ h

theorem freeAssigned : s₀.Keeps (s.freeAssigned i) := h.withGd

theorem glareReturn : s₀.Keeps (s.glareReturn i) := by
  unfold State.glareReturn
  split
  · exact h
  · split
    · exact h
    · split
      · exact h.setRec.withGd.recordEvent.offerEntry _
      · exact h.setRec.recordEvent

theorem toIdle : s₀.Keeps (s.toIdle i) := (h.updCc i).upd i fun _ => ⟨rfl, rfl, rfl⟩

theorem superviseLine {good : Bool} : s₀.Keeps (s.superviseLine i good) :=
  .ite ((h.applyResult i).lineEvent i) (h.applyResult i)

/-! ## Rate changes, reclaim, admissions (chapters 4 and 5) -/

theorem linkPumpLeft : s₀.Keeps (s.linkPumpLeft i) := h.updBlc i

theorem beginExchange : s₀.Keeps (s.beginExchange i) :=
  h.updDp i fun hd => by split <;> exact hd

theorem enterRateChange {up : Bool} {target : Cls} : s₀.Keeps (s.enterRateChange i up target) :=
  .ite (((h.updDp i (by exact fun hok => hok)).linkPumpLeft i).beginExchange i)
    ((h.updDp i (by exact fun hok => hok)).linkPumpLeft i)

theorem owe {c : Cls} : s₀.Keeps (s.owe i c) := h.updDp i fun hok => hok

theorem stepDown : s₀.Keeps (s.stepDown i) := by
  simp only [State.stepDown]
  split
  case h_1 => exact h
  case h_2 | h_4 | h_5 =>
    split
    · exact h.owe i
    · exact h
  case h_3 =>
    split
    · exact .ite h (h.enterRateChange i)
    · exact h.owe i
    · exact h

omit i in
theorem considerReclaim : s₀.Keeps s.considerReclaim := by
  unfold State.considerReclaim
  split
  · split
    · split
      · exact (h.stepDown _).withBm
      · exact h
    · exact h
  · exact h

theorem reclaimCheck : s₀.Keeps (s.reclaimCheck i) := by
  unfold State.reclaimCheck
  split
  · exact .ite h.withBm h
  · exact h

theorem request (ends : List Activity) (a : Ask) (r : Requester) : s₀.Keeps (s.request i ends a r).1 := by
  simp only [State.request]
  split
  · exact h
  · split
    · exact (h.endActs i).addActs i
    · exact ((h.endActs i).joinPending i).considerReclaim

/-! ## The end of a call (R27, R34, R96, R114, R144, R159) -/

/-- A message begun in a closing window is counted (R27). -/
theorem closeClid : s₀.Keeps (s.closeClid i) := by
  simp only [State.closeClid]
  split
  · exact h
  · exact .ite (((h.updTu i).endActs i).countPart 0 rfl rfl) ((h.updTu i).endActs i)

theorem closeOp {r : VoiceOutcome} : s₀.Keeps (s.closeOp i r) := by
  unfold State.closeOp
  split
  · exact h
  · exact .ite (h.updVc i (by exact fun hok => hok)).raise (h.updVc i fun hok => hok)

theorem finishOp {r : VoiceOutcome} : s₀.Keeps (s.finishOp i r) := by
  unfold State.finishOp
  split
  · exact h
  · exact (h.closeOp i).endActs i

theorem stopOp {r : VoiceOutcome} : s₀.Keeps (s.stopOp i r) := by
  unfold State.stopOp
  split
  · exact h
  · exact .ite (h.digitTrim.finishOp i) (h.finishOp i)

theorem planOutcome {r : PlanResult} : s₀.Keeps (s.planOutcome i r) := (h.updApc i).raise

theorem settleMessage : s₀.Keeps (s.settleMessage i).1 := by
  simp only [State.settleMessage]
  split
  · exact h
  · rw [apply_ite Prod.fst]
    exact .ite (h.withStc.closeEntry.updApc i).raise (h.withStc.closeEntry.tryDelete _)

theorem planInactive : s₀.Keeps (s.planInactive i) := (h.updApc i).setSlot i

theorem planRecordingEnds : s₀.Keeps (s.planRecordingEnds i) := by
  unfold State.planRecordingEnds
  split
  · exact .ite ((h.finishOp i).dropMessage.planOutcome i) (((h.finishOp i).settleMessage i).planOutcome i)
  · exact (h.settleMessage i).planOutcome i

theorem voiceClears : s₀.Keeps (s.voiceClears i) := by
  unfold State.voiceClears
  split
  · exact h
  · exact .ite (h.stopOp i).dropMessage (h.stopOp i)

theorem planClears : s₀.Keeps (s.planClears i) := by
  unfold State.planClears
  split
  case h_1 | h_2 => exact h.voiceClears i
  case h_3 | h_4 | h_5 | h_8 => exact ((h.voiceClears i).planOutcome i).planInactive i
  case h_6 => exact (h.planRecordingEnds i).planInactive i
  case h_7 => exact .ite ((h.voiceClears i).planInactive i) (((h.voiceClears i).planOutcome i).planInactive i)
  case h_9 => exact (h.voiceClears i).planInactive i

theorem closePage {j : FaxJob} {id missing : Nat} : s₀.Keeps (s.closePage i j id missing) := by
  dsimp only [State.closePage]
  exact h.withStc.closeEntry.updFxc i

theorem closeIncomplete : s₀.Keeps (s.closeIncomplete i) := by
  unfold State.closeIncomplete
  split
  · split
    · exact h.closePage i
    · exact h
  · exact h

theorem endJob {r : FaxOutcome} : s₀.Keeps (s.endJob i r) := (((h.closeIncomplete i).updFxc i).setSlot i).raise

theorem faxClears : s₀.Keeps (s.faxClears i) := by
  unfold State.faxClears
  split
  · exact .ite (h.endJob i) (h.updFxc i)
  · exact h.updFxc i

/-- The bytes discarded are counted (R96). -/
theorem linkClears : s₀.Keeps (s.linkClears i) := by
  dsimp only [State.linkClears]
  exact (h.updBlc i).count i 16 fun _ => ⟨_, rfl⟩

theorem budgetClears : s₀.Keeps (s.budgetClears i) :=
  ((h.upd i (by exact fun _ => ⟨rfl, rfl, rfl⟩)).dropPending i).withBm

theorem ccClears {r : EndReason} : s₀.Keeps (s.ccClears i r) := by
  dsimp only [State.ccClears]
  exact h.updCc i

theorem toneClears : s₀.Keeps (s.toneClears i) := by
  dsimp only [State.toneClears]
  exact (((h.closeClid i).updTu i).release i).updLif i

/-- The pump starts anew, with no readings (R81). -/
theorem clearWith {r : EndReason} : s₀.Keeps (s.clearWith i r) := by
  dsimp only [State.clearWith]
  have hcc := ite (c := (s.line i).cc.outcome = .glare ∧ (s.line i).cc.state = .seized) (h.ccClears i (r := r))
    ((h.ccClears i (r := r)).freeAssigned i)
  exact (((((hcc.toneClears i).planClears i).faxClears i).updDp i fun _ =>
    Dp.reset_readingsInRange).linkClears i).budgetClears i

theorem startClearing : s₀.Keeps (s.startClearing i) := .ite (h.clearWith i).raise h
theorem joinCause {c : Cause} : s₀.Keeps (s.joinCause i c) := .ite (h.updCc i) h
theorem raiseCause {c : Cause} : s₀.Keeps (s.raiseCause i c) := (h.joinCause i).startClearing i

theorem progressFails {o : Outcome} : s₀.Keeps (s.progressFails i o) := by
  dsimp only [State.progressFails]
  exact ((h.updCc i).count i 3 (by exact fun _ => ⟨_, rfl⟩)).raise.startClearing i

/-! ## The block link (chapter 6) -/

theorem sendEvent {again : Bool} : s₀.Keeps (s.sendEvent i again) :=
  .ite (h.updBlc i) (.ite (((h.updBlc i).updBlc i).stepDown i) ((h.updBlc i).updBlc i))

theorem txRose : s₀.Keeps (s.txRose i) := .ite (h.updBlc i).raise h
theorem txFell : s₀.Keeps (s.txFell i) := .ite (h.updBlc i).raise h
theorem sendSetup : s₀.Keeps (s.sendSetup i) := by
  dsimp only [State.sendSetup]
  exact h.updBlc i

theorem resendBlock {k : Block} : s₀.Keeps (s.resendBlock i k) := by
  dsimp only [State.resendBlock]
  exact ((h.updBlc i).count i 13 (by exact fun _ => ⟨_, rfl⟩)).sendEvent i

theorem newBlock : s₀.Keeps (s.newBlock i) := by
  dsimp only [State.newBlock]
  exact .ite h ((((h.updBlc i).count i 10 (by exact fun _ => ⟨_, rfl⟩)).txFell i).sendEvent i)

theorem startEc : s₀.Keeps (s.startEc i) := by
  simp only [State.startEc]
  split
  · exact h.updBlc i
  · refine .ite (h.sendSetup i) (.ite h ?_)
    split
    · exact h.resendBlock i
    · exact h.newBlock i

theorem startTx : s₀.Keeps (s.startTx i) := by
  simp only [State.startTx]
  refine .ite h ?_
  split
  case h_1 => exact .ite (h.sendSetup i) h
  case h_2 => exact h.startEc i
  case h_3 =>
    split
    · exact (h.updBlc i).txFell i
    · exact h
  case h_4 => exact h

theorem startTry {n : Nat} : s₀.Keeps (s.startTry i n) := (h.updBlc i).startTx i

theorem linkPumpRuns : s₀.Keeps (s.linkPumpRuns i) := by
  simp only [State.linkPumpRuns]
  split
  case h_1 | h_2 => exact h.startTry i
  case h_3 => exact (h.updBlc i).startTx i
  case h_4 | h_5 => exact h

/-- The bytes discarded are counted (R82). -/
theorem linkWaits : s₀.Keeps (s.linkWaits i) := by
  dsimp only [State.linkWaits]
  exact (h.updBlc i).count i 16 fun _ => ⟨_, rfl⟩

/-! ## The pump (R67 to R78) -/

theorem startTraining {f : Family} {floor : Cls} : s₀.Keeps (s.startTraining i f floor) :=
  h.updDp i fun _ => Dp.reset_readingsInRange

theorem setClass (c : Cls) : s₀.Keeps (s.setClass i c) := by
  dsimp only [State.setClass]
  refine reclaimCheck ?_ i
  have hcounted := fun b : Bool => ((h.updDp i (f := fun d => { d with cur := some c }) fun hok => hok).setCounted i
    (c := c)).countIf i 6 (f := fun k => { k with fallbacks := if b then satAdd k.fallbacks 1 else k.fallbacks })
    fun _ => ⟨_, rfl⟩
  exact .ite (hcounted _) ((hcounted _).updBlc i)

theorem orderStands : s₀.Keeps (s.orderStands i) := by
  unfold State.orderStands
  split
  · exact .ite (h.owe i) h
  · exact h

theorem enterRetraining : s₀.Keeps (s.enterRetraining i) := by
  dsimp only [State.enterRetraining]
  exact .ite ((h.updDp i (by exact fun hok => hok)).raiseCause i)
    ((((h.orderStands i).freshen i (by exact fun _ => ⟨rfl, rfl, rfl⟩)).count i 9
      (by exact fun _ => ⟨_, rfl⟩)).linkPumpLeft i)

/-- The accumulator becomes eight times the mean of the readings (R70). -/
theorem trainingSucceeds (agreed : Cls) : s₀.Keeps (s.trainingSucceeds i agreed) := by
  dsimp only [State.trainingSucceeds]
  have hrun := fun m => (h.setClass i agreed).updDp i
    (f := fun d => { d.run.freshTraining with acc := 8 * (d.trainSum / 150), agreedMax := m })
    fun hd => ⟨Dp.trainMean_le hd, Nat.zero_le _, Nat.zero_le _⟩
  exact (ite (hrun _) (hrun _).raise).linkPumpRuns i

theorem trainingFails : s₀.Keeps (s.trainingFails i) := by
  have hfresh := h.freshen i (f := fun d => { d.freshTraining with attempts := d.attempts + 1 })
    fun _ => ⟨rfl, rfl, rfl⟩
  exact .ite (.ite (hfresh.raiseCause i) hfresh) (h.enterRetraining i)

theorem completeTraining : s₀.Keeps (s.completeTraining i) := by
  unfold State.completeTraining
  split
  · exact h.trainingSucceeds i _
  · exact h.updDp i fun hok => hok

theorem trainingRead : s₀.Keeps (s.trainingRead i) := by
  unfold State.trainingRead
  split
  · exact h.trainingFails i
  · exact (h.updDp i (by exact fun hok => hok)).completeTraining i

theorem completeRateChange : s₀.Keeps (s.completeRateChange i) := by
  simp only [State.completeRateChange]
  split
  · exact h
  · exact (((h.setClass i _).updDp i (by exact fun hok => hok)).countIf i 7
      (by exact fun _ => ⟨_, rfl⟩)).raise.linkPumpRuns i

theorem askForward {cur next : Cls} : s₀.Keeps (s.askForward i cur next).1 := by
  simp only [State.askForward, apply_ite Prod.fst]
  exact .ite ((h.setCounted i).enterRateChange i) ((h.updDp i (by exact fun hok => hok)).count i 8 fun _ => ⟨_, rfl⟩)

/-! ## The fax job (chapter 7) -/

theorem updJob {f : FaxJob → FaxJob} : s₀.Keeps (s.updJob i f) := h.updFxc i
theorem faxSend {m : FaxMsg} : s₀.Keeps (s.faxSend i m) := h.updFxc i
theorem faxAsk {m : FaxMsg} : s₀.Keeps (s.faxAsk i m) := h.updFxc i
theorem senderWait : s₀.Keeps (s.senderWait i) := h.updFxc i
theorem faxTell {m : FaxMsg} : s₀.Keeps (s.faxTell i m) := (h.faxSend i).senderWait i
theorem failJob {r : FaxOutcome} : s₀.Keeps (s.failJob i r) := (h.endJob i).raiseCause i
theorem doneJob : s₀.Keeps (s.doneJob i) := (h.endJob i).raiseCause i
theorem startReceive : s₀.Keeps (s.startReceive i) := (h.updJob i).faxAsk i

theorem startJob : s₀.Keeps (s.startJob i) := by
  simp only [State.startJob]
  split
  · exact (h.updFxc i).startReceive i
  · exact ((h.updFxc i).updJob i).updFxc i
  · exact h.updFxc i

theorem newJob {j : FaxJob} : s₀.Keeps (s.newJob i j) := h.updFxc i
theorem planJob {policy : Policy} : s₀.Keeps (s.planJob i policy) := (h.newJob i).startJob i

theorem startPart {p : Nat} : s₀.Keeps (s.startPart i p) := by
  simp only [State.startPart]
  split
  · exact h
  · exact (h.updFxc i).faxSend i

theorem beginSendPage : s₀.Keeps (s.beginSendPage i) := by
  unfold State.beginSendPage
  split
  · exact h
  · split
    · exact h.failJob i
    · exact .ite (((h.setSlot i).updJob i).startPart i) (h.failJob i)

theorem sendPageClose {j : FaxJob} : s₀.Keeps (s.sendPageClose i j) := (h.updJob i).faxAsk i

theorem afterPart : s₀.Keeps (s.afterPart i) := by
  unfold State.afterPart
  split
  · exact h
  · split
    · exact .ite (h.sendPageClose i) (h.startPart i)
    · exact h.updJob i

/-- A check begins with no readings; a further one counts as a retrain (R79). -/
theorem startCheck {c : Cls} {after : AfterCheck} : s₀.Keeps (s.startCheck i c after) := by
  dsimp only [State.startCheck]
  have hfresh := fun again : Bool => (h.updJob i (f := fun j => { j with
    phase := .train, fk := some c, after := after, bursts := 1 })).freshen i (f := fun d => if again then
      { d.freshTraining with pump := .retraining, lossRun := 0, belowRun := 0, fwdRun := 0, stableRun := 0 }
    else d.freshTraining) fun d => by
      cases again <;> exact ⟨rfl, rfl, rfl⟩
  exact .ite ((hfresh _).count i 9 fun _ => ⟨_, rfl⟩) (hfresh _)

theorem announceCheck {c : Cls} {after : AfterCheck} : s₀.Keeps (s.announceCheck i c after) :=
  ((h.startCheck i).updFxc i).faxSend i

theorem checkEnds {c : Cls} : s₀.Keeps (s.checkEnds i c) := by
  have hfresh := ((h.setClass i c).freshen i (f := fun d => { d.freshTraining with owed := none })
    fun _ => ⟨rfl, rfl, rfl⟩).updJob i (f := fun j => { j with cls := some c, fk := some c })
  exact .ite hfresh hfresh.raise

/-- The accumulator of an accepted check is the caller's (R79). -/
theorem checkAccepted {c : Cls} {acc : Nat} (hacc : s₀.countsInRange → acc ≤ 800) :
    s₀.Keeps (s.checkAccepted i c acc) := by
  simp only [State.checkAccepted]
  have hrun := ((h.checkEnds i (c := c)).runWithAcc i hacc).updJob i
    (f := fun j => { j with checked := true, phase := .page, mapAnswer := none })
  split
  · exact hrun
  · split
    · exact hrun.beginSendPage i
    · exact hrun.updJob i
    · exact hrun.afterPart i
    · exact hrun.updJob i

theorem checkRejected {c : Cls} {named : Option Cls} : s₀.Keeps (s.checkRejected i c named) := by
  simp only [State.checkRejected]
  have hends := h.checkEnds i (c := c)
  split
  · exact hends
  · next j _ =>
    have hnext {t : State} (n : Cls) (ht : s₀.Keeps t) : s₀.Keeps (match j.dir with
        | some .send => t.announceCheck i n j.after
        | _ => (t.startCheck i n j.after).faxTell i (.verdict (some n))) := by
      split
      · exact ht.announceCheck i
      · exact (ht.startCheck i).faxTell i
    refine .ite (.ite (failJob ?_ i) (hnext _ (hends.updJob i))) (hnext _ (hends.stepDown i))
    split
    · exact hends.updJob i
    · exact (hends.updJob i).faxSend i

/-- The accumulator of an accepted check is eight times the mean of its readings (R79). -/
theorem faxCheckRead : s₀.Keeps (s.faxCheckRead i) := by
  simp only [State.faxCheckRead]
  split
  · exact h
  · exact .ite ((h.faxTell i).checkAccepted i fun hs => Dp.trainMean_le ((h.counts hs).2 i).1) (h.checkRejected i)

theorem countResent {n : Nat} : s₀.Keeps (s.countResent i n) := by
  dsimp only [State.countResent]
  exact (h.updJob i).count i 19 fun _ => ⟨_, rfl⟩

theorem sendBoundary {missing : List Nat} : s₀.Keeps (s.sendBoundary i missing) := by
  simp only [State.sendBoundary]
  split
  · exact (h.updJob i).announceCheck i
  · exact (h.updJob i).afterPart i

theorem receiveBoundary {missing : List Nat} : s₀.Keeps (s.receiveBoundary i missing) := by
  simp only [State.receiveBoundary]
  split
  · exact (((h.updJob i).startCheck i).updJob i).faxTell i
  · exact (((h.updJob i).updJob i).afterPart i).faxTell i

theorem receiveResend {missing : List Nat} : s₀.Keeps (s.receiveResend i missing) := by
  dsimp only [State.receiveResend]
  exact ((h.countResent i).updJob i).faxTell i

theorem receiveRetrain {missing : List Nat} {cur : Cls} : s₀.Keeps (s.receiveRetrain i missing cur) := by
  dsimp only [State.receiveRetrain]
  exact (((h.stepDown i).startCheck i).updJob i).faxTell i

theorem judgeRound {j : FaxJob} : s₀.Keeps (s.judgeRound i j) := by
  unfold State.judgeRound
  refine .ite (h.receiveBoundary i) (.ite (h.receiveResend i) ?_)
  split
  · exact h.receiveRetrain i
  · exact h.receiveBoundary i

theorem sendRetrain {missing : List Nat} {cur : Cls} {named : Option Cls} :
    s₀.Keeps (s.sendRetrain i missing cur named) := by
  dsimp only [State.sendRetrain]
  exact .ite (((h.stepDown i).updJob i).announceCheck i) (((h.stepDown i).updJob i).announceCheck i)

theorem followMap {j : FaxJob} {missing : List Nat} {a : MapAction} : s₀.Keeps (s.followMap i j missing a) := by
  simp only [State.followMap]
  split
  · exact h.sendBoundary i
  · exact h.sendRetrain i
  · refine .ite (((h.countResent i).updJob i).updFxc i) ?_
    split
    · exact h.sendRetrain i
    · exact h.sendBoundary i

theorem takePart {id p c : Nat} {last : Bool} : s₀.Keeps (s.takePart i id p c last) := by
  unfold State.takePart
  split
  · exact h.failJob i
  · exact (h.withStc.updJob i).senderWait i

theorem beginReceivePage {j : FaxJob} {c : Nat} {last : Bool} : s₀.Keeps (s.beginReceivePage i j c last) := by
  simp only [State.beginReceivePage]
  split
  case h_1 | h_2 => exact h.failJob i
  case h_3 => exact ((h.withStc.setSlot i).updJob i).takePart i

theorem takeHeader {j : FaxJob} {p c : Nat} {last : Bool} : s₀.Keeps (s.takeHeader i j p c last) := by
  unfold State.takeHeader
  split
  · exact .ite (h.beginReceivePage i) h
  · exact .ite ((h.updJob i).senderWait i) (.ite ((ite h (h.updJob i)).takePart i) h)

theorem storeFrame {j : FaxJob} {n : Nat} {b : List Byte} : s₀.Keeps (s.storeFrame i j n b) := by
  unfold State.storeFrame
  split
  · exact h
  · split
    · exact h
    · exact h.withStc.updJob i

theorem completePage {j : FaxJob} {id : Nat} {more : Bool} : s₀.Keeps (s.completePage i j id more) := by
  dsimp only [State.completePage]
  exact ((((h.closePage i).setSlot i).updFxc i).count i 18 (by exact fun _ => ⟨_, rfl⟩)).raise.faxTell i

/-- A parity error met at the read of a frame is counted (R112, R131). -/
theorem readFrame {j : FaxJob} {n : Nat} : s₀.Keeps (s.readFrame i j n).1 := by
  simp only [State.readFrame]
  split
  · exact h
  · split
    · exact h
    · simp only [apply_ite Prod.fst]
      exact .ite (h.withStc.count i 20 fun _ => ⟨_, rfl⟩) h

theorem answerAgain {j : FaxJob} {k : FaxKind} : s₀.Keeps (s.answerAgain i j k) := by
  simp only [State.answerAgain]
  split
  · exact .ite (h.faxTell i) (h.faxSend i)
  · exact h

theorem faxConnected : s₀.Keeps (s.faxConnected i) := .ite (h.startJob i) (h.updFxc i)

/-! ## Connection, voice operations and answer plans (chapters 2, 9 and 10) -/

theorem ccConnected : s₀.Keeps (s.ccConnected i) := by
  dsimp only [State.ccConnected]
  exact ((h.updCc i).countIf i 2 (by exact fun _ => ⟨_, rfl⟩)).raise

theorem planFaxStarts : s₀.Keeps (s.planFaxStarts i) := by
  dsimp only [State.planFaxStarts]
  exact ((h.planJob i).planOutcome i).updApc i

theorem connectedStarts : s₀.Keeps (s.connectedStarts i) := by
  simp only [State.connectedStarts]
  split
  · exact .ite ((((h.startTraining i).linkWaits i).planOutcome i).planInactive i) ((h.startTraining i).linkWaits i)
  · exact .ite ((h.startTraining i).planFaxStarts i) ((h.startTraining i).faxConnected i)
  · exact h

theorem enterConnected : s₀.Keeps (s.enterConnected i) := (h.ccConnected i).connectedStarts i

theorem askConnection : s₀.Keeps (s.askConnection i) := by
  simp only [State.askConnection]
  split
  · exact h
  · split
    · exact (h.request i _ _ _).enterConnected i
    · exact h.request i _ _ _

theorem planEnding {r : PlanResult} : s₀.Keeps (s.planEnding i r) := ((h.planOutcome i).updApc i).raiseCause i
theorem planNotRecorded : s₀.Keeps (s.planNotRecorded i) := h.planEnding i
theorem planRecorded : s₀.Keeps (s.planRecorded i) := (h.settleMessage i).planEnding i

theorem opGranted : s₀.Keeps (s.opGranted i) := by
  unfold State.opGranted
  split
  · exact h
  · exact .ite (.ite (h.finishOp i) (h.finishOp i).dropMessage) (h.updVc i fun hok => hok)

theorem recordStep : s₀.Keeps (s.recordStep i) := by
  simp only [State.recordStep]
  split
  · exact h.planNotRecorded i
  · have hasked := fun t id o => (((h.withStc (t := t)).setSlot i (slot := 1)
      (a := some { id := id, right := .record })).updApc i (f := fun a => { a with
        plan := .recording, message := some id, recordToneDue := some (s.now + 300), mailboxDue := none })).updVc i
      (f := fun v => { v with op := some o }) fun hok => hok
    split
    · exact ((hasked _ _ _).request i _ _ _).opGranted i
    · exact (hasked _ _ _).request i _ _ _

theorem chooseMailbox {m : Nat} : s₀.Keeps (s.chooseMailbox i m) := (h.updApc i).recordStep i

theorem mailboxLook : s₀.Keeps (s.mailboxLook i) := by
  unfold State.mailboxLook
  refine .ite ?_ h
  split
  · exact (h.updTu i).chooseMailbox i
  · exact h.updTu i

theorem mailboxStep : s₀.Keeps (s.mailboxStep i) := by
  dsimp only [State.mailboxStep]
  exact .ite (h.chooseMailbox i) ((h.updApc i).mailboxLook i)

theorem enterGreeting {id : Nat} : s₀.Keeps (s.enterGreeting i id) := by
  dsimp only [State.enterGreeting]
  exact (h.updApc i).updVc i fun hok => hok

theorem greetingEnds {r : VoiceOutcome} : s₀.Keeps (s.greetingEnds i r) := by
  dsimp only [State.greetingEnds]
  exact (ite ((h.closeOp i).mailboxStep i) (h.closeOp i)).endActs i

theorem opEnds {r : VoiceOutcome} : s₀.Keeps (s.opEnds i r) := by
  unfold State.opEnds
  split
  · exact h
  · split
    · exact h.finishOp i
    · exact h.greetingEnds i
    · exact (h.finishOp i).planRecorded i

theorem enterAnswering {k : CallKind} {c : Option Conn} : s₀.Keeps (s.enterAnswering i k c) :=
  ((h.closeClid i).seize i).updCc i

/-- A greeting skipped is counted (R151). -/
theorem answerVoice {p : Profile} : s₀.Keeps (s.answerVoice i p) := by
  dsimp only [State.answerVoice]
  exact ((((h.updApc i).setSlot i).setSlot i).countIf i 21 (by exact fun _ => ⟨_, rfl⟩)).enterAnswering i

theorem answerModem {p : Profile} {st : PlanState} {k : CallKind} {c : Conn} : s₀.Keeps (s.answerModem i p st k c) :=
  (((h.updApc i).setSlot i).setSlot i).enterAnswering i

theorem answerOrder : s₀.Keeps (s.answerOrder i) := by
  simp only [State.answerOrder]
  split
  case h_1 => exact h
  case h_2 | h_3 => exact h.answerVoice i
  case h_4 | h_5 => exact h.answerModem i

theorem answerDecision : s₀.Keeps (s.answerDecision i) := by
  unfold State.answerDecision
  refine .ite ?_ h
  split
  · exact h.answerOrder i
  · exact h.updApc i
  · exact h

theorem planAnswered : s₀.Keeps (s.planAnswered i) := by
  simp only [State.planAnswered]
  split
  · exact (h.ccConnected i).enterGreeting i
  · exact (h.ccConnected i).mailboxStep i

theorem planAsks : s₀.Keeps (s.planAsks i) := by
  simp only [State.planAsks]
  split
  · exact (h.request i _ _ _).planAnswered i
  · exact h.request i _ _ _

theorem planFaxGranted : s₀.Keeps (s.planFaxGranted i) := (h.startTraining i).planFaxStarts i

theorem faxHandoff : s₀.Keeps (s.faxHandoff i) := by
  simp only [State.faxHandoff]
  split
  · exact (((h.closeOp i).updApc i).request i _ _ _).planFaxGranted i
  · exact ((h.closeOp i).updApc i).request i _ _ _

theorem planFaxFailed : s₀.Keeps (s.planFaxFailed i) := by
  simp only [State.planFaxFailed]
  split
  · exact ((h.updApc i).request i _ _ _).mailboxStep i
  · exact (h.updApc i).request i _ _ _

/-! ## The hand-out (R60 to R62) -/

theorem grantTo {r : Requester} : s₀.Keeps (s.grantTo i r) := by
  cases r
  case ccConnection => exact h.enterConnected i
  case vcHost | planRecord => exact h.opGranted i
  case planAnswer => exact h.planAnswered i
  case planFax => exact h.planFaxGranted i
  case planVoice => exact h.mailboxStep i

omit i in
theorem grant {p : Pending} {acts : List Activity} : s₀.Keeps (s.grant p acts) :=
  ((h.dropPending _).addActs _).grantTo _

theorem opFails : s₀.Keeps (s.opFails i) := by
  unfold State.opFails
  split
  · exact h.finishOp i
  · exact h

theorem planRecordFails : s₀.Keeps (s.planRecordFails i) := by
  unfold State.planRecordFails
  split
  · exact h
  · exact .ite ((h.opFails i).dropMessage.planNotRecorded i) (h.opFails i).dropMessage

theorem failTo {r : Requester} : s₀.Keeps (s.failTo i r) := by
  cases r
  case ccConnection => exact h.raiseCause i
  case vcHost => exact h.opFails i
  case planAnswer | planVoice => exact h.planNotRecorded i
  case planFax => exact h.planFaxFailed i
  case planRecord => exact h.planRecordFails i

omit i in
theorem handOutEnds : s₀.Keeps s.handOutEnds := by
  dsimp only [State.handOutEnds, State.settled]
  exact (ite h.considerReclaim.walkQueue h.considerReclaim).withBm

end

theorem settleN (n : Nat) (h : s₀.Keeps s) : s₀.Keeps (Machine.settleN n s) := by
  induction n generalizing s with
  | zero => exact h.withBm
  | succ n ih =>
    unfold Machine.settleN
    refine .ite ?_ h.withBm
    split
    · exact h.handOutEnds
    · split
      · exact h.handOutEnds
      · exact ih h.grant

theorem settle (h : s₀.Keeps s) : s₀.Keeps s.settle := h.settleN 32

/-! ## Rings, dialling, call progress, caller identification (chapters 1 and 2) -/

section
variable (h : s₀.Keeps s) (i : LineNo)
include h

theorem enterRinging : s₀.Keeps (s.enterRinging i) := by
  dsimp only [State.enterRinging]
  exact (((h.withCt.updCc i).updTu i).updApc i).count i 0 fun _ => ⟨_, rfl⟩

theorem ring : s₀.Keeps (s.ring i) := (ite (h.enterRinging i) h).raise.answerDecision i

theorem glare : s₀.Keeps (s.glare i) := .ite ((h.progressFails i).settle.glareReturn i) h

theorem abandoned : s₀.Keeps (s.abandoned i) :=
  .ite (((((h.closeClid i).updCc i).raise.updApc i).toIdle i).lineEvent i) h

theorem enterProgress : s₀.Keeps (s.enterProgress i) := by
  dsimp only [State.enterProgress]
  exact .ite h ((h.updCc i).updTu i)

theorem beginElem (e : DialElem) : s₀.Keeps (s.beginElem i e).1 := by
  simp only [State.beginElem]
  split
  case h_1 | h_2 | h_3 =>
    dsimp only
    exact h.updCc i
  case h_4 =>
    simp only [apply_ite Prod.fst]
    exact .ite ((h.flashOrder i).updCc i) (h.flashOrder i)
  case h_5 =>
    split
    · simp only [apply_ite Prod.fst]
      exact .ite ((h.breakOrder i _).updCc i) (h.breakOrder i _)
    · exact h
    · dsimp only
      exact h.updCc i

theorem dialFrom (l : List DialElem) : s₀.Keeps (s.dialFrom i l) := by
  induction l generalizing s with
  | nil => exact h.enterProgress i
  | cons e r ih =>
    simp only [State.dialFrom]
    exact .ite (h.beginElem i e) (ih ((h.beginElem i e).updCc i))

theorem elemEnds : s₀.Keeps (s.elemEnds i) := (h.updCc i).dialFrom i _
theorem beginDialling : s₀.Keeps (s.beginDialling i) := ((h.updCc i).freeAssigned i).dialFrom i _
theorem progressConnects : s₀.Keeps (s.progressConnects i) := ((h.updCc i).updTu i).askConnection i
theorem noBusy : s₀.Keeps (s.noBusy i) := (h.updCc i).updVc i fun hok => hok

theorem busyHangup : s₀.Keeps (s.busyHangup i) := by
  unfold State.busyHangup
  split
  · exact h
  · exact .ite h ((h.trim.updCc i).opEnds i)

theorem busyCycle : s₀.Keeps (s.busyCycle i) := by
  dsimp only [State.busyCycle]
  exact .ite (.ite (h.progressFails i) (h.updCc i)) (.ite (.ite (h.busyHangup i) (h.updCc i)) h)

theorem markBusyStart : s₀.Keeps (s.markBusyStart i) := by
  simp only [State.markBusyStart]
  split
  · exact .ite (h.updVc i fun hok => hok) h
  · exact h

theorem toneStarts : s₀.Keeps (s.toneStarts i) := ((h.updTu i).updCc i).markBusyStart i
theorem toneEnded {cp : CpTone} : s₀.Keeps (s.toneEnded i cp) := (h.updTu i).updCc i

theorem ringback : s₀.Keeps (s.ringback i) := by
  dsimp only [State.ringback]
  exact .ite (((h.toneEnded i).noBusy i).updCc i) ((h.toneEnded i).noBusy i)

/-- A number that the Caller Table could not learn is counted (R50). -/
theorem callerKnown {c : Caller} : s₀.Keeps (s.callerKnown i c) := by
  dsimp only [State.callerKnown]
  have hlooked : ∀ (t : Ct) (p : Bool), s₀.Keeps { s with
      ct := t
      cnt := { s.cnt with
        learningDropped := if p then satAdd s.cnt.learningDropped 1 else s.cnt.learningDropped } } :=
    fun _ _ => h.countPartIf 1 rfl rfl
  exact ((((hlooked _ _).updCc i).updApc i).upd i
    (by exact fun _ => ⟨rfl, rfl, rfl⟩)).raise.answerDecision i

omit i in
theorem countClidBad : s₀.Keeps s.countClidBad := h.countPart 0 rfl rfl

theorem clidMessage {b : List Byte} : s₀.Keeps (s.clidMessage i b) := by
  simp only [State.clidMessage]
  split
  · exact h
  · split
    · exact (h.updTu i).countClidBad
    · exact h.updTu i
    · exact (h.updTu i).callerKnown i

theorem openClid : s₀.Keeps (s.openClid i) := .ite ((h.addActs i).updTu i) h

theorem flashDone : s₀.Keeps (s.flashDone i) := .ite ((h.updLif i).elemEnds i) (h.updLif i)
theorem breakDone : s₀.Keeps (s.breakDone i) := h.updLif i

theorem makeDone : s₀.Keeps (s.makeDone i) := by
  dsimp only [State.makeDone]
  exact .ite (h.updLif i) (.ite ((h.updLif i).updCc i) (h.updLif i))

theorem ringOnset : s₀.Keeps (s.ringOnset i) := by
  dsimp only [State.ringOnset]
  exact (h.updLif i).closeClid i

theorem burst : s₀.Keeps (s.burst i) := by
  dsimp only [State.burst]
  refine superviseLine ?_ i
  exact .ite (((h.updLif i).updLif i).ring i) (.ite (h.updLif i) ((h.updLif i).glare i))

theorem measure {volts : Nat} : s₀.Keeps (s.measure i volts) := h.superviseLine i

theorem candidateEnds {volts : Nat} : s₀.Keeps (s.candidateEnds i volts) :=
  .ite ((h.updLif i).measure i) (h.updLif i)

theorem burstEnds : s₀.Keeps (s.burstEnds i) := by
  dsimp only [State.burstEnds]
  exact .ite ((h.updLif i).openClid i) (h.updLif i)

theorem abandonExpires : s₀.Keeps (s.abandonExpires i) := (h.updLif i).abandoned i
theorem blankingDone {current : Bool} : s₀.Keeps (s.blankingDone i current) := h.updLif i
theorem loopLost : s₀.Keeps (s.loopLost i) := (h.updLif i).raiseCause i

theorem checkLine {volts : Nat} : s₀.Keeps (s.checkLine i volts) :=
  .ite ((h.updLif i).measure i) ((h.updLif i).updLif i)

theorem dialTone : s₀.Keeps (s.dialTone i) := by
  unfold State.dialTone
  split
  · exact h.beginDialling i
  · exact h.elemEnds i
  · exact h

theorem noDialTone : s₀.Keeps (s.noDialTone i) := (h.superviseLine i).progressFails i

theorem cpStart : s₀.Keeps (s.cpStart i) := by
  simp only [State.cpStart]
  split
  case h_1 => exact h.toneStarts i
  case h_2 =>
    have hclassed := fun p : Prop => fun _ : Decidable p =>
      (ite (c := p) (h.busyCycle i) (h.noBusy i)).updTu i (f := fun x => { x with cp := .quiet })
    exact .ite ((hclassed _ _).toneStarts i) (hclassed _ _)
  case h_3 | h_4 => exact h

theorem cpEnd : s₀.Keeps (s.cpEnd i) := by
  simp only [State.cpEnd]
  have hquiet := (h.toneEnded i (cp := .quiet)).noBusy i
  split
  case h_1 => exact .ite hquiet (.ite (h.toneEnded i) (.ite (h.ringback i) hquiet))
  case h_2 => exact h.toneEnded i
  case h_3 | h_4 => exact h

theorem cpSilent : s₀.Keeps (s.cpSilent i) := (h.updTu i).busyCycle i

theorem speechFrame {samples : List Int} : s₀.Keeps (s.speechFrame i samples) := by
  dsimp only [State.speechFrame]
  exact .ite (.ite (((h.updTu i).updCc i).progressConnects i) ((h.updTu i).updCc i)) ((h.updTu i).updCc i)

theorem ringbackGone : s₀.Keeps (s.ringbackGone i) := .ite ((h.updCc i).progressConnects i) (h.updCc i)

theorem settleDone : s₀.Keeps (s.settleDone i) :=
  .ite (h.updCc i) (.ite ((h.updCc i).planAsks i) ((h.updCc i).askConnection i))

/-- A declared digit is counted, as is one that finds the queue full (R31). -/
theorem queueDigit {d : Dtmf} : s₀.Keeps (s.queueDigit i d) := by
  unfold State.queueDigit
  exact .ite ((h.updTu i).count i 4 (by exact fun _ => ⟨_, rfl⟩)).raise
    (h.updCnt i fun hs => forall_mem_set_le (k := 5) (satAdd_le _ 1) (forall_mem_set_le (k := 4) (satAdd_le _ 1) hs))

theorem digitStops : s₀.Keeps (s.digitStops i) := by
  unfold State.digitStops
  split
  · exact h
  · refine .ite ?_ h
    split
    case h_1 | h_2 | h_3 => exact h.opEnds i
    case h_4 => exact h.updVc i fun hok => hok
    case h_5 => exact h

theorem toneDigitDone : s₀.Keeps (s.toneDigitDone i) := h.updTu i

theorem guardDone : s₀.Keeps (s.guardDone i) :=
  .ite ((((h.updCc i).updLif i).toIdle i).lineEvent i) ((h.updCc i).updLif i)

theorem startDrain : s₀.Keeps (s.startDrain i) :=
  .ite (((h.joinCause i).updCc i).startClearing i) ((h.joinCause i).updCc i)

omit i in
theorem entryExpires {k : Nat} {r : EntryRec} : s₀.Keeps (s.entryExpires k r) := h.withGd.setRec.recordEvent

omit i in
theorem pendingFails {p : Pending} : s₀.Keeps (s.pendingFails p) := (h.reach.dropPending _).failTo _

/-! ## Data pump and block link (chapters 5 and 6) -/

/-- A training takes at most 150 readings, each at most 100 (R70). -/
theorem addTraining {q : Nat} (hq : q ≤ 100) (hcount : (s.line i).dp.trainCount < 150) :
    s₀.Keeps (s.updDp i fun d => d.addTraining q) :=
  h.updDp i fun ⟨hacc, _, hsum⟩ => ⟨hacc, hcount, by simp only [Dp.addTraining]; omega⟩

theorem dataTrainingReading {q : Nat} (hq : q ≤ 100) : s₀.Keeps (s.dataTrainingReading i q) := by
  simp only [State.dataTrainingReading]
  split
  · next hcount => exact .ite ((h.addTraining i hq hcount).trainingRead i) (h.addTraining i hq hcount)
  · exact h

theorem faxTrainingReading {q : Nat} (hq : q ≤ 100) : s₀.Keeps (s.faxTrainingReading i q) := by
  simp only [State.faxTrainingReading]
  split
  · next hcount => exact .ite ((h.addTraining i hq hcount.2).faxCheckRead i) (h.addTraining i hq hcount.2)
  · exact h

theorem countStable : s₀.Keeps (s.updDp i Dp.countStable) :=
  h.updDp i fun hd => by
    unfold Dp.countStable
    split <;> exact hd

/-- A running reading moves the accumulator by an eighth of it and by the reading, within 800 (R69). -/
theorem readRunning {q : Nat} (hq : q ≤ 100) : s₀.Keeps (s.updDp i fun d => d.readRunning q) :=
  h.updDp i fun ⟨hacc, hcount, hsum⟩ => by
    refine ⟨?_, ?_⟩
    · simp only [Dp.readRunning]
      omega
    · simp only [Dp.readRunning, Dp.countStable]
      split <;> exact ⟨hcount, hsum⟩

theorem runningTests : s₀.Keeps (s.runningTests i) := by
  simp only [State.runningTests]
  refine .ite (h.enterRetraining i) (.ite ?_ (.ite ?_ h))
  · split
    · exact h.enterRateChange i
    · exact h
  · split
    · exact h.askForward i
    · exact h

theorem runningReading {q : Nat} (hq : q ≤ 100) : s₀.Keeps (s.runningReading i q) :=
  .ite (((h.readRunning i hq).updDp i (by exact fun hok => hok)).runningTests i)
    (.ite (h.countStable i) (h.readRunning i hq))

theorem takeOffer {c : Cls} : s₀.Keeps (s.takeOffer i c) :=
  .ite ((h.updDp i (by exact fun hok => hok)).completeTraining i) (h.updDp i fun hok => hok)

theorem confirm {begun : Nat} : s₀.Keeps (s.confirm i begun) :=
  .ite ((h.updDp i (by exact fun hok => hok)).completeRateChange i) (h.updDp i fun hok => hok)

theorem decline : s₀.Keeps (s.decline i) := h.updDp i fun hok => hok

theorem remoteRate {c cur : Cls} : s₀.Keeps (s.remoteRate i c cur) := by
  dsimp only [State.remoteRate]
  exact .ite (h.enterRateChange i) (.ite (.ite (h.askForward i) ((h.askForward i).decline i)) (h.decline i))

theorem setupEc {window size : Nat} : s₀.Keeps (s.setupEc i window size) := by
  dsimp only [State.setupEc]
  exact (h.updBlc i).raise.startTx i

theorem setupPlain : s₀.Keeps (s.setupPlain i) := (h.updBlc i).raise.startTx i

theorem transmitted : s₀.Keeps (s.transmitted i) := by
  simp only [State.transmitted]
  split
  · exact .ite ((h.updBlc i).beginExchange i) (h.updBlc i)
  · exact (h.updBlc i).startTx i

theorem countBadCheck : s₀.Keeps (s.countBadCheck i) := by
  unfold State.countBadCheck
  exact h.count i 12 fun _ => ⟨_, rfl⟩

theorem takeSup {kind : SupKind} {n : Nat} : s₀.Keeps (s.takeSup i kind n) := by
  dsimp only [State.takeSup]
  exact (h.updBlc i).startTx i

theorem retryExpires : s₀.Keeps (s.retryExpires i) := by
  simp only [State.retryExpires]
  split
  · exact h.updBlc i
  · exact .ite ((h.updBlc i).raiseCause i) ((h.updBlc i).startTx i)

theorem answerBlock {k : SupKind} : s₀.Keeps (s.answerBlock i k) := (h.updBlc i).startTx i

theorem appendBlock {p : List Byte} : s₀.Keeps (s.appendBlock i p) := by
  unfold State.appendBlock
  exact ((h.updBlc i).count i 11 (by exact fun _ => ⟨_, rfl⟩)).answerBlock i

theorem takeBlock {seq : Nat} {p : List Byte} : s₀.Keeps (s.takeBlock i seq p) := by
  dsimp only [State.takeBlock]
  exact .ite (h.answerBlock i) (.ite (.ite (h.appendBlock i) ((h.updBlc i).answerBlock i))
    (.ite (.ite h ((h.updBlc i).answerBlock i)) (h.answerBlock i)))

theorem plainByte {x : Byte} : s₀.Keeps (s.plainByte i x) := by
  unfold State.plainByte
  exact .ite (h.updBlc i) (h.count i 15 fun _ => ⟨_, rfl⟩)

theorem takeData {bytes : List Byte} : s₀.Keeps (s.takeData i bytes) := by
  dsimp only [State.takeData]
  exact (((h.updBlc i).count i 14 (by exact fun _ => ⟨_, rfl⟩)).txRose i).startTx i

theorem notReadyTest : s₀.Keeps (s.notReadyTest i) := .ite ((h.updBlc i).answerBlock i) h
theorem formDataOut : s₀.Keeps (s.formDataOut i).1 := (h.updBlc i).notReadyTest i

/-! ## Fax events (chapter 7) -/

theorem noJob : s₀.Keeps (s.noJob i) := (h.newJob i).failJob i

theorem answerMissing {m : FaxMsg} {tries : Nat} : s₀.Keeps (s.answerMissing i m tries) := by
  unfold State.answerMissing
  refine .ite (h.failJob i) ?_
  split
  · exact (h.updJob i).updFxc i
  · exact h.updFxc i

theorem senderMissing : s₀.Keeps (s.senderMissing i) := by
  unfold State.senderMissing
  split
  · exact .ite (h.doneJob i) (h.failJob i)
  · exact h

theorem atJob {d : FaxDir} {f : FaxJob → State} (hf : ∀ j, s₀.Keeps (f j)) : s₀.Keeps (s.atJob i d f) := by
  unfold State.atJob
  split
  · exact .ite (hf _) h
  · exact h

theorem unreadable : s₀.Keeps (s.unreadable i) := by
  unfold State.unreadable
  split
  · exact .ite (h.updJob i) h
  · exact h

theorem takeCapability {j : FaxJob} {highest : Cls} {fine : Bool} {widest reserve : Nat} :
    s₀.Keeps (s.takeCapability i j highest fine widest reserve) := by
  dsimp only [State.takeCapability]
  exact .ite (((h.updJob i).updFxc i).failJob i) ((((h.updJob i).updFxc i).updJob i).faxAsk i)

theorem takeChoice {c : Cls} {resolution width : Nat} : s₀.Keeps (s.takeChoice i c resolution width) := by
  simp only [State.takeChoice]
  split
  · exact ((h.updJob i).faxSend i).failJob i
  · exact .ite (((h.updJob i).faxSend i).failJob i) ((((h.updJob i).updJob i).startCheck i).faxTell i)

theorem takeConfirmation {j : FaxJob} {accepted : Bool} : s₀.Keeps (s.takeConfirmation i j accepted) := by
  dsimp only [State.takeConfirmation]
  exact .ite ((((h.updFxc i).updJob i).startCheck i).faxSend i) ((h.updFxc i).failJob i)

theorem takeAnnouncement {j : FaxJob} {c : Cls} : s₀.Keeps (s.takeAnnouncement i j c) := by
  simp only [State.takeAnnouncement]
  split
  case h_1 => exact ((h.updJob i).freshen i (by exact fun _ => ⟨rfl, rfl, rfl⟩)).senderWait i
  case h_2 | h_3 => exact (h.startCheck i).senderWait i
  case h_4 | h_5 | h_6 | h_7 => exact h

theorem burstSent {j : FaxJob} : s₀.Keeps (s.burstSent i j) := by
  unfold State.burstSent
  split
  · exact h.updFxc i
  · exact h

/-- At an accepted verdict the accumulator is eight times an entry threshold (R79). -/
theorem takeVerdict {rejected : Option Cls} : s₀.Keeps (s.takeVerdict i rejected) := by
  simp only [State.takeVerdict]
  split
  · exact (h.updFxc i).checkAccepted i fun _ => eight_entry_le _
  · exact (h.updFxc i).checkRejected i

theorem takeFrame {j : FaxJob} {n : Nat} {b : List Byte} : s₀.Keeps (s.takeFrame i j n b) :=
  ((ite (h.storeFrame i) h).updJob i).senderWait i

theorem readRound {j : FaxJob} (l : List Nat) : s₀.Keeps (s.readRound i j l).1 := by
  induction l generalizing s with
  | nil => exact h
  | cons n r ih => exact ih (h.readFrame i)

theorem roundSent {j : FaxJob} : s₀.Keeps (s.roundSent i j) := ((h.readRound i _).updFxc i).faxAsk i

theorem takeRoundEnd {j : FaxJob} : s₀.Keeps (s.takeRoundEnd i j) := by
  unfold State.takeRoundEnd
  split
  · exact h.faxTell i
  · exact .ite (h.judgeRound i) h

theorem takeClose {j : FaxJob} {more : Bool} : s₀.Keeps (s.takeClose i j more) := by
  unfold State.takeClose
  split
  · exact .ite (h.completePage i) h
  · exact .ite (h.faxTell i) h

theorem pageConfirmed {j : FaxJob} : s₀.Keeps (s.pageConfirmed i j) := by
  dsimp only [State.pageConfirmed]
  have hcounted {u : State} (hu : s₀.Keeps u) : s₀.Keeps (((u.setSlot i 2 none).updCnt i
      fun k => { k with faxSent := satAdd k.faxSent 1 }).raise .faxp i) :=
    ((hu.setSlot i).count i 17 (by exact fun _ => ⟨_, rfl⟩)).raise
  exact .ite (((hcounted (h.updFxc i)).updJob i).beginSendPage i) (((hcounted (h.updFxc i)).updJob i).updFxc i)

theorem takeRelease {j : FaxJob} : s₀.Keeps (s.takeRelease i j) :=
  .ite ((ite (h.faxSend i) h).doneJob i) (h.failJob i)

end

/-! ## Compaction (R128, R129) -/

section
variable (h : s₀.Keeps s)
include h

theorem packEnds {o : PackOutcome} : s₀.Keeps (s.packEnds o) := h.withStc.raisePart

theorem walkLast {voice : Bool} : s₀.Keeps (s.walkLast voice) := by
  unfold State.walkLast
  split
  · exact h.withStc
  · exact h.packEnds
  · exact h.packEnds

theorem packWalk : s₀.Keeps s.packWalk := by
  unfold State.packWalk
  split
  · exact h.walkLast
  · split
    · exact h.withStc
    · exact h.withStc.walkLast
    · exact h.withStc.walkLast
  · exact h.walkLast

theorem moveDone {m : Move} {e : Entry} : s₀.Keeps (s.moveDone m e) := by
  dsimp only [State.moveDone]
  exact .ite h.withStc.packEnds h.withStc.packWalk

/-- A parity error met at a copy is counted (R129, R131). -/
theorem moveCell {m : Move} {e : Entry} : s₀.Keeps (s.moveCell m e) := by
  dsimp only [State.moveCell]
  have hcopied : ∀ (b : Bool) (t u : Stc), s₀.Keeps (if b = true then
      { s with stc := t, cnt := { s.cnt with storeParity := satAdd s.cnt.storeParity 1 } }
    else { s with stc := u }) := fun _ _ _ => .ite (h.countPart 3 rfl rfl) h.withStc
  exact .ite (hcopied _ _ _).moveDone (hcopied _ _ _)

end

/-! ## Voice operations (chapter 9) -/

section
variable (h : s₀.Keeps s) (i : LineNo)
include h

/-- A parity error met at a read is counted (R131, R137). -/
theorem voiceParity {id : Nat} : s₀.Keeps (s.voiceParity i id) := by
  unfold State.voiceParity
  exact h.withStc.count i 20 fun _ => ⟨_, rfl⟩

theorem setOp {o : VoiceOp} : s₀.Keeps (s.setOp i o) := h.updVc i fun hok => hok

/-- The coder state becomes one in its range. -/
theorem withCoder {c : Int × Nat} (hc : coderOk c) : s₀.Keeps (s.updVc i fun v => v.withCoder c) :=
  h.updVc i fun _ => hc

theorem playStarts {o : VoiceOp} : s₀.Keeps (s.playStarts i o) := (h.withCoder i coderStart_ok).setOp i

theorem loadCoder {o : VoiceOp} {e : Entry} : s₀.Keeps (s.loadCoder i o e) := by
  dsimp only [State.loadCoder]
  exact .ite (h.withCoder i coderStart_ok)
    ((ite (h.voiceParity i) h).withCoder i (s.stc.readCell_resume_ok _ _ _ _))

theorem playOut {o : VoiceOp} {n : Nat} : s₀.Keeps (s.playOut i o n) :=
  (h.updVc i (by exact fun hok => PlayBuf.take_ok o.buf hok n)).setOp i

theorem playCell {o : VoiceOp} {e : Entry} : s₀.Keeps (s.playCell i o e) := by
  dsimp only [State.playCell]
  have hread : s₀.Keeps (if (s.stc.readCell o.id e o.cell e.used).bad then s.voiceParity i o.id else s) :=
    .ite (h.voiceParity i) h
  exact .ite ((hread.withCoder i (s.stc.readHeader_ok _)).setOp i) (hread.setOp i)

theorem nextRepeat {o : VoiceOp} : s₀.Keeps (s.nextRepeat i o) := (h.withCoder i coderStart_ok).setOp i

theorem repeatEnds {o : VoiceOp} : s₀.Keeps (s.repeatEnds i o) := .ite (h.opEnds i) (.ite (h.nextRepeat i) (h.setOp i))

theorem reachCell {o : VoiceOp} : s₀.Keeps (s.reachCell i o) := by
  simp only [State.reachCell]
  split
  · exact .ite ((h.playOut i).playCell i) ((h.playOut i).repeatEnds i)
  · exact (h.playOut i).repeatEnds i
  · exact h.playOut i

theorem gapEnds {o : VoiceOp} : s₀.Keeps (s.gapEnds i o) := (h.updVc i (by exact fun hok => hok)).nextRepeat i

theorem frameBoundary : s₀.Keeps (s.frameBoundary i) := by
  unfold State.frameBoundary
  split
  · exact h
  · split
    case h_1 | h_2 | h_3 => exact .ite (h.setOp i) h
    case h_4 | h_5 => exact h

theorem silentOut {o : VoiceOp} : s₀.Keeps (s.silentOut i o) := (h.updVc i (by exact fun hok => hok)).setOp i
theorem frameStarts : s₀.Keeps (s.frameStarts i) := h.updVc i fun hok => hok

theorem playFrame {o : VoiceOp} : s₀.Keeps (s.playFrame i o) := by
  unfold State.playFrame
  split
  case h_1 => exact ((h.playOut i).frameStarts i).frameBoundary i
  case h_2 | h_3 => exact ((h.silentOut i).frameStarts i).frameBoundary i
  case h_4 | h_5 => exact h

theorem recordStarts {o : VoiceOp} {e : Entry} : s₀.Keeps (s.recordStarts i o e) := by
  dsimp only [State.recordStarts]
  have hstarted := fun o1 : VoiceOp => (((h.loadCoder i (o := o) (e := e)).updCc i (f := fun c => { c with
    busyCycles := 0 })).updVc i (f := fun v => { v with code := none }) fun hok => hok).setOp i (o := o1)
  exact .ite ((hstarted _).opEnds i) (hstarted _)

/-- The samples encoded leave the coder in its range (R135). -/
theorem recSamples {o : VoiceOp} {l : List Int} : s₀.Keeps (s.recSamples i o l).1 := by
  dsimp only [State.recSamples]
  exact h.withStc.updVc i fun hok => recSamples_coder_ok o l hok

theorem digitEnd {o : VoiceOp} : s₀.Keeps (s.digitEnd i o) := h.digitTrim.opEnds i
theorem judgeSilence {o : VoiceOp} {n : Nat} : s₀.Keeps (s.judgeSilence i o n) := .ite (h.trim.opEnds i) (h.setOp i)

theorem recordFrame {o : VoiceOp} {l : List Int} : s₀.Keeps (s.recordFrame i o l) := by
  dsimp only [State.recordFrame]
  exact .ite ((h.recSamples i).digitEnd i) (.ite ((h.recSamples i).opEnds i) ((h.recSamples i).judgeSilence i))

theorem limitReached {o : VoiceOp} {l : List Int} : s₀.Keeps (s.limitReached i o l) := by
  dsimp only [State.limitReached]
  exact .ite ((h.recSamples i).opEnds i) ((h.recSamples i).setOp i)

theorem startOp {o : VoiceOp} {a : Activity} : s₀.Keeps (s.startOp i o a) := by
  simp only [State.startOp]
  split
  · exact ((h.setOp i).request i _ _ _).opGranted i
  · exact (h.setOp i).request i _ _ _

theorem stopWaiting {o : VoiceOp} : s₀.Keeps (s.stopWaiting i o) := by
  dsimp only [State.stopWaiting]
  exact .ite (.ite (h.finishOp i) (h.finishOp i).dropMessage) (h.setOp i)

/-! ## Answer plans (chapter 10) -/

theorem callingBurst : s₀.Keeps (s.callingBurst i) := by
  dsimp only [State.callingBurst]
  exact .ite ((h.updApc i).faxHandoff i) (h.updApc i)

theorem takeOp : s₀.Keeps (s.takeOp i).1 := by
  unfold State.takeOp
  split
  · exact h
  · split
    · exact h.finishOp i
    · exact h.stopWaiting i
    · exact (h.finishOp i).settleMessage i

theorem planTaken : s₀.Keeps (s.planTaken i) := (((h.takeOp i).endActs i).planOutcome i).planInactive i

end

/-! ## Settings, resets and start-up (chapter 12) -/

section
variable (h : s₀.Keeps s)
include h

theorem settingTakes (code : Nat) (old : Settings) : s₀.Keeps (s.settingTakes code old) := by
  unfold State.settingTakes
  split
  · exact foldl (fun i hu => hu.lineEvent i) _ h.recomputeGroups
  · exact h.withCt
  · exact h

theorem softCheck (i : LineNo) : s₀.Keeps (s.softCheck i) := .ite ((h.applyResult i).same rfl rfl) h

theorem softLif (i : LineNo) : s₀.Keeps (s.softLif i) := by
  dsimp only [State.softLif]
  exact (h.release i).updLif i

theorem softCc (i : LineNo) : s₀.Keeps (s.softCc i) := by
  dsimp only [State.softCc]
  exact ((ite ((h.closeClid i).ccClears i) (ite (((h.closeClid i).updCc i).toIdle i) (h.closeClid i))).updCc i).updTu i

/-- The coder starts anew, the pump has no readings, the bytes discarded are counted (R66, R81, R97, R147). -/
theorem softBlocks (i : LineNo) : s₀.Keeps (s.softBlocks i) := by
  dsimp only [State.softBlocks]
  exact h.updLine i _ (fun _ => coderStart_ok) (fun _ _ => Dp.reset_readingsInRange)
    fun hs => forall_mem_set_le (k := 16) (satAdd_le _ _) hs

theorem softLine (i : LineNo) : s₀.Keeps (s.softLine i) := (((h.softCheck i).softLif i).softCc i).softBlocks i
theorem softLines : s₀.Keeps s.softLines := foldl (fun i hu => hu.softLine i) _ h

theorem softReset : s₀.Keeps s.softReset := by
  have hsoft := h.softLines
  dsimp only [State.softReset]
  generalize s.softLines = u at hsoft ⊢
  exact (hsoft.same (by rfl) (by rfl)).raisePart

omit h in
/-- A hard reset leaves nothing of the lines and of the counters (R177). -/
theorem hardReset (s₀ s : State) (c : ResetCause) : s₀.Keeps (s.hardReset c) := by
  have hline : ∀ j, (s.hardReset c).line j = {} := fun j => Four.get_all _ j
  refine ⟨fun _ j => ?_, fun _ => ⟨PartCounters.zero_bounded, fun j => ?_⟩⟩
  · rw [hline]
    exact coderStart_ok
  · rw [hline]
    exact ⟨Dp.reset_readingsInRange, LineCounters.zero_bounded⟩

theorem applySettings : s₀.Keeps s.applySettings :=
  h.ofLines (fun j => by simp only [State.line, State.applySettings, Four.get_map, and_self]) rfl

theorem startUpEnds {read : Option (List Byte)} : s₀.Keeps (s.startUpEnds read) := by
  dsimp only [State.startUpEnds]
  exact (h.same (by rfl) (by rfl)).applySettings.raisePart

end

/-! ## The requests, as they are taken (R166) -/

section
variable (h : s₀.Keeps s)
include h

omit h in
theorem answerIte {c : Prop} [Decidable c] {a b : Answer} (ha : s₀.Keeps a.state) (hb : s₀.Keeps b.state) :
    s₀.Keeps (if c then a else b).state := by
  split
  · exact ha
  · exact hb

theorem okWith {f : List Byte} : s₀.Keeps (Machine.okWith s f).state := h

theorem onLine {line : Nat} {f : LineNo → Answer} (hf : ∀ i, s₀.Keeps (f i).state) :
    s₀.Keeps (Machine.onLine s line f).state := by
  unfold Machine.onLine
  split
  · exact hf _
  · exact h

theorem onPart {line : Nat} {a : Answer} (ha : s₀.Keeps a.state) : s₀.Keeps (Machine.onPart s line a).state :=
  answerIte ha h

theorem onEntry {id : Nat} {f : Entry → Answer} (hf : ∀ e, s₀.Keeps (f e).state) :
    s₀.Keeps (Machine.onEntry s id f).state := by
  unfold Machine.onEntry
  refine answerIte h ?_
  split
  · exact hf _
  · exact h

/-! ### Calls, groups, the caller table and the budget (chapters 2 to 4) -/

theorem takeCall {line kind maxc floor : Nat} {dial : List (Nat × Nat)} :
    s₀.Keeps (takeCall s line kind maxc floor dial).state :=
  h.onLine fun i => by
    dsimp only
    split
    · exact answerIte h (answerIte h (answerIte h (h.enterSeized i)))
    · exact h

theorem takeAnsr {line kind maxc floor : Nat} : s₀.Keeps (takeAnsr s line kind maxc floor).state :=
  h.onLine fun i => by
    split
    · exact h
    · exact answerIte ((h.updApc i).enterAnswering i) h

theorem takeDigr {line : Nat} : s₀.Keeps (takeDigr s line).state := h.onLine fun i => (h.updTu i).okWith

theorem takeTone {line : Nat} {digits : List Byte} : s₀.Keeps (takeTone s line digits).state :=
  h.onLine fun i => by
    split
    · exact h
    · exact answerIte h (answerIte h (answerIte h (h.updTu i).okWith))

theorem rels (i : LineNo) {drain : Bool} : s₀.Keeps (s.rels i drain).state := by
  simp only [State.rels]
  split
  case h_1 | h_2 => exact h
  case h_3 => exact ((h.updCc i).updApc i).okWith
  case h_4 | h_5 | h_6 | h_7 => exact h.raiseCause i
  case h_8 => exact answerIte (ite h (h.startDrain i)) (h.raiseCause i)

theorem takeRels {line drain : Nat} : s₀.Keeps (takeRels s line drain).state :=
  h.onLine fun i => by
    split
    · exact h.rels i
    · exact h

theorem dispatchNew {c : GroupCall} (i : LineNo) : s₀.Keeps (s.dispatchNew c i).state := by
  simp only [State.dispatchNew]
  split
  · exact h.setRec.dispatchTo i _ _
  · exact h.dispatchTo i _ _

theorem queueCall {c : GroupCall} {k : Nat} : s₀.Keeps (s.queueCall c k).state := h.setRec.withGd

theorem groupCall {c : GroupCall} : s₀.Keeps (s.groupCall c).state := by
  unfold State.groupCall
  refine answerIte h ?_
  split
  · exact h.dispatchNew _
  · refine answerIte h ?_
    split
    · exact h.queueCall
    · exact h

theorem takeCallGroup {line group kind maxc floor wait hostTag : Nat} {dial : List (Nat × Nat)} :
    s₀.Keeps (takeCallGroup s line group kind maxc floor wait hostTag dial).state :=
  h.onPart <| by
    split
    · exact h.groupCall
    · exact h

theorem takeCncl {line entry : Nat} : s₀.Keeps (takeCncl s line entry).state :=
  h.onPart <| answerIte h <| by
    split
    · exact h.withGd.setRec
    · exact h

theorem takeCtad {line cls : Nat} {number label : List Byte} : s₀.Keeps (takeCtad s line number cls label).state :=
  h.onPart <| by
    split
    · refine answerIte ?_ h
      split
      · exact h.withCt
      · exact h
    · exact h

theorem takeCtdl {line position : Nat} : s₀.Keeps (takeCtdl s line position).state :=
  h.onPart <| answerIte h <| by
    split
    · exact h.withCt
    · exact h

theorem takeCtrd {line start : Nat} : s₀.Keeps (takeCtrd s line start).state := h.onPart (answerIte h h)
theorem takeBudg {line : Nat} : s₀.Keeps (takeBudg s line).state := h.onPart h

/-! ### The block link and the fax transfer (chapters 6 and 7) -/

theorem takeFlow {line value : Nat} : s₀.Keeps (takeFlow s line value).state :=
  h.onLine fun i => by
    split
    · exact (h.updBlc i).okWith
    · exact h

theorem acceptJob (i : LineNo) {j : FaxJob} : s₀.Keeps (s.acceptJob i j).state :=
  ite ((h.newJob i).startJob i) (h.newJob i)

theorem takeFaxs {line resolution width policy : Nat} {pages : List Nat} :
    s₀.Keeps (takeFaxs s line pages resolution width policy).state :=
  h.onLine fun i => by
    split
    · refine answerIte h ?_
      split
      · exact h
      · exact h
      · exact h.acceptJob i
    · exact h

theorem takeFaxr {line policy : Nat} : s₀.Keeps (takeFaxr s line policy).state :=
  h.onLine fun i => by
    split
    · split
      · exact h
      · exact h.acceptJob i
    · exact h

theorem takeFxst {line : Nat} : s₀.Keeps (takeFxst s line).state :=
  h.onLine fun i => by split <;> exact h

theorem takeFxab {line : Nat} : s₀.Keeps (takeFxab s line).state :=
  h.onLine fun i => answerIte (((ite (h.faxSend i) h).endJob i).raiseCause i) h

/-! ### The message store and compaction (chapter 8) -/

theorem takeScrt {line kind extent mailbox : Nat} : s₀.Keeps (takeScrt s line kind extent mailbox).state :=
  h.onPart <| by
    split
    · exact h
    · split
      · exact h
      · exact h.withStc

theorem takeScls {line id : Nat} : s₀.Keeps (takeScls s line id).state :=
  h.onPart <| h.onEntry fun _ => answerIte h (answerIte h h.closeEntry)

theorem takeSdel {line id : Nat} : s₀.Keeps (takeSdel s line id).state :=
  h.onPart <| h.onEntry fun _ => by
    split
    · exact h
    · exact h.withStc

theorem takeAtch {line slot id right : Nat} : s₀.Keeps (takeAtch s line slot id right).state :=
  h.onLine fun i => by
    split
    · refine answerIte h (answerIte h ?_)
      split
      · exact h
      · exact answerIte (h.setSlot i) h
    · exact h

theorem takeDtch {line slot : Nat} : s₀.Keeps (takeDtch s line slot).state :=
  h.onLine fun i => by
    split
    · exact h
    · exact answerIte h (answerIte h (h.setSlot i))

theorem takeSwrt {line id : Nat} {bytes : List Byte} : s₀.Keeps (takeSwrt s line id bytes).state :=
  h.onPart <| answerIte h <| h.onEntry fun _ => answerIte h (answerIte h h.withStc)

/-- A parity error met at a host read is counted (R125, R131). -/
theorem takeSred {line id offset count : Nat} : s₀.Keeps (takeSred s line id offset count).state :=
  h.onPart <| h.onEntry fun _ => answerIte (h.countPart 3 rfl rfl) h

theorem takeSlst {line start : Nat} : s₀.Keeps (takeSlst s line start).state := h.onPart (answerIte h h)
theorem takeSsta {line : Nat} : s₀.Keeps (takeSsta s line).state := h.onPart h

theorem takePackStart {line region : Nat} : s₀.Keeps (takePackStart s line region).state :=
  h.onPart <| by
    split
    · exact h
    · exact answerIte h h.withStc.packWalk

theorem takePackStop {line : Nat} : s₀.Keeps (takePackStop s line).state :=
  h.onPart <| by
    split
    · exact h
    · exact h.withStc
    · exact h

theorem takePack {line action region : Nat} : s₀.Keeps (takePack s line action region).state := by
  unfold Machine.takePack
  split
  · exact h.takePackStart
  · exact h.takePackStop
  · exact h

/-! ### Voice operations, answer plans, settings and counters (chapters 9 to 12) -/

theorem voiceCheck {line slot flag : Nat} {right : Right} {f : LineNo → LineNo → Bool → Nat → Entry → Answer}
    (hf : ∀ i k b id e, s₀.Keeps (f i k b id e).state) : s₀.Keeps (voiceCheck s line slot flag right f).state :=
  h.onLine fun i => by
    split
    · refine answerIte h (answerIte h ?_)
      split
      · exact h
      · refine answerIte h ?_
        split
        · exact answerIte (hf _ _ _ _ _) h
        · exact h
    · exact h

theorem takePlay {line slot startCell repeats gap stop : Nat} :
    s₀.Keeps (takePlay s line slot startCell repeats gap stop).state := h.voiceCheck fun i _ _ _ _ => h.startOp i

theorem takeRecd {line slot limit silence threshold stop : Nat} :
    s₀.Keeps (takeRecd s line slot limit silence threshold stop).state := h.voiceCheck fun i _ _ _ _ => h.startOp i

theorem takePaus {line value : Nat} : s₀.Keeps (takePaus s line value).state :=
  h.onLine fun i => by
    split
    · exact h
    · refine answerIte h ?_
      split
      · exact h.setOp i
      · exact h

theorem takeVstp {line : Nat} : s₀.Keeps (takeVstp s line).state :=
  h.onLine fun i => answerIte h <| by
    split
    · exact h
    · exact ite (h.stopWaiting i) (h.stopOp i)

theorem takeTake {line : Nat} : s₀.Keeps (takeTake s line).state :=
  h.onLine fun i => by
    split
    case h_1 | h_2 | h_3 => exact h.planTaken i
    case h_4 | h_5 | h_6 | h_7 | h_8 | h_9 => exact h

theorem takeNmsk {line : Nat} {settings : List (List Byte × Nat × Nat × Nat)} :
    s₀.Keeps (takeNmsk s line settings).state :=
  h.onPart <| answerIte h <| by
    split
    · exact h
    · exact h.withSl

theorem takeGetp {line sec sline : Nat} : s₀.Keeps (takeGetp s line sec sline).state :=
  h.onPart <| by
    split
    case h_2 => split <;> exact h
    all_goals exact h

theorem takeSetp {line sec : Nat} {contents : List Byte} : s₀.Keeps (takeSetp s line sec contents).state :=
  answerIte h <| h.onPart <| answerIte (h.withSl.settingTakes _ _) h

theorem takeSave {line : Nat} : s₀.Keeps (takeSave s line).state := h.onPart <| answerIte h (answerIte h h.withSl)

theorem takeRset {line kind : Nat} : s₀.Keeps (takeRset s line kind).state := by
  unfold Machine.takeRset
  split
  · exact h.onPart h.withLp
  · exact h.onPart h.softReset
  · exact h

/-- Counters are read, and set to 0 where the request asks it (R179). -/
theorem takeCntr {line selector clear : Nat} : s₀.Keeps (takeCntr s line selector clear).state :=
  h.onPart <| by
    split
    · exact h
    · refine answerIte (ite (h.raiseCounts rfl fun _ => PartCounters.zero_bounded) h) ?_
      split
      · exact ite (h.updCnt _ fun _ => LineCounters.zero_bounded) h
      · exact h

theorem answerRequest (line : Nat) (r : Request) : s₀.Keeps (answerRequest s line r).state := by
  cases r
  case call => exact h.takeCall
  case callGroup => exact h.takeCallGroup
  case ansr => exact h.takeAnsr
  case rels => exact h.takeRels
  case digr => exact h.takeDigr
  case tone => exact h.takeTone
  case cncl => exact h.takeCncl
  case ctad => exact h.takeCtad
  case ctdl => exact h.takeCtdl
  case ctrd => exact h.takeCtrd
  case budg => exact h.takeBudg
  case flow => exact h.takeFlow
  case faxs => exact h.takeFaxs
  case faxr => exact h.takeFaxr
  case fxst => exact h.takeFxst
  case fxab => exact h.takeFxab
  case scrt => exact h.takeScrt
  case scls => exact h.takeScls
  case sdel => exact h.takeSdel
  case atch => exact h.takeAtch
  case dtch => exact h.takeDtch
  case swrt => exact h.takeSwrt
  case sred => exact h.takeSred
  case slst => exact h.takeSlst
  case ssta => exact h.takeSsta
  case pack => exact h.takePack
  case play => exact h.takePlay
  case recd => exact h.takeRecd
  case paus => exact h.takePaus
  case vstp => exact h.takeVstp
  case take => exact h.takeTake
  case nmsk => exact h.takeNmsk
  case getp => exact h.takeGetp
  case setp => exact h.takeSetp
  case save => exact h.takeSave
  case rset => exact h.takeRset
  case cntr => exact h.takeCntr
  case malformed | unknown => exact h

end

/-! ## The Link Port and the Notice Unit (chapter 11) -/

section
variable (h : s₀.Keeps s)
include h

/-- A link error is counted at place `k` of R179's part-wide list (R171). -/
theorem linkError (k : Nat) {f : PartCounters → PartCounters}
    (hf : ∀ c, ∃ n, (f c).list = c.list.set k (satAdd (c.list.getD k 0) n)) : s₀.Keeps (s.linkError f) := by
  obtain ⟨n, hn⟩ := hf s.cnt
  exact .ite h (h.countPart (t := { s with cnt := f s.cnt }) k rfl hn).raisePart

theorem badRecord : s₀.Keeps s.badRecord := h.linkError 5 fun _ => ⟨_, rfl⟩
theorem addReply {r : Reply} : s₀.Keeps (s.addReply r) := h.withLp
theorem hunt : s₀.Keeps s.hunt := h.withLp
theorem offer {r : Inbound} : s₀.Keeps (s.offer r) := .ite h.withLp (h.linkError 4 fun _ => ⟨_, rfl⟩)

theorem takeDataIn {line : Nat} {bytes : List Byte} : s₀.Keeps (s.takeDataIn line bytes) := by
  have hstray := h.linkError 6 (f := fun c => { c with stray := satAdd c.stray 1 }) fun _ => ⟨_, rfl⟩
  unfold State.takeDataIn
  split
  · exact .ite (h.takeData _) hstray
  · exact hstray

theorem takeRequest {line tag : Nat} {r : Request} : s₀.Keeps (s.takeRequest line tag r) :=
  (h.answerRequest line r).addReply

theorem takeRecord {r : Inbound} : s₀.Keeps (s.takeRecord r) := by
  unfold State.takeRecord
  split
  · exact h.takeDataIn
  · exact h.takeRequest

omit h in
theorem drainN (n : Nat) (h : s₀.Keeps s) : s₀.Keeps (Machine.drainN n s) := by
  induction n generalizing s with
  | zero => exact h
  | succ n ih =>
    unfold Machine.drainN
    split
    · exact h
    · exact .ite (ih h.withLp.takeRecord.settle) h

theorem drain : s₀.Keeps s.drain := h.drainN _

theorem judgeRecord {b : List Byte} : s₀.Keeps (s.judgeRecord b) := by
  unfold State.judgeRecord
  split
  · exact h.offer.drain
  · exact h.badRecord

theorem receiveByte (x : Byte) : s₀.Keeps (s.receiveByte x) := by
  simp only [State.receiveByte]
  split
  · exact .ite h.withLp h
  · exact .ite h.hunt.badRecord (.ite h.hunt.judgeRecord h.withLp)

theorem receiveBytes {l : List Byte} : s₀.Keeps (s.receiveBytes l) := foldl (fun x hu => hu.receiveByte x) l h

theorem formNotice {k : Notice} {i : LineNo} : s₀.Keeps (s.formNotice k i).1 :=
  .ite ((h.setFlag (k := k) (i := i) (b := false)).same rfl rfl) h.setFlag

theorem sendOther {r : OutRec} {waits : Bool} : s₀.Keeps (s.sendOther r waits) := h.withLp
theorem sendData {i : LineNo} : s₀.Keeps (s.sendData i) := (h.formDataOut i).withLp

theorem chooseOther : s₀.Keeps s.chooseOther := by
  simp only [State.chooseOther]
  split
  · exact h.withLp.sendOther
  · refine .ite h ?_
    split
    · exact h.formNotice.sendOther
    · split
      · exact h.sendData
      · exact h

theorem chooseRecord : s₀.Keeps s.chooseRecord := by
  unfold State.chooseRecord
  split
  · exact .ite h.sendData h.chooseOther
  · exact h.chooseOther

theorem sendEnds {r : OutRec} : s₀.Keeps (s.sendEnds r) := by
  simp only [State.sendEnds]
  split
  · exact h.withLp
  · exact .ite (hardReset _ _ _) h.withLp
  · exact h.withLp

theorem recordSent : s₀.Keeps s.recordSent := by
  simp only [State.recordSent]
  split
  · exact .ite h.sendEnds.drain.chooseRecord.drain h.sendEnds.drain
  · exact .ite h.chooseRecord.drain h

end

/-! ## Every command -/

theorem onExpiry {due : Option Nat} {f : State → State} (h : s₀.Keeps s)
    (hf : ∀ {u : State}, s₀.Keeps u → s₀.Keeps (f u)) : s₀.Keeps (Machine.onExpiry due s f) := by
  cases due with
  | none => exact h
  | some d => exact hf h.reach

section
variable {c : Instr}

/-- An event whose act keeps the ranges keeps them with the hand-out that follows, whether the part runs or not. -/
theorem event {f : State → State} (hevent : ∀ u, exec c u = react u f) (hf : ∀ {u : State}, s.Keeps u → s.Keeps (f u))
    (h : exec c s = .next t) : s.Keeps t := by
  rw [hevent] at h
  cases h
  exact ite (hf (refl s)).settle (refl s)

/-- The expiry of a timer. -/
theorem expiry {due : State → Option Nat} {f : State → State}
    (hevent : ∀ u, exec c u = react u fun x => Machine.onExpiry (due x) x f)
    (hf : ∀ {u : State}, s.Keeps u → s.Keeps (f u)) (h : exec c s = .next t) : s.Keeps t :=
  event hevent (fun hu => hu.onExpiry hf) h

/-- An event at a running fax job. -/
theorem jobEvent {i : LineNo} {d : FaxDir} {f : State → FaxJob → State}
    (hevent : ∀ u, exec c u = react u fun x => x.atJob i d (f x)) (hf : ∀ {u : State}, s.Keeps u → ∀ j, s.Keeps (f u j))
    (h : exec c s = .next t) : s.Keeps t :=
  event hevent (fun hu => hu.atJob i (hf hu)) h

/-- A record of the host that arrives whole. -/
theorem hostRecord {line tag : Nat} {b : InBody} (hrecord : ∀ u, exec c u = Machine.hostRecord u line tag b)
    (h : exec c s = .next t) : s.Keeps t :=
  event hrecord (fun hu => hu.offer.drain) h

end

section
variable {i : LineNo}

/-! ### Line interface, call progress, queue and budget (chapters 1 to 4) -/

theorem ofRingVoltageEnd {volts : Nat} (h : exec (.ringVoltageEnd i volts) s = .next t) : s.Keeps t :=
  event (fun _ => rfl) (fun hu => by
    split
    · exact hu
    · exact hu.candidateEnds i
    · exact hu.burstEnds i) h

theorem ofRingAbandoned (h : exec (.ringAbandoned i) s = .next t) : s.Keeps t :=
  event (fun _ => rfl) (fun hu => by
    split
    · exact hu.reach.abandonExpires i
    · exact hu
    · exact hu) h

theorem ofQueueEntryExpiry {entry : Fin 8} (h : exec (.queueEntryExpiry entry) s = .next t) : s.Keeps t :=
  event (fun _ => rfl) (fun hu => by
    split
    · exact hu.reach.entryExpires
    · exact hu) h

theorem ofPendingTimerExpiry (h : exec (.pendingTimerExpiry i) s = .next t) : s.Keeps t :=
  event (fun _ => rfl) (fun hu => by
    split
    · exact hu.pendingFails
    · exact hu) h

/-! ### Data pump and block link (chapters 5 and 6) -/

/-- A quality reading is taken within 0 to 100 (R69). -/
theorem clampQuality_le (q : Int) : clampQuality q ≤ 100 := by
  unfold clampQuality
  omega

theorem ofQualityReading {q : Int} (h : exec (.qualityReading i q) s = .next t) : s.Keeps t :=
  event (fun _ => rfl) (fun hu => by
    split
    case h_1 | h_2 => exact hu.dataTrainingReading i (clampQuality_le q)
    case h_3 | h_4 => exact hu.faxTrainingReading i (clampQuality_le q)
    case h_5 => exact hu.runningReading i (clampQuality_le q)
    case h_6 => exact hu) h

theorem ofRateChangeConfirmation (h : exec (.rateChangeConfirmation i) s = .next t) : s.Keeps t :=
  event (fun _ => rfl) (fun hu => by
    split
    · exact hu.confirm i
    · exact hu) h

theorem ofRemoteRateRequest {c : Cls} (h : exec (.remoteRateRequest i c) s = .next t) : s.Keeps t :=
  event (fun _ => rfl) (fun hu => by
    dsimp only
    split
    · exact hu.remoteRate i
    · exact hu.decline i
    · exact hu) h

theorem ofSetupMessageReceived {window size : Nat} (h : exec (.setupMessageReceived i window size) s = .next t) :
    s.Keeps t :=
  event (fun _ => rfl) (fun hu => by
    split
    · exact hu.setupEc i
    · exact (hu.updBlc i).startTx i
    · exact hu.updBlc i
    · exact hu) h

/-! ### The fax transfer and the message store (chapters 7 and 8) -/

theorem ofFaxAnswerWaitExpiry (h : exec (.faxAnswerWaitExpiry i) s = .next t) : s.Keeps t :=
  event (fun _ => rfl) (fun hu => by
    split
    case h_1 => exact hu.reach.answerMissing i
    case h_2 | h_3 | h_4 | h_5 => exact hu) h

theorem ofFaxSenderWaitExpiry (h : exec (.faxSenderWaitExpiry i) s = .next t) : s.Keeps t :=
  event (fun _ => rfl) (fun hu => by
    split
    case h_1 => exact hu.reach.failJob i
    case h_2 => exact hu.reach.senderMissing i
    case h_3 | h_4 | h_5 => exact hu) h

theorem ofReleaseWaitExpiry (h : exec (.releaseWaitExpiry i) s = .next t) : s.Keeps t :=
  event (fun _ => rfl) (fun hu => by
    split
    case h_1 => exact hu.reach.doneJob i
    case h_2 | h_3 | h_4 | h_5 => exact hu) h

theorem ofBadFaxMessageReceived {m : StrayFax} (h : exec (.badFaxMessageReceived i m) s = .next t) : s.Keeps t :=
  event (fun _ => rfl) (fun hu => by
    split
    · exact hu.unreadable i
    · split
      · exact hu.answerAgain i
      · exact hu) h

theorem ofReleaseReceived (h : exec (.releaseReceived i) s = .next t) : s.Keeps t :=
  event (fun _ => rfl) (fun hu => by
    split
    · exact hu.takeRelease i
    · exact hu) h

theorem ofMoveCellCopy (h : exec .moveCellCopy s = .next t) : s.Keeps t :=
  event (fun _ => rfl) (fun hu => by
    split
    · exact hu
    · split
      · exact hu.reach.moveCell
      · exact hu) h

/-! ### Voice operations, answer plans and settings (chapters 9 to 12) -/

theorem ofVoiceOperationStart (h : exec (.voiceOperationStart i) s = .next t) : s.Keeps t :=
  event (fun _ => rfl) (fun hu => by
    split
    · exact hu
    · refine .ite ?_ hu
      split
      · exact hu.playStarts i
      · split
        · exact .ite (hu.recordStarts i) hu
        · exact hu) h

theorem ofPlayCellReached (h : exec (.playCellReached i) s = .next t) : s.Keeps t :=
  event (fun _ => rfl) (fun hu => by
    split
    · exact .ite (hu.reachCell i) hu
    · exact hu) h

theorem ofGapEnd (h : exec (.gapEnd i) s = .next t) : s.Keeps t :=
  expiry (fun _ => rfl) (fun hu => by
    split
    · exact hu.gapEnds i
    · exact hu) h

theorem ofVoiceFrameEnd {samples : List Int} (h : exec (.voiceFrameEnd i samples) s = .next t) : s.Keeps t :=
  event (fun _ => rfl) (fun hu => by
    split
    · exact hu
    · exact .ite (hu.recordFrame i) (hu.playFrame i)) h

theorem ofRecordingLimitReached {samples : List Int} (h : exec (.recordingLimitReached i samples) s = .next t) :
    s.Keeps t :=
  event (fun _ => rfl) (fun hu => by
    split
    · exact hu
    · exact .ite (hu.limitReached i) hu) h

theorem ofCallingToneBurst (h : exec (.callingToneBurst i) s = .next t) : s.Keeps t :=
  event (fun _ => rfl) (fun hu => by
    split
    · exact .ite (hu.callingBurst i) hu
    · exact .ite (hu.callingBurst i) hu
    · exact hu) h

theorem ofSaveEnd {result : SaveEnd} (h : exec (.saveEnd result) s = .next t) : s.Keeps t :=
  event (fun _ => rfl) (fun hu => by
    split
    · exact (ite hu.reach hu).withSl
    · exact hu) h

end

/-- Every command keeps the ranges: resets and start-up outright, the commands of the host link by what taking a request
does, the events by what each of them does. -/
theorem ofExec {c : Instr} (h : exec c s = .next t) : s.Keeps t := by
  cases c
  case powerOn | resetPin | clockLoss => cases h; exact hardReset _ _ _
  case startUp => cases h; exact .ite ((refl s).same rfl rfl) (refl s)
  case settingsLoaded => cases h; exact .ite (refl s).startUpEnds (refl s)
  case call | callGroup | ansr | digr | tone | rels | cncl | ctad | ctdl | ctrd | budg | dataIn | flow | faxs | faxr
      | fxst | fxab | scrt | scls | sdel | atch | dtch | swrt | sred | slst | ssta | packStart | packStop | play | recd
      | paus | vstp | take | unknownRequest | nmsk | getp | setp | save | rsetSoft | rsetHard | cntr =>
    exact hostRecord (fun _ => rfl) h
  case recordReceived => exact event (fun _ => rfl) (fun hu => hu.receiveBytes) h
  case hostLinkByteReceived => exact event (fun _ => rfl) (fun hu => hu.receiveByte _) h
  case inboundGapExpiry => exact expiry (fun _ => rfl) (fun hu => hu.hunt.badRecord) h
  case recordSent => exact event (fun _ => rfl) (fun hu => hu.recordSent) h
  case flashComplete i => exact expiry (fun _ => rfl) (fun hu => hu.flashDone i) h
  case breakEnd i => exact expiry (fun _ => rfl) (fun hu => hu.breakDone i) h
  case makeEnd i => exact expiry (fun _ => rfl) (fun hu => hu.makeDone i) h
  case ringVoltageOnset i => exact event (fun _ => rfl) (fun hu => .ite (hu.ringOnset i) hu) h
  case burstQualified i => exact expiry (fun _ => rfl) (fun hu => hu.burst i) h
  case ringVoltageEnd => exact ofRingVoltageEnd h
  case ringAbandoned => exact ofRingAbandoned h
  case blankingEnd i _ => exact expiry (fun _ => rfl) (fun hu => hu.blankingDone i) h
  case loopCurrentAbsent i | loopCurrentReturn i => exact event (fun _ => rfl) (fun hu => .ite (hu.updLif i) hu) h
  case loopLost i => exact expiry (fun _ => rfl) (fun hu => hu.loopLost i) h
  case supervisionCheck i _ => exact expiry (fun _ => rfl) (fun hu => hu.checkLine i) h
  case dialToneQualified i => exact event (fun _ => rfl) (fun hu => hu.dialTone i) h
  case dialToneWaitExpiry i => exact expiry (fun _ => rfl) (fun hu => hu.noDialTone i) h
  case awaitToneExpiry i | answerWaitExpiry i => exact expiry (fun _ => rfl) (fun hu => hu.progressFails i) h
  case dtmfDigitSent i | interDigitPauseEnd i | pauseEnd i => exact expiry (fun _ => rfl) (fun hu => hu.elemEnds i) h
  case cpToneStart i => exact event (fun _ => rfl) (fun hu => .ite (hu.cpStart i) hu) h
  case cpToneEnd i => exact event (fun _ => rfl) (fun hu => .ite (hu.cpEnd i) hu) h
  case cpSilenceLimit i =>
    exact event (fun _ => rfl) (fun hu => .ite (hu.onExpiry fun hv => hv.cpSilent i) hu) h
  case cpToneLimit i =>
    exact event (fun _ => rfl) (fun hu => .ite (hu.onExpiry fun hv => (hv.updTu i).noBusy i) hu) h
  case progressFrameLevel i _ => exact event (fun _ => rfl) (fun hu => .ite (hu.speechFrame i) hu) h
  case answerToneDetected i _ => exact event (fun _ => rfl) (fun hu => .ite (hu.progressConnects i) hu) h
  case ringbackAbsenceExpiry i => exact expiry (fun _ => rfl) (fun hu => hu.ringbackGone i) h
  case settleEnd i => exact expiry (fun _ => rfl) (fun hu => hu.settleDone i) h
  case clidWindowTimeout i => exact expiry (fun _ => rfl) (fun hu => hu.closeClid i) h
  case callerIdByteReceived i => exact event (fun _ => rfl) (fun hu => hu.updTu i) h
  case callerMessageReceived i _ => exact event (fun _ => rfl) (fun hu => hu.clidMessage i) h
  case dtmfDigitDeclared i _ =>
    exact event (fun _ => rfl) (fun hu => .ite (((hu.queueDigit i).digitStops i).mailboxLook i) hu) h
  case toneDigitEnd i => exact expiry (fun _ => rfl) (fun hu => hu.toneDigitDone i) h
  case drainEnd i => exact event (fun _ => rfl) (fun hu => .ite (hu.startClearing i) hu) h
  case drainWaitExpiry i => exact expiry (fun _ => rfl) (fun hu => hu.startClearing i) h
  case guardExpiry i => exact expiry (fun _ => rfl) (fun hu => hu.guardDone i) h
  case queueEntryExpiry => exact ofQueueEntryExpiry h
  case pendingTimerExpiry => exact ofPendingTimerExpiry h
  case qualityReading => exact ofQualityReading h
  case remoteOfferReceived i _ => exact event (fun _ => rfl) (fun hu => .ite (hu.takeOffer i) hu) h
  case offerWaitExpiry i => exact expiry (fun _ => rfl) (fun hu => hu.trainingFails i) h
  case rateChangeConfirmation => exact ofRateChangeConfirmation h
  case rateChangeResyncEnd i => exact expiry (fun _ => rfl) (fun hu => .ite (hu.completeRateChange i) hu) h
  case rateChangeConfirmationTimeout i =>
    exact event (fun _ => rfl) (fun hu => .ite hu (hu.onExpiry fun hv => hv.enterRetraining i)) h
  case remoteRateRequest => exact ofRemoteRateRequest h
  case remoteRetrainRequest i => exact event (fun _ => rfl) (fun hu => .ite (hu.enterRetraining i) hu) h
  case setupMessageReceived => exact ofSetupMessageReceived h
  case setupTryExpiry i => exact expiry (fun _ => rfl) (fun hu => .ite (hu.startTry i) (hu.setupPlain i)) h
  case messageTransmitted i => exact event (fun _ => rfl) (fun hu => .ite (hu.transmitted i) hu) h
  case badMessageReceived i => exact event (fun _ => rfl) (fun hu => .ite (hu.countBadCheck i) hu) h
  case supervisoryMessageReceived i _ _ => exact event (fun _ => rfl) (fun hu => .ite (hu.takeSup i) hu) h
  case retryTimerExpiry i => exact expiry (fun _ => rfl) (fun hu => hu.retryExpires i) h
  case dataBlockReceived i _ _ =>
    exact event (fun _ => rfl)
      (fun hu => .ite (.ite (hu.countBadCheck i) (.ite (hu.takeBlock i) hu)) hu) h
  case plainByteReceived i _ => exact event (fun _ => rfl) (fun hu => .ite (hu.plainByte i) hu) h
  case faxJobWaitExpiry i => exact expiry (fun _ => rfl) (fun hu => hu.noJob i) h
  case faxAnswerWaitExpiry => exact ofFaxAnswerWaitExpiry h
  case faxSenderWaitExpiry => exact ofFaxSenderWaitExpiry h
  case releaseWaitExpiry => exact ofReleaseWaitExpiry h
  case badFaxMessageReceived => exact ofBadFaxMessageReceived h
  case capabilityReceived i _ _ _ _ =>
    exact jobEvent (fun _ => rfl) (fun hu _ => .ite (hu.takeCapability i) (hu.answerAgain i)) h
  case choiceReceived i _ _ _ =>
    exact jobEvent (fun _ => rfl) (fun hu _ => .ite (hu.takeChoice i) (hu.answerAgain i)) h
  case confirmationReceived i _ =>
    exact jobEvent (fun _ => rfl) (fun hu _ => .ite (hu.takeConfirmation i) hu) h
  case retrainAnnouncementReceived i _ => exact jobEvent (fun _ => rfl) (fun hu _ => hu.takeAnnouncement i) h
  case trainingBurstSent i => exact jobEvent (fun _ => rfl) (fun hu _ => .ite (hu.burstSent i) hu) h
  case verdictReceived i _ => exact jobEvent (fun _ => rfl) (fun hu _ => .ite (hu.takeVerdict i) hu) h
  case partialPageHeaderReceived i _ _ _ _ =>
    exact jobEvent (fun _ => rfl)
      (fun hu _ => .ite hu (.ite (hu.failJob i) (.ite hu (hu.takeHeader i)))) h
  case frameReceived i _ _ => exact jobEvent (fun _ => rfl) (fun hu _ => .ite (hu.takeFrame i) hu) h
  case roundSent i => exact jobEvent (fun _ => rfl) (fun hu _ => .ite (hu.roundSent i) hu) h
  case roundEndReceived i => exact jobEvent (fun _ => rfl) (fun hu _ => hu.takeRoundEnd i) h
  case frameMapReceived i _ _ => exact jobEvent (fun _ => rfl) (fun hu _ => .ite (hu.followMap i) hu) h
  case pageCloseReceived i _ => exact jobEvent (fun _ => rfl) (fun hu _ => hu.takeClose i) h
  case pageConfirmationReceived i =>
    exact jobEvent (fun _ => rfl) (fun hu _ => .ite (hu.pageConfirmed i) hu) h
  case releaseReceived => exact ofReleaseReceived h
  case moveCellCopy => exact ofMoveCellCopy h
  case voiceOperationStart => exact ofVoiceOperationStart h
  case playCellReached => exact ofPlayCellReached h
  case gapEnd => exact ofGapEnd h
  case voiceFrameEnd => exact ofVoiceFrameEnd h
  case recordingLimitReached => exact ofRecordingLimitReached h
  case recordToneEnd i | callingToneReset i => exact expiry (fun _ => rfl) (fun hu => hu.updApc i) h
  case mailboxWaitExpiry i => exact expiry (fun _ => rfl) (fun hu => .ite (hu.chooseMailbox i) hu) h
  case callingToneBurst => exact ofCallingToneBurst h
  case saveEnd => exact ofSaveEnd h

/-- Every step keeps the ranges: a millisecond that passes changes nothing but the clock. -/
theorem ofStep (h : step s = .next t) : s.Keeps t := by
  unfold step at h
  split at h
  · cases h
    exact (refl s).same rfl rfl
  · next c rest _ =>
    have hstep := ofExec h
    exact ⟨fun hs => hstep.coders hs, fun hs => hstep.counts hs⟩

end State.Keeps

/-- Settles O8: every step keeps the ranges, by what each operation of the model does to them. -/
theorem coderStatesStayInRange : Obligations.CoderStatesStayInRange :=
  ⟨fun _ _ hs h => (State.Keeps.ofStep h).coders hs, fun _ _ hs h => (State.Keeps.ofStep h).counts hs⟩

end Sys2Proof.Machine
end

section
/-! PROOFS. The requests on voice operations (chapter 9): O47. The checks of PLAY and RECD in their order, how PAUS and
VSTP are taken, then the obligation. -/

namespace Sys2Proof.Machine

open Sys2Proof

/-! ## PLAY and RECD (R139, R142) -/

/-- A line without a plan, an operation, a sending of digits and a pending admission. -/
def State.voiceFree (s : State) (i : LineNo) : Prop :=
  (s.line i).planActive = false ∧ (s.line i).vc.op = none ∧ (s.line i).tu.toneDue = none ∧ s.hasPending i = false

section
variable (s : State) (i : LineNo) {flag : Nat} (right : Right) (f : LineNo → LineNo → Bool → Nat → Entry → Answer)

/-- A slot or a flag out of range is refused first. -/
theorem voiceCheck_of_badForm {slot : Nat} (h : 4 ≤ slot ∨ flagOf flag = none) :
    voiceCheck s i.val slot flag right f = refuse s .badArgument := by
  simp only [voiceCheck, onLine_val]
  rcases h with hslot | hflag
  · rw [lineOf_eq_none hslot]
  · rw [hflag]
    cases lineOf slot <;> rfl

/-- With a good slot and flag the call is checked first, then what holds the line. -/
theorem voiceCheck_of_good (k : LineNo) (hflag : flagOf flag ≠ none) :
    ((s.line i).cc.connectedVoice = false → voiceCheck s i.val k.val flag right f = refuse s .wrongState)
    ∧ ((s.line i).cc.connectedVoice = true →
      ((s.line i).planActive = true ∨ (s.line i).vc.op ≠ none ∨ (s.line i).tu.toneDue ≠ none ∨ s.hasPending i = true) →
      voiceCheck s i.val k.val flag right f = refuse s .busy) := by
  obtain ⟨b, hb⟩ := Option.ne_none_iff_exists'.1 hflag
  simp only [voiceCheck, onLine_val, lineOf_val, hb]
  refine ⟨fun hcall => if_pos hcall, fun hcall hheld => ?_⟩
  rw [if_neg (by simp [hcall]), if_pos (by simpa only [Option.isSome_iff_ne_none] using hheld)]

/-- In a voice call on a free line the slot decides. -/
theorem voiceCheck_of_free (k : LineNo) {b : Bool} (hflag : flagOf flag = some b)
    (hcall : (s.line i).cc.connectedVoice = true) (hfree : s.voiceFree i) :
    voiceCheck s i.val k.val flag right f =
      match (s.line i).window.get k with
      | none => refuse s .notFound
      | some a =>
        if a.right ≠ right then refuse s .noRight
        else
          match s.stc.entry a.id with
          | some e => if e.kind.voice then f i k b a.id e else refuse s .badArgument
          | none => refuse s .badArgument := by
  obtain ⟨hplan, hop, htone, hpending⟩ := hfree
  simp only [voiceCheck, onLine_val, lineOf_val, hflag]
  exact (if_neg (by simp [hcall])).trans (if_neg (by simp [hplan, hop, htone, hpending]))

end

section
variable {s : State} {i k : LineNo} {flag : Nat} {b : Bool} (hflag : flagOf flag = some b)
  (hcall : (s.line i).cc.connectedVoice = true) (hfree : s.voiceFree i) (right : Right)
  (f : LineNo → LineNo → Bool → Nat → Entry → Answer)
include hflag hcall hfree

theorem voiceCheck_of_emptySlot (hslot : (s.line i).window.get k = none) :
    voiceCheck s i.val k.val flag right f = refuse s .notFound := by
  rw [voiceCheck_of_free s i right f k hflag hcall hfree, hslot]

variable {a : Attach} (hslot : (s.line i).window.get k = some a)
include hslot

theorem voiceCheck_of_otherRight (hright : a.right ≠ right) :
    voiceCheck s i.val k.val flag right f = refuse s .noRight := by
  rw [voiceCheck_of_free s i right f k hflag hcall hfree, hslot]
  exact if_pos hright

variable (hright : a.right = right) {e : Entry} (he : s.stc.entry a.id = some e)
include hright he

theorem voiceCheck_of_faxEntry (hfax : e.kind.voice = false) :
    voiceCheck s i.val k.val flag right f = refuse s .badArgument := by
  rw [voiceCheck_of_free s i right f k hflag hcall hfree, hslot]
  simp only [hright, he, hfax, ne_eq, not_true_eq_false, reduceIte, Bool.false_eq_true]

theorem voiceCheck_of_voiceEntry (hvoice : e.kind.voice = true) :
    voiceCheck s i.val k.val flag right f = f i k b a.id e := by
  rw [voiceCheck_of_free s i right f k hflag hcall hfree, hslot]
  simp only [hright, he, hvoice, ne_eq, not_true_eq_false, reduceIte]

end

/-- What PLAY starts once its checks are passed (R139). -/
def playAnswer (s : State) (startCell repeats gap : Nat) (i k : LineNo) (b : Bool) (id : Nat) (e : Entry) : Answer :=
  let o : VoiceOp :=
    { kind := .play, host := true, slot := k, id := id, startCell := startCellOf e.used startCell
      repeats := clamp 1 8 repeats, gap := min 5000 gap, stopOnDigit := b }
  { state := s.startOp i o .voicePlay, status := .accepted
    fields := be2 o.startCell ++ be1 o.repeats ++ be2 o.gap }

theorem takePlay_eq (s : State) (line slot startCell repeats gap flag : Nat) :
    takePlay s line slot startCell repeats gap flag =
      voiceCheck s line slot flag .play (playAnswer s startCell repeats gap) := rfl

/-- What RECD starts once its checks are passed (R142). -/
def recdAnswer (s : State) (limit silence threshold : Nat) (i k : LineNo) (b : Bool) (id : Nat) (_ : Entry) : Answer :=
  let o : VoiceOp :=
    { kind := .recd, host := true, slot := k, id := id, limit := clamp 1 480 limit
      silence := clamp 1 30 silence, threshold := min 2047 threshold, stopOnDigit := b }
  { state := s.startOp i o .voiceRecord, status := .accepted
    fields := be2 o.limit ++ be1 o.silence ++ be2 o.threshold }

theorem takeRecd_eq (s : State) (line slot limit silence threshold flag : Nat) :
    takeRecd s line slot limit silence threshold flag =
      voiceCheck s line slot flag .record (recdAnswer s limit silence threshold) := rfl

/-- What the checks refuse is refused to PLAY and to RECD alike. -/
theorem exec_playRecd_of_refused {s : State} {i : LineNo} {slot flag : Nat} {st : Status} (hs : s.ready)
    (h : ∀ right f, voiceCheck s i.val slot flag right f = refuse s st)
    (tag startCell repeats gap limit silence threshold : Nat) :
    exec (.play i.val tag slot startCell repeats gap flag) s = .next
        (s.answered i.val tag (chars 'P' 'L' 'A' 'Y') st [])
      ∧ exec (.recd i.val tag slot limit silence threshold flag) s = .next
        (s.answered i.val tag (chars 'R' 'E' 'C' 'D') st []) := by
  exact ⟨hostRecord_refuses hs ((takePlay_eq _ _ _ _ _ _ _).trans (h .play _)),
    hostRecord_refuses hs ((takeRecd_eq _ _ _ _ _ _ _).trans (h .record _))⟩

/-! ## PAUS and VSTP (R141, R145) -/

theorem takePaus_of_unknown (s : State) (i : LineNo) {v : Nat} (hv : 2 ≤ v) :
    takePaus s i.val v = refuse s .badArgument := by
  simp only [takePaus, onLine_val, flagOf_eq_none hv]

theorem takePaus_of_plan (s : State) (i : LineNo) {v : Nat} {off : Bool} (hv : flagOf v = some off)
    (hplan : (s.line i).planActive = true) : takePaus s i.val v = refuse s .busy := by
  simp only [takePaus, onLine_val, hv, hplan, reduceIte]

/-- PAUS on a line without a plan, by the table of R141. -/
theorem takePaus_of_noPlan (s : State) (i : LineNo) {v : Nat} {off : Bool} (hv : flagOf v = some off)
    (hplan : (s.line i).planActive = false) :
    takePaus s i.val v =
      match (s.line i).vc.op.bind fun o => o.paus s.now (!off) with
      | some o => okWith (s.setOp i o) []
      | none => refuse s .wrongState := by
  simp only [takePaus, onLine_val, hv]
  exact if_neg (by simp [hplan])

theorem takeVstp_of_plan (s : State) (i : LineNo) (hplan : (s.line i).planActive = true) :
    takeVstp s i.val = refuse s .busy := by
  simp only [takeVstp, onLine_val, hplan, reduceIte]

theorem takeVstp_of_noOp (s : State) (i : LineNo) (hplan : (s.line i).planActive = false)
    (hop : (s.line i).vc.op = none) : takeVstp s i.val = refuse s .wrongState := by
  simp only [takeVstp, onLine_val, hplan, hop, Bool.false_eq_true, reduceIte]

/-- VSTP stops an operation: a recording that a digit has ended ends DIGIT (log 67). -/
theorem takeVstp_of_op (s : State) (i : LineNo) {o : VoiceOp} (hplan : (s.line i).planActive = false)
    (hop : (s.line i).vc.op = some o) :
    takeVstp s i.val = okWith
      (if o.phase = .waiting then s.stopWaiting i o
      else if o.digitStop then (s.digitTrim o).finishOp i .digit
      else s.finishOp i .stopped) [] := by
  simp only [takeVstp, onLine_val, hplan, hop, Bool.false_eq_true, reduceIte, State.stopOp]

/-- An operation set to itself leaves the state as it is. -/
theorem State.setOp_self (s : State) (i : LineNo) {o : VoiceOp} (hop : (s.line i).vc.op = some o) :
    s.setOp i o = s := by
  unfold State.setOp State.updVc
  refine State.upd_same s i _ ?_
  dsimp only
  rw [← hop]

/-! ## The obligation -/

/-- PAUS to an operation of a line without a plan, by what the table of R141 makes of it. -/
theorem exec_paus_of_op {s : State} {i : LineNo} {v : Nat} {off : Bool} (hs : s.ready) (tag : Nat)
    (hv : flagOf v = some off) (hplan : (s.line i).planActive = false) {o : VoiceOp} (hop : (s.line i).vc.op = some o) :
    exec (.paus i.val tag v) s = .next
      (match o.paus s.now (!off) with
        | some o1 => (s.setOp i o1).answered i.val tag (chars 'P' 'A' 'U' 'S') .ok []
        | none => s.answered i.val tag (chars 'P' 'A' 'U' 'S') .wrongState []) := by
  have htaken := takePaus_of_noPlan s i hv hplan
  rw [hop, Option.bind_some] at htaken
  cases hpaus : o.paus s.now (!off) with
  | some o1 =>
    rw [hpaus] at htaken
    exact hostRecord_answers hs htaken
  | none =>
    rw [hpaus] at htaken
    exact hostRecord_refuses hs htaken

theorem exec_paus_of_noOp {s : State} {i : LineNo} {v : Nat} {off : Bool} (hs : s.ready) (tag : Nat)
    (hv : flagOf v = some off) (hplan : (s.line i).planActive = false) (hop : (s.line i).vc.op = none) :
    exec (.paus i.val tag v) s = .next (s.answered i.val tag (chars 'P' 'A' 'U' 'S') .wrongState []) := by
  have htaken := takePaus_of_noPlan s i hv hplan
  rw [hop] at htaken
  exact hostRecord_refuses hs htaken

/-- Settles O47: PLAY and RECD by the checks in their order, PAUS by the table of R141, VSTP by the phase. -/
theorem voiceRequestsAreTaken : Obligations.VoiceRequestsAreTaken := by
  refine ⟨fun s i tag hs hplan => ⟨fun k flag b a e hflag hstate hkind hop htone hpending hslot he hvoice =>
      ⟨fun startCell repeats gap hright => ?play, fun limit silence threshold hright => ?recd⟩,
    fun o hop => ⟨?pausOn, ?pausOff, ?vstp⟩, fun hop => ⟨?noOpOn, ?noOpOff, ?noOpStop⟩⟩,
    fun s i tag startCell repeats gap limit silence threshold slot flag hs =>
      ⟨fun hform => ?badForm, fun hslot hflag hcall => ?notVoice, fun hslot hflag hcall hheld => ?busy,
        fun k hk hflag hcall hplan hop htone hpending => ?free, fun v hv => ?pausUnknown,
        fun hplan => ⟨?planOn, ?planOff, ?planStop⟩⟩⟩
  case play =>
    exact hostRecord_answers hs ((takePlay_eq _ _ _ _ _ _ _).trans
      (voiceCheck_of_voiceEntry hflag (Cc.connectedVoice_iff.2 ⟨hstate, hkind⟩) ⟨hplan, hop, htone, hpending⟩ .play _
        hslot hright he hvoice))
  case recd =>
    exact hostRecord_answers hs ((takeRecd_eq _ _ _ _ _ _ _).trans
      (voiceCheck_of_voiceEntry hflag (Cc.connectedVoice_iff.2 ⟨hstate, hkind⟩) ⟨hplan, hop, htone, hpending⟩ .record _
        hslot hright he hvoice))
  case pausOn =>
    rw [exec_paus_of_op hs tag rfl hplan hop]
    cases hphase : o.phase <;> simp only [VoiceOp.paus, hphase, Bool.not_false]
    case paused => rw [State.setOp_self s i hop]
    case playing | gap => rfl
  case pausOff =>
    rw [exec_paus_of_op hs tag rfl hplan hop]
    cases hphase : o.phase <;> simp only [VoiceOp.paus, hphase, Bool.not_true]
    case gap => rw [State.setOp_self s i hop]
    case playing | paused => rfl
  case vstp => exact hostRecord_answers hs (takeVstp_of_op s i hplan hop)
  case noOpOn | noOpOff => exact exec_paus_of_noOp hs tag rfl hplan hop
  case noOpStop => exact hostRecord_refuses hs (takeVstp_of_noOp s i hplan hop)
  case badForm =>
    exact exec_playRecd_of_refused hs (fun right f => voiceCheck_of_badForm s i right f hform) _ _ _ _ _ _ _
  case notVoice =>
    exact exec_playRecd_of_refused hs
      (fun right f => (voiceCheck_of_good s i right f ⟨slot, hslot⟩ hflag).1 hcall) _ _ _ _ _ _ _
  case busy =>
    exact exec_playRecd_of_refused hs
      (fun right f => (voiceCheck_of_good s i right f ⟨slot, hslot⟩ hflag).2 hcall hheld) _ _ _ _ _ _ _
  case free =>
    obtain ⟨b, hb⟩ := Option.ne_none_iff_exists'.1 hflag
    have hfree : s.voiceFree i := ⟨hplan, hop, htone, hpending⟩
    subst hk
    refine ⟨fun hslot => ?empty, fun a hslot => ⟨fun hright => ?playRight, fun hright => ?recdRight, fun e he hfax =>
      ⟨fun hright => ?playFax, fun hright => ?recdFax⟩⟩⟩
    case empty =>
      exact exec_playRecd_of_refused hs
        (fun right f => voiceCheck_of_emptySlot hb hcall hfree right f hslot) _ _ _ _ _ _ _
    case playRight =>
      exact hostRecord_refuses hs ((takePlay_eq _ _ _ _ _ _ _).trans
        (voiceCheck_of_otherRight hb hcall hfree .play _ hslot (by simp [hright])))
    case recdRight =>
      exact hostRecord_refuses hs ((takeRecd_eq _ _ _ _ _ _ _).trans
        (voiceCheck_of_otherRight hb hcall hfree .record _ hslot (by simp [hright])))
    case playFax => exact hostRecord_refuses hs ((takePlay_eq _ _ _ _ _ _ _).trans
        (voiceCheck_of_faxEntry hb hcall hfree .play _ hslot hright he hfax))
    case recdFax => exact hostRecord_refuses hs ((takeRecd_eq _ _ _ _ _ _ _).trans
        (voiceCheck_of_faxEntry hb hcall hfree .record _ hslot hright he hfax))
  case pausUnknown => exact hostRecord_refuses hs (takePaus_of_unknown s i hv)
  case planOn => exact hostRecord_refuses hs (takePaus_of_plan s i (v := 0) rfl hplan)
  case planOff => exact hostRecord_refuses hs (takePaus_of_plan s i (v := 1) rfl hplan)
  case planStop => exact hostRecord_refuses hs (takeVstp_of_plan s i hplan)

end Sys2Proof.Machine
end

section
/-! PROOFS. The events of a voice operation (chapter 9): O48. What the parts of an operation do to the Voice Coder of
their line, each event at a line with an operation, then the obligation. -/

namespace Sys2Proof.Machine

open Sys2Proof

/-! ## One update of the Voice Coder (R134, R140, R141) -/

theorem State.playStarts_eq (s : State) (i : LineNo) (o : VoiceOp) :
    s.playStarts i o = s.updVc i fun v => { v with
      predicted := 0, stepIndex := 16
      op := some { o with
        phase := .playing, cell := o.startCell, repeatNo := 1, buf := .codes [], frameFill := 0 } } := by
  unfold State.playStarts State.setOp
  rw [State.updVc_updVc]
  rfl

/-- A gap that ends puts its silence out and begins the next repeat with a fresh coder. -/
theorem State.gapEnds_eq (s : State) (i : LineNo) (o : VoiceOp) :
    s.gapEnds i o = s.updVc i fun v => { v with
      predicted := 0, stepIndex := 16, out := List.replicate o.gapOut 0
      op := some { o with
        phase := .playing, repeatNo := o.repeatNo + 1, cell := o.startCell, gapDue := none, gapOut := 0
        frameFill := (o.frameFill + o.gapOut) % 80 } } := by
  unfold State.gapEnds State.nextRepeat State.setOp
  rw [State.updVc_updVc, State.updVc_updVc]
  rfl

/-- The silence of a frame, after which the next frame has none of its samples taken. -/
theorem State.silentOut_frameStarts (s : State) (i : LineNo) (o : VoiceOp) :
    (s.silentOut i o).frameStarts i = s.updVc i fun v => { v with
      out := List.replicate (80 - o.frameFill) 0
      op := some { o with
        frameFill := 0
        gapOut := if o.phase = .gap then o.gapOut - (80 - o.frameFill) else o.gapOut } } := by
  unfold State.silentOut State.frameStarts State.setOp
  rw [State.updVc_updVc, State.updVc_updVc]
  rfl

/-- The samples of a frame, after which the next frame has none of its samples taken. -/
theorem State.playOut_frameStarts (s : State) (i : LineNo) (o : VoiceOp) (n : Nat) :
    (s.playOut i o n).frameStarts i = s.updVc i fun v => { v with
      predicted := (o.buf.take (s.line i).vc.coder n).2.1.1, stepIndex := (o.buf.take (s.line i).vc.coder n).2.1.2
      out := (o.buf.take (s.line i).vc.coder n).2.2
      op := some { o with buf := (o.buf.take (s.line i).vc.coder n).1, frameFill := 0 } } := by
  unfold State.playOut State.frameStarts State.setOp
  rw [State.updVc_updVc, State.updVc_updVc]
  rfl

theorem State.playFrame_of_silent (s : State) (i : LineNo) {o : VoiceOp} (h : o.phase = .gap ∨ o.phase = .paused) :
    s.playFrame i o = ((s.silentOut i o).frameStarts i).frameBoundary i := by
  unfold State.playFrame
  rcases h with hgap | hpaused
  · rw [hgap]
  · rw [hpaused]

theorem State.playFrame_of_playing (s : State) (i : LineNo) {o : VoiceOp} (h : o.phase = .playing) :
    s.playFrame i o = ((s.playOut i o (80 - o.frameFill)).frameStarts i).frameBoundary i := by
  unfold State.playFrame
  rw [h]

/-- Further samples of a frame, a digit's end coming before the bound (R143). -/
theorem State.limitReached_eq (s : State) (i : LineNo) (o : VoiceOp) (samples : List Int) :
    s.limitReached i o samples =
      let l := samples.take (80 - o.frameFill)
      let r := s.recSamples i o l
      if r.2 = true ∧ o.digitStop = false then r.1.opEnds i .limit
      else r.1.setOp i { o with frameFill := o.frameFill + l.length } := by
  simp only [State.limitReached, Bool.not_eq_true]

/-! ## The events at a line with an operation -/

section
variable {s : State} {i : LineNo} {o : VoiceOp} (hrun : s.phase = .running) (hop : (s.line i).vc.op = some o)
include hrun hop

theorem exec_voiceOperationStart_play (hphase : o.phase = .waiting) (hgranted : o.granted = true)
    (hkind : o.kind = .play) : exec (.voiceOperationStart i) s = .next (s.playStarts i o).settle := by
  change execVoiceOperationStart i s = _
  simp only [execVoiceOperationStart, react_running hrun, hop, hphase, hgranted, hkind, and_self, reduceIte]

theorem exec_voiceOperationStart_recd {e : Entry} (hphase : o.phase = .waiting) (hgranted : o.granted = true)
    (hkind : o.kind = .recd) (he : s.stc.entry o.id = some e)
    (htone : o.host = true ∨ (s.line i).apc.recordToneDue = none) :
    exec (.voiceOperationStart i) s = .next (s.recordStarts i o e).settle := by
  change execVoiceOperationStart i s = _
  simp only [execVoiceOperationStart, react_running hrun, hop, hphase, hgranted, hkind, he, htone, and_self, reduceIte]

theorem exec_playCellReached_of_playing (hphase : o.phase = .playing) :
    exec (.playCellReached i) s = .next (s.reachCell i o).settle := by
  change execPlayCellReached i s = _
  simp only [execPlayCellReached, react_running hrun, hop, hphase, reduceIte]

theorem exec_gapEnd_of_gap {d : Nat} (hphase : o.phase = .gap) (hd : o.gapDue = some d) :
    exec (.gapEnd i) s = .next ((s.reach d).gapEnds i o).settle := by
  have hdue : (s.line i).vc.gapDue = some d := by
    simp only [Vc.gapDue, hop, Option.bind_some, hphase, reduceIte, hd]
  have hreach : ((s.reach d).line i).vc.op = some o := hop
  change execGapEnd i s = _
  simp only [execGapEnd, react_running hrun, hdue, onExpiry, hreach]

theorem exec_voiceFrameEnd_of_recording (samples : List Int) (hphase : o.phase = .recording) :
    exec (.voiceFrameEnd i samples) s = .next (s.recordFrame i o samples).settle := by
  change execVoiceFrameEnd i samples s = _
  simp only [execVoiceFrameEnd, react_running hrun, hop, hphase, reduceIte]

theorem exec_voiceFrameEnd_of_play (samples : List Int) (hphase : o.phase ≠ .recording) :
    exec (.voiceFrameEnd i samples) s = .next (s.playFrame i o).settle := by
  change execVoiceFrameEnd i samples s = _
  simp only [execVoiceFrameEnd, react_running hrun, hop, hphase, reduceIte]

theorem exec_recordingLimitReached_of_recording (samples : List Int) (hphase : o.phase = .recording) :
    exec (.recordingLimitReached i samples) s = .next (s.limitReached i o samples).settle := by
  change execRecordingLimitReached i samples s = _
  simp only [execRecordingLimitReached, react_running hrun, hop, hphase, reduceIte]

end

/-- Settles O48, by what each event does to the operation in its phase. -/
theorem voiceOperationsRun : Obligations.VoiceOperationsRun := by
  intro s i o hrun hop
  refine ⟨fun hphase hgranted hkind => ?playStarts, fun e hphase hgranted hkind he htone => ?recordStarts,
    fun hphase => ?cell, fun d hphase hd => ?gapEnd, fun samples hphase => ⟨?recordFrame, ?limit⟩,
    fun samples hphase => ?playFrame, fun samples hphase => ?silence, fun samples hphase => ?playing⟩
  case playStarts =>
    rw [exec_voiceOperationStart_play hrun hop hphase hgranted hkind, State.playStarts_eq]
  case recordStarts => exact exec_voiceOperationStart_recd hrun hop hphase hgranted hkind he htone
  case cell => exact exec_playCellReached_of_playing hrun hop hphase
  case gapEnd => rw [exec_gapEnd_of_gap hrun hop hphase hd, State.gapEnds_eq]
  case recordFrame => exact exec_voiceFrameEnd_of_recording hrun hop samples hphase
  case limit =>
    rw [exec_recordingLimitReached_of_recording hrun hop samples hphase, State.limitReached_eq]
    rfl
  case playFrame => exact exec_voiceFrameEnd_of_play hrun hop samples hphase
  case silence =>
    have hplay : o.phase ≠ .recording := by rcases hphase with h | h <;> simp [h]
    rw [exec_voiceFrameEnd_of_play hrun hop samples hplay, State.playFrame_of_silent s i hphase,
      State.silentOut_frameStarts]
  case playing =>
    have hplay : o.phase ≠ .recording := by simp [hphase]
    rw [exec_voiceFrameEnd_of_play hrun hop samples hplay, State.playFrame_of_playing s i hphase,
      State.playOut_frameStarts]
    rfl

end Sys2Proof.Machine
end

section
/-! PROOFS. The answer decision and the events of an answer plan (chapter 10): O49 and O50. The decision by class and ring
count, what a calling-tone burst and a TAKE do by the plan's state, then the obligations. -/

namespace Sys2Proof.Machine

open Sys2Proof

/-! ## The answer decision (R150) -/

/-- The ring count at which a caller of this class is answered or refused. -/
def Profile.ringsFor (p : Profile) (c : Option CallerClass) : Nat :=
  if c = some .priority then clamp 1 15 p.priorityRings else clamp 1 15 p.rings

section
variable (p : Profile) {c : Option CallerClass} {n : Nat}

theorem decideAnswer_of_barred (hc : c = some .barred) : decideAnswer p c n = .refuse :=
  if_pos hc

theorem decideAnswer_of_below (hc : c ≠ some .barred) (hn : n < p.ringsFor c) : decideAnswer p c n = .wait :=
  (if_neg hc).trans (if_pos hn)

/-- Once the rings are reached, only a withheld caller can be refused. -/
theorem decideAnswer_of_reached (hc : c ≠ some .barred) (hn : p.ringsFor c ≤ n) :
    decideAnswer p c n = if (c = some .unknown ∨ c = none) ∧ p.withheldIgnore then .refuse else .answer :=
  (if_neg hc).trans (if_neg (Nat.not_lt.2 hn))

theorem decideAnswer_of_identified (hn : p.ringsFor c ≤ n)
    (hc : c = some .priority ∨ c = some .known ∨ c = some .learned) : decideAnswer p c n = .answer := by
  have hnotBarred : c ≠ some .barred := by rcases hc with rfl | rfl | rfl <;> decide
  have hidentified : ¬ (c = some .unknown ∨ c = none) := by rcases hc with rfl | rfl | rfl <;> decide
  rw [decideAnswer_of_reached p hnotBarred hn, if_neg fun h => hidentified h.1]

theorem decideAnswer_of_withheld (hn : p.ringsFor c ≤ n) (hc : c = some .unknown ∨ c = none) :
    decideAnswer p c n = if p.withheldIgnore then .refuse else .answer := by
  have hnotBarred : c ≠ some .barred := by rcases hc with rfl | rfl <;> decide
  rw [decideAnswer_of_reached p hnotBarred hn]
  simp only [hc, true_and]

end

/-! ## The mailbox wait and the calling-tone bursts (R153, R154) -/

section
variable {s : State} {i : LineNo} (hrun : s.phase = .running)
include hrun

theorem exec_mailboxWaitExpiry_of_wait {d : Nat} (hd : (s.line i).apc.mailboxDue = some d)
    (hplan : (s.line i).apc.plan = .mailboxWait) :
    exec (.mailboxWaitExpiry i) s = .next ((s.reach d).chooseMailbox i (s.line i).profile.mailbox).settle := by
  refine (react_onExpiry (fun s => (s.line i).apc.mailboxDue) _ hrun hd).trans ?_
  rw [State.reach_line, if_pos hplan]

/-- In GREETING and MAILBOX_WAIT the listener of a connected voice call decides. -/
theorem exec_callingToneBurst_of_heard (hplan : (s.line i).apc.plan = .greeting ∨ (s.line i).apc.plan = .mailboxWait) :
    exec (.callingToneBurst i) s = .next
      (if (s.line i).holds .listener ∧ (s.line i).cc.connectedVoice then s.callingBurst i else s).settle := by
  change execCallingToneBurst i s = _
  rcases hplan with hplan | hplan <;> simp only [execCallingToneBurst, react_running hrun, hplan]

theorem exec_callingToneBurst_of_otherPlan (hgreeting : (s.line i).apc.plan ≠ .greeting)
    (hwait : (s.line i).apc.plan ≠ .mailboxWait) : exec (.callingToneBurst i) s = .next s.settle := by
  change execCallingToneBurst i s = _
  cases hplan : (s.line i).apc.plan <;> simp only [execCallingToneBurst, react_running hrun, hplan]
  case greeting => exact absurd hplan hgreeting
  case mailboxWait => exact absurd hplan hwait

theorem exec_callingToneBurst_of_noListener (hlistener : (s.line i).holds .listener = false) :
    exec (.callingToneBurst i) s = .next s.settle := by
  by_cases hplan : (s.line i).apc.plan = .greeting ∨ (s.line i).apc.plan = .mailboxWait
  · rw [exec_callingToneBurst_of_heard hrun hplan, if_neg (by simp [hlistener])]
  · obtain ⟨hgreeting, hwait⟩ := not_or.1 hplan
    exact exec_callingToneBurst_of_otherPlan hrun hgreeting hwait

end

/-! ## TAKE (R158) -/

theorem takeTake_of_taken (s : State) (i : LineNo)
    (hplan : (s.line i).apc.plan = .greeting ∨ (s.line i).apc.plan = .mailboxWait
      ∨ (s.line i).apc.plan = .recording) : takeTake s i.val = okWith (s.planTaken i) [] := by
  rcases hplan with hplan | hplan | hplan <;> simp only [takeTake, onLine_val, hplan]

theorem takeTake_of_otherPlan (s : State) (i : LineNo) (hgreeting : (s.line i).apc.plan ≠ .greeting)
    (hwait : (s.line i).apc.plan ≠ .mailboxWait) (hrecording : (s.line i).apc.plan ≠ .recording) :
    takeTake s i.val = refuse s .wrongState := by
  cases hplan : (s.line i).apc.plan <;> simp only [takeTake, onLine_val, hplan]
  case greeting => exact absurd hplan hgreeting
  case mailboxWait => exact absurd hplan hwait
  case recording => exact absurd hplan hrecording

/-! ## The settled obligations -/

/-- Settles O49, row by row of the table of R150. -/
theorem answerDecisionFollowsItsTable : Obligations.AnswerDecisionFollowsItsTable := by
  intro p c n
  exact ⟨decideAnswer_of_barred p, decideAnswer_of_below p, decideAnswer_of_identified p, decideAnswer_of_withheld p⟩

/-- Settles O50: the timers by their expiry, a burst and a TAKE by the plan's state. -/
theorem planEventsAndTake : Obligations.PlanEventsAndTake := by
  intro s i hrun
  refine ⟨fun d hd => ?recordTone, fun d hd hplan => ?mailbox, fun hplan hlistener hstate hkind => ?burst,
    fun d hd => ?toneReset, fun tag hs hplan => ?taken, fun tag hs hgreeting hwait hrecording => ?refused,
    fun helsewhere => ?unheard⟩
  case recordTone => exact react_onExpiry (fun s => (s.line i).apc.recordToneDue) _ hrun hd
  case mailbox => exact exec_mailboxWaitExpiry_of_wait hrun hd hplan
  case burst =>
    rw [exec_callingToneBurst_of_heard hrun hplan, if_pos ⟨hlistener, Cc.connectedVoice_iff.2 ⟨hstate, hkind⟩⟩]
    rfl
  case toneReset => exact react_onExpiry (fun s => (s.line i).apc.toneReset) _ hrun hd
  case taken => exact hostRecord_answers hs (takeTake_of_taken s i hplan)
  case refused => exact hostRecord_refuses hs (takeTake_of_otherPlan s i hgreeting hwait hrecording)
  case unheard =>
    rcases helsewhere with ⟨hgreeting, hwait⟩ | hlistener
    · exact exec_callingToneBurst_of_otherPlan hrun hgreeting hwait
    · exact exec_callingToneBurst_of_noListener hrun hlistener

end Sys2Proof.Machine
end

section
/-! PROOFS. The layout of the store (chapter 8): what an entry's place in its region says, entry by entry of the
directory, and that the operations of the Store Controller keep it. -/

namespace Sys2Proof.Machine

open Sys2Proof

/-! ## The entries of a directory (R116 to R118) -/

theorem Stc.mem_used {t : Stc} {e : Entry} : e ∈ t.used ↔ ∃ id, t.entry id = some e := by
  rw [Stc.used, List.mem_filterMap]
  simp only [Stc.entry_eq_some, List.mem_iff_getElem?]
  exact ⟨fun ⟨x, ⟨id, hid⟩, hx⟩ => ⟨id, hx ▸ hid⟩, fun ⟨id, hid⟩ => ⟨some e, ⟨id, hid⟩, rfl⟩⟩

theorem Stc.mem_from_zero {t : Stc} {x : Nat × Entry} : x ∈ t.from 0 ↔ t.entry x.1 = some x.2 := by
  obtain ⟨id, e⟩ := x
  simp only [Stc.from, Nat.zero_le, if_true, List.mem_filterMap, Stc.entry_eq_some]
  constructor
  · rintro ⟨⟨y, k⟩, hmem, hy⟩
    cases y with
    | none => cases hy
    | some f =>
      obtain ⟨rfl, rfl⟩ := Prod.mk.inj (Option.some.inj hy)
      exact (List.mk_mem_zipIdx_iff_getElem? ..).1 hmem
  · exact fun h => ⟨(some e, id), (List.mk_mem_zipIdx_iff_getElem? ..).2 h, rfl⟩

theorem Entry.apart_comm {a b : Entry} (h : a.apart b) : b.apart a := Or.symm h

theorem Stc.used_pairwise_iff {t : Stc} : t.used.Pairwise Entry.apart ↔
    ∀ i j e f, i ≠ j → t.entry i = some e → t.entry j = some f → e.apart f := by
  rw [Stc.used, List.pairwise_filterMap, List.pairwise_iff_getElem]
  simp only [Stc.entry_eq_some]
  constructor
  · intro h i j e f hij he hf
    obtain ⟨hi, hei⟩ := List.getElem?_eq_some_iff.1 he
    obtain ⟨hj, hfj⟩ := List.getElem?_eq_some_iff.1 hf
    rcases Nat.lt_or_gt_of_ne hij with hlt | hlt
    · exact h i j hi hj hlt e hei f hfj
    · exact Entry.apart_comm (h j i hj hi hlt f hfj e hei)
  · intro h i j hi hj hlt e he f hf
    exact h i j e f (Nat.ne_of_lt hlt) (List.getElem?_eq_some_iff.2 ⟨hi, he⟩) (List.getElem?_eq_some_iff.2 ⟨hj, hf⟩)

/-- A running maximum is at most `n` where its start and every item are. -/
theorem foldl_max_le_iff {α : Type} (f : α → Nat) (n : Nat) (l : List α) (m : Nat) :
    l.foldl (fun m e => max m (f e)) m ≤ n ↔ m ≤ n ∧ ∀ e ∈ l, f e ≤ n := by
  induction l generalizing m with
  | nil => simp
  | cons a l ih => simp only [List.foldl_cons, ih, Nat.max_le, List.forall_mem_cons, and_assoc]

theorem le_foldl_min_iff {α : Type} (f : α → Nat) (n : Nat) (l : List α) (m : Nat) :
    n ≤ l.foldl (fun m e => min m (f e)) m ↔ n ≤ m ∧ ∀ e ∈ l, n ≤ f e := by
  induction l generalizing m with
  | nil => simp
  | cons a l ih => simp only [List.foldl_cons, ih, Nat.le_min, List.forall_mem_cons, and_assoc]

theorem Entry.past_of_voice {e : Entry} (h : e.kind.voice = true) : e.past = e.base + e.extent := if_pos h
theorem Entry.first_of_voice {e : Entry} (h : e.kind.voice = true) : e.first = e.base := if_pos h
theorem Entry.past_of_fax {e : Entry} (h : e.kind.voice = false) : e.past = e.base + 1 := by simp [Entry.past, h]
theorem Entry.first_of_fax {e : Entry} (h : e.kind.voice = false) : e.first = e.base + 1 - e.extent := by
  simp [Entry.first, h]

/-- The voice frontier is at or below a cell where every voice segment ends there (R117). -/
theorem Stc.fv_le_iff {t : Stc} {n : Nat} :
    t.fv ≤ n ↔ ∀ id e, t.entry id = some e → e.kind.voice = true → e.past ≤ n := by
  simp only [Stc.fv, foldl_max_le_iff, Stc.voiceEntries, List.mem_filter, Stc.mem_used, Nat.zero_le, true_and]
  constructor
  · intro h id e he hv
    rw [Entry.past_of_voice hv]
    exact h e ⟨⟨id, he⟩, hv⟩
  · rintro h e ⟨⟨id, he⟩, hv⟩
    exact (Entry.past_of_voice hv).symm.trans_le (h id e he hv)

/-- The fax frontier is at or above a cell of the store where every fax segment begins there (R117). -/
theorem Stc.le_ff_iff {t : Stc} {n : Nat} :
    n ≤ t.ff ↔ n ≤ t.size ∧ ∀ id e, t.entry id = some e → e.kind.voice = false → n ≤ e.first := by
  simp only [Stc.ff, le_foldl_min_iff, Stc.faxEntries, List.mem_filter, Stc.mem_used, Bool.not_eq_true']
  refine and_congr_right fun _ => ⟨?_, ?_⟩
  · intro h id e he hv
    rw [Entry.first_of_fax hv]
    exact h e ⟨⟨id, he⟩, hv⟩
  · rintro h e ⟨⟨id, he⟩, hv⟩
    exact (h id e he hv).trans_eq (Entry.first_of_fax hv)

/-- A voice segment ends at or before the voice frontier (R117). -/
theorem Stc.past_le_fv {t : Stc} {id : Nat} {e : Entry} (he : t.entry id = some e) (hv : e.kind.voice = true) :
    e.past ≤ t.fv :=
  Stc.fv_le_iff.1 le_rfl id e he hv

/-- A fax segment begins at or behind the fax frontier (R117). -/
theorem Stc.ff_le_first {t : Stc} {id : Nat} {e : Entry} (he : t.entry id = some e) (hv : e.kind.voice = false) :
    t.ff ≤ e.first :=
  (Stc.le_ff_iff.1 le_rfl).2 id e he hv

theorem Stc.ff_le_size (t : Stc) : t.ff ≤ t.size := (Stc.le_ff_iff.1 le_rfl).1

/-! ## The layout, entry by entry (R117, R129) -/

/-- A move in flight is of this entry: CLOSED, at its old base, toward the frontier of its region (R128, R129). -/
def Move.isOf (m : Move) (size : Nat) (e : Entry) : Prop :=
  e.moving = true ∧ e.open_ = false ∧ e.base = m.old
    ∧ (if e.kind.voice then m.new ≤ m.old else m.old ≤ m.new ∧ m.new < size)

/-- A segment of the moved entry's region does not lie between the two bases of the move (R128). -/
def Move.clears (m : Move) (e x : Entry) : Prop :=
  if e.kind.voice then x.past ≤ m.new ∨ m.old ≤ x.first else m.new < x.first ∨ x.past ≤ m.old + 1

theorem Stc.moveOk_iff {t : Stc} {m : Move} : t.moveOk m ↔ ∃ e, t.entry m.id = some e ∧ m.isOf t.size e
    ∧ ∀ j x, j ≠ m.id → t.entry j = some x → x.kind.voice = e.kind.voice → m.clears e x := by
  simp only [Stc.moveOk, Option.mem_def, Stc.mem_from_zero, Prod.forall, Move.isOf, Move.clears, and_assoc]
  exact exists_congr fun e => by tauto

/-- The layout of the store, said of the entries by their ids. -/
structure Stc.Layout (t : Stc) : Prop where
  inStore {id : Nat} {e : Entry} : t.entry id = some e → e.inStore t.size
  voiceEnds {id : Nat} {e : Entry} : t.entry id = some e → e.kind.voice = true → e.past ≤ t.size
  below {i j : Nat} {e x : Entry} : t.entry i = some e → t.entry j = some x → e.kind.voice = true →
    x.kind.voice = false → e.past ≤ x.first
  apart {i j : Nat} {e x : Entry} : i ≠ j → t.entry i = some e → t.entry j = some x → e.apart x
  move {m : Move} : t.move = some m → t.moveOk m
  idle : t.pack.st = .idle → t.move = none

theorem Stc.laidOut_iff {t : Stc} : t.laidOut ↔ t.Layout := by
  constructor
  · rintro ⟨hin, hfv, hpair, hmove, hidle⟩
    obtain ⟨hsize, hfax⟩ := Stc.le_ff_iff.1 hfv
    exact {
      inStore := fun h => hin _ (Stc.mem_used.2 ⟨_, h⟩)
      voiceEnds := fun h hv => (Stc.fv_le_iff.1 le_rfl _ _ h hv).trans hsize
      below := fun h hx hv hf => (Stc.fv_le_iff.1 le_rfl _ _ h hv).trans (hfax _ _ hx hf)
      apart := fun hij h hx => Stc.used_pairwise_iff.1 hpair _ _ _ _ hij h hx
      move := fun h => hmove _ h
      idle := hidle }
  · intro h
    refine ⟨fun e he => ?_, ?_, ?_, fun m hm => h.move hm, h.idle⟩
    · obtain ⟨id, hid⟩ := Stc.mem_used.1 he
      exact h.inStore hid
    · exact Stc.le_ff_iff.2 ⟨Stc.fv_le_iff.2 fun _ _ he hv => h.voiceEnds he hv,
        fun _ _ hx hf => Stc.fv_le_iff.2 fun _ _ he hv => h.below he hx hv hf⟩
    · exact Stc.used_pairwise_iff.2 fun _ _ _ _ hij he hx => h.apart hij he hx

/-- An entry of the same kind, state, segment and used length: an entry of which only the optional fields are written. -/
def Entry.SamePlace (x e : Entry) : Prop :=
  x.kind = e.kind ∧ x.open_ = e.open_ ∧ x.base = e.base ∧ x.extent = e.extent ∧ x.used = e.used

/-- What an allocation that succeeds has done (R119). -/
theorem Stc.alloc_eq_ok {t u : Stc} {k : EntryKind} {extent id : Nat} {blank : Entry → Entry}
    (h : t.alloc k extent blank = .ok (u, id)) :
    max 1 extent ≤ t.freeSpan ∧ t.freeId = some id ∧ u = t.setEntry id (some (blank (t.newEntry k extent))) := by
  unfold Stc.alloc at h
  split at h
  · cases h
  · next hfit =>
    split at h
    · cases h
    · next hid =>
      cases h
      exact ⟨not_lt.1 hfit, hid, rfl⟩

/-- The lowest free id is one of the directory, with no entry. -/
theorem Stc.freeId_spec {t : Stc} {id : Nat} (h : t.freeId = some id) : id < t.dir.length ∧ t.entry id = none := by
  obtain ⟨hlt, hnone, -⟩ := List.findIdx?_eq_some_iff_getElem.1 h
  refine ⟨hlt, ?_⟩
  rw [Stc.entry, List.getElem?_eq_getElem hlt, Option.isNone_iff_eq_none.1 hnone]
  rfl

/-- The segment that an allocation writes lies in the free span (R119). -/
theorem Stc.newEntry_span {t : Stc} {k : EntryKind} {extent : Nat} {x : Entry} (hx : x.SamePlace (t.newEntry k extent))
    (hfit : max 1 extent ≤ t.freeSpan) : x.inStore t.size ∧ t.fv ≤ x.first ∧ x.past ≤ t.ff := by
  obtain ⟨hkind, -, hbase, hextent, hused⟩ := hx
  simp only [Stc.newEntry] at hkind hbase hextent hused
  have hsize := t.ff_le_size
  unfold Stc.freeSpan at hfit
  cases hv : k.voice
  · rw [hv] at hbase
    have hxv : x.kind.voice = false := hkind ▸ hv
    simp only [Bool.false_eq_true, if_false] at hbase
    rw [Entry.first_of_fax hxv, Entry.past_of_fax hxv]
    exact ⟨⟨by omega, by omega, fun _ => by omega⟩, by omega, by omega⟩
  · rw [hv] at hbase
    have hxv : x.kind.voice = true := hkind ▸ hv
    simp only [if_true] at hbase
    rw [Entry.first_of_voice hxv, Entry.past_of_voice hxv]
    exact ⟨⟨by omega, by omega, fun hv' => absurd (hxv.symm.trans hv') nofun⟩, by omega, by omega⟩

/-! ## Operations that shrink segments (R120, R121, R129 to R132, R144) -/

/-- An entry in the segment of an entry before: same region and base, no more cells, its used length fitting them. -/
structure Entry.Within (x e : Entry) : Prop where
  kind : x.kind = e.kind
  base : x.base = e.base
  nonempty : 1 ≤ x.extent
  extent : x.extent ≤ e.extent
  used : x.used ≤ x.capacity

theorem Entry.Within.refl {e : Entry} {size : Nat} (h : e.inStore size) : e.Within e := ⟨rfl, rfl, h.1, le_rfl, h.2.1⟩

section
variable {x e : Entry} (hw : x.Within e)
include hw

theorem Entry.Within.inStore {size : Nat} (h : e.inStore size) : x.inStore size := by
  refine ⟨hw.nonempty, hw.used, fun hv => ?_⟩
  obtain ⟨hbase, hextent⟩ := h.2.2 (hw.kind ▸ hv)
  exact ⟨hw.base ▸ hbase, hw.base ▸ hw.extent.trans hextent⟩

theorem Entry.Within.first_le : e.first ≤ x.first := by
  have hextent := hw.extent
  simp only [Entry.first, hw.kind, hw.base]
  split <;> omega

theorem Entry.Within.past_le : x.past ≤ e.past := by
  have hextent := hw.extent
  simp only [Entry.past, hw.kind, hw.base]
  split <;> omega

end

/-- A move that stays clear of a segment stays clear of a part of it. -/
theorem Move.clears_of_within {m : Move} {e e' x x' : Entry} (h : m.clears e x) (hx : x'.Within x)
    (hkind : e'.kind = e.kind) : m.clears e' x' := by
  have hfirst := hx.first_le
  have hpast := hx.past_le
  unfold Move.clears at h ⊢
  rw [hkind]
  split at h
  · rw [if_pos ‹_›]
    omega
  · rw [if_neg ‹_›]
    omega

/-- A store whose entries all lie in segments of a store that is laid out is laid out, where a move in flight stays that of
its entry. -/
theorem Stc.Layout.ofWithin {t u : Stc} (h : t.Layout) (hsize : u.size = t.size)
    (hdir : ∀ id x, u.entry id = some x → ∃ e, t.entry id = some e ∧ x.Within e)
    (hmove : ∀ m, u.move = some m → ∃ m₀ e x, t.move = some m₀ ∧ m.id = m₀.id ∧ m.old = m₀.old ∧ m.new = m₀.new
      ∧ t.entry m₀.id = some e ∧ u.entry m₀.id = some x ∧ x.moving = e.moving ∧ (e.open_ = false → x.open_ = false))
    (hidle : u.pack.st = .idle → u.move = none) : u.Layout where
  inStore hx := by
    obtain ⟨e, he, hw⟩ := hdir _ _ hx
    exact hsize ▸ hw.inStore (h.inStore he)
  voiceEnds hx hv := by
    obtain ⟨e, he, hw⟩ := hdir _ _ hx
    exact hsize ▸ hw.past_le.trans (h.voiceEnds he (hw.kind ▸ hv))
  below hx hy hv hf := by
    obtain ⟨e, he, hw⟩ := hdir _ _ hx
    obtain ⟨f, hf', hwf⟩ := hdir _ _ hy
    exact hw.past_le.trans ((h.below he hf' (hw.kind ▸ hv) (hwf.kind ▸ hf)).trans hwf.first_le)
  apart hij hx hy := by
    obtain ⟨e, he, hw⟩ := hdir _ _ hx
    obtain ⟨f, hf, hwf⟩ := hdir _ _ hy
    exact (h.apart hij he hf).imp (fun h' => hw.past_le.trans (h'.trans hwf.first_le))
      fun h' => hwf.past_le.trans (h'.trans hw.first_le)
  move {m} hm := by
    obtain ⟨m₀, e, x, hm₀, hid, hold, hnew, he, hx, hmoving, hclosed⟩ := hmove m hm
    obtain ⟨e', he', ⟨hmov, hop, hbase, hto⟩, hclear⟩ := Stc.moveOk_iff.1 (h.move hm₀)
    obtain rfl : e' = e := Option.some.inj (he'.symm.trans he)
    obtain ⟨e'', he'', hw⟩ := hdir _ _ hx
    obtain rfl : e'' = e' := Option.some.inj (he''.symm.trans he)
    refine Stc.moveOk_iff.2 ⟨x, hid ▸ hx, ⟨hmoving.trans hmov, hclosed hop, ?_, ?_⟩, fun j y hj hy hkind => ?_⟩
    · rw [hw.base, hbase, hold]
    · rwa [hw.kind, hold, hnew, hsize]
    · obtain ⟨f, hf, hwf⟩ := hdir _ _ hy
      have hkept := hclear j f (hid ▸ hj) hf (by rw [← hwf.kind, hkind, hw.kind])
      have hthis := Move.clears_of_within hkept hwf hw.kind
      simp only [Move.clears, hold, hnew] at hthis ⊢
      exact hthis
  idle := hidle

/-- What reads of the directory give after a change of one entry. -/
theorem Stc.entry_updEntry_eq (t : Stc) (id j : Nat) (f : Entry → Entry) :
    (t.updEntry id f).entry j = if j = id then (t.entry j).map f else t.entry j := by
  by_cases hj : j = id
  · subst hj
    simp only [Stc.entry, Stc.updEntry, List.getElem?_modify_eq, if_true]
    cases t.dir[j]? with
    | none => rfl
    | some x => cases x <;> rfl
  · simp only [Stc.entry, Stc.updEntry, List.getElem?_modify_ne _ _ (Ne.symm hj), if_neg hj]

/-- The entry of an id after a change of one entry comes of the one before. -/
theorem Stc.entry_of_updEntry {t : Stc} {id j : Nat} {f : Entry → Entry} {x : Entry}
    (h : (t.updEntry id f).entry j = some x) : ∃ e, t.entry j = some e ∧ x = if j = id then f e else e := by
  rw [Stc.entry_updEntry_eq] at h
  split at h
  · obtain ⟨e, he, rfl⟩ := Option.map_eq_some_iff.1 h
    exact ⟨e, he, (if_pos ‹_›).symm⟩
  · exact ⟨x, h, (if_neg ‹_›).symm⟩

/-- The extent an entry keeps at its close holds its used length in at least one cell, within the segment (R120). -/
theorem Entry.closedExtent_bounds (e : Entry) {size : Nat} (h : e.inStore size) :
    1 ≤ e.closedExtent ∧ e.closedExtent ≤ e.extent ∧ e.used ≤ e.closedExtent * e.perCell := by
  obtain ⟨hone, hused, -⟩ := h
  have hcell : 0 < e.perCell := by
    unfold Entry.perCell
    split <;> decide
  unfold Entry.closedExtent
  unfold Entry.capacity at hused
  split
  · omega
  · refine ⟨(Nat.le_div_iff_mul_le hcell).2 (by omega), ?_, ?_⟩
    · rw [← Nat.lt_succ_iff, Nat.div_lt_iff_lt_mul hcell, Nat.succ_mul]
      omega
    · have hdiv := Nat.lt_div_mul_add hcell (a := e.used + e.perCell - 1)
      omega

theorem Stc.entry_setEntry_eq {t : Stc} {id : Nat} {x : Entry} (hlt : id < t.dir.length) (j : Nat) :
    (t.setEntry id (some x)).entry j = if j = id then some x else t.entry j := by
  by_cases hj : j = id
  · subst hj
    rw [if_pos rfl, Stc.entry_setEntry x hlt]
  · simp only [Stc.entry, Stc.setEntry, List.getElem?_set_ne (Ne.symm hj), if_neg hj]

namespace Stc.Layout

variable {t u : Stc} (h : t.Layout)
include h

/-- A change of one entry within its segment. -/
theorem updEntry (id : Nat) (f : Entry → Entry) (hf : ∀ e, t.entry id = some e → e.inStore t.size → (f e).Within e)
    (hmoving : ∀ e, (f e).moving = e.moving ∧ (e.open_ = false → (f e).open_ = false)) :
    (t.updEntry id f).Layout := by
  refine h.ofWithin rfl (fun j x hx => ?_) (fun m hm => ?_) h.idle
  · obtain ⟨e, he, rfl⟩ := Stc.entry_of_updEntry hx
    refine ⟨e, he, ?_⟩
    split
    · next hj => exact hf e (hj ▸ he) (h.inStore he)
    · exact Entry.Within.refl (h.inStore he)
  · obtain ⟨e, he, -⟩ := Stc.moveOk_iff.1 (h.move hm)
    refine ⟨m, e, if m.id = id then f e else e, hm, rfl, rfl, rfl, he, ?_, ?_⟩
    · rw [Stc.entry_updEntry_eq, he]
      split <;> rfl
    · split
      · exact hmoving e
      · exact ⟨rfl, fun hclosed => hclosed⟩

/-- A change of the store that leaves the directory, the move and the pack. -/
theorem congr (hsize : u.size = t.size) (hdir : u.dir = t.dir) (hmove : u.move = t.move) (hpack : u.pack = t.pack) :
    u.Layout := by
  have hentry : ∀ id, u.entry id = t.entry id := fun id => by rw [Stc.entry, Stc.entry, hdir]
  refine h.ofWithin hsize (fun id x hx => ?_) (fun m hm => ?_) (by rw [hmove, hpack]; exact h.idle)
  · rw [hentry] at hx
    exact ⟨x, hx, Entry.Within.refl (h.inStore hx)⟩
  · rw [hmove] at hm
    obtain ⟨e, he, -⟩ := Stc.moveOk_iff.1 (h.move hm)
    exact ⟨m, e, e, hm, rfl, rfl, rfl, he, (hentry _).trans he, rfl, id⟩

/-- The move goes on from cell to cell (R129). -/
theorem advance {m m' : Move} (hsize : u.size = t.size) (hdir : u.dir = t.dir) (hpack : u.pack = t.pack)
    (hm : t.move = some m) (hm' : u.move = some m') (hid : m'.id = m.id) (hold : m'.old = m.old)
    (hnew : m'.new = m.new) : u.Layout := by
  have hentry : ∀ id, u.entry id = t.entry id := fun id => by rw [Stc.entry, Stc.entry, hdir]
  refine h.ofWithin hsize (fun id x hx => ?_) (fun n hn => ?_) fun hst => ?_
  · rw [hentry] at hx
    exact ⟨x, hx, Entry.Within.refl (h.inStore hx)⟩
  · obtain rfl : m' = n := Option.some.inj (hm'.symm.trans hn)
    obtain ⟨e, he, -⟩ := Stc.moveOk_iff.1 (h.move hm)
    exact ⟨m, e, e, hm, hid, hold, hnew, he, (hentry _).trans he, rfl, id⟩
  · exact absurd (hm.symm.trans (h.idle (hpack ▸ hst))) nofun

/-- The fields of a pack in progress change. -/
theorem withPack {p : Pack} {r : Option PackResult} (hp : p.st = .idle → t.move = none) :
    ({ t with pack := p, packResult := r } : Stc).Layout where
  inStore := h.inStore
  voiceEnds := h.voiceEnds
  below := h.below
  apart := h.apart
  move := h.move
  idle := hp

/-- An entry that no move is of is freed (R121). -/
theorem free {id : Nat} {e : Entry} (he : t.entry id = some e) (hstill : e.moving = false) :
    (t.setEntry id none).Layout := by
  have hne : ∀ j x, (t.setEntry id none).entry j = some x → j ≠ id ∧ t.entry j = some x := by
    intro j x hx
    simp only [Stc.entry, Stc.setEntry] at hx ⊢
    by_cases hj : j = id
    · subst hj
      rw [List.getElem?_set_self (List.getElem?_eq_some_iff.1 (Stc.entry_eq_some.1 he)).1] at hx
      cases hx
    · exact ⟨hj, by rwa [List.getElem?_set_ne (Ne.symm hj)] at hx⟩
  refine h.ofWithin rfl (fun j x hx => ?_) (fun m hm => ?_) h.idle
  · obtain ⟨-, hx'⟩ := hne j x hx
    exact ⟨x, hx', Entry.Within.refl (h.inStore hx')⟩
  · obtain ⟨f, hf, ⟨hmoving, -⟩, -⟩ := Stc.moveOk_iff.1 (h.move hm)
    have hid : id ≠ m.id := by
      rintro rfl
      cases he.symm.trans hf
      exact absurd (hmoving.symm.trans hstill) nofun
    refine ⟨m, f, f, hm, rfl, rfl, rfl, hf, ?_, rfl, fun hclosed => hclosed⟩
    simp only [Stc.entry, Stc.setEntry, List.getElem?_set_ne hid] at hf ⊢
    exact hf

/-- An entry is closed at its used length (R120). -/
theorem close (id : Nat) : (t.updEntry id fun e => { e with open_ := false, extent := e.closedExtent }).Layout := by
  refine h.updEntry id _ (fun e _ hin => ?_) fun e => ⟨rfl, fun _ => rfl⟩
  obtain ⟨hone, hle, hwithin⟩ := e.closedExtent_bounds hin
  exact ⟨rfl, rfl, hone, hle, hwithin⟩

/-- An entry is written whose segment lies beside those of all others. -/
theorem place {id : Nat} {x : Entry} {mv : Option Move} (hlt : id < t.dir.length) (hin : x.inStore t.size)
    (hends : x.kind.voice = true → x.past ≤ t.size)
    (hothers : ∀ j f, j ≠ id → t.entry j = some f → x.apart f
      ∧ (x.kind.voice = true → f.kind.voice = false → x.past ≤ f.first)
      ∧ (f.kind.voice = true → x.kind.voice = false → f.past ≤ x.first))
    (hmove : ∀ m, mv = some m → ({ t.setEntry id (some x) with move := mv } : Stc).moveOk m)
    (hidle : t.pack.st = .idle → mv = none) : ({ t.setEntry id (some x) with move := mv } : Stc).Layout := by
  have hentry : ∀ j f, ({ t.setEntry id (some x) with move := mv } : Stc).entry j = some f →
      (j = id ∧ f = x) ∨ (j ≠ id ∧ t.entry j = some f) := fun j f hf => by
    change (t.setEntry id (some x)).entry j = some f at hf
    rw [Stc.entry_setEntry_eq hlt] at hf
    split at hf
    · exact .inl ⟨‹_›, (Option.some.inj hf).symm⟩
    · exact .inr ⟨‹_›, hf⟩
  refine ⟨fun hf => ?_, fun hf => ?_, fun hf hg => ?_, fun hij hf hg => ?_, fun {m} hm => hmove m hm, hidle⟩
  · obtain ⟨-, rfl⟩ | ⟨-, hf'⟩ := hentry _ _ hf
    · exact hin
    · exact h.inStore hf'
  · obtain ⟨-, rfl⟩ | ⟨-, hf'⟩ := hentry _ _ hf
    · exact hends
    · exact h.voiceEnds hf'
  · obtain ⟨-, rfl⟩ | ⟨hj, hf'⟩ := hentry _ _ hf <;> obtain ⟨-, rfl⟩ | ⟨hk, hg'⟩ := hentry _ _ hg
    · exact fun hv hv' => absurd (hv.symm.trans hv') nofun
    · exact (hothers _ _ hk hg').2.1
    · exact (hothers _ _ hj hf').2.2
    · exact h.below hf' hg'
  · obtain ⟨rfl, rfl⟩ | ⟨hj, hf'⟩ := hentry _ _ hf <;> obtain ⟨rfl, rfl⟩ | ⟨hk, hg'⟩ := hentry _ _ hg
    · exact absurd rfl hij
    · exact (hothers _ _ hk hg').1
    · exact Entry.apart_comm (hothers _ _ hj hf').1
    · exact h.apart hij hf' hg'

/-! ## Segments at the frontiers (R110, R119) -/

/-- A move in flight stays of its entry as other entries are written that lie clear of it. -/
theorem moveOk_place {id : Nat} {x : Entry} {m : Move} (hlt : id < t.dir.length) (hm : t.move = some m)
    (hid : m.id ≠ id)
    (hclears : ∀ e, t.entry m.id = some e → x.kind.voice = e.kind.voice → e.base = m.old → m.clears e x) :
    (t.setEntry id (some x)).moveOk m := by
  obtain ⟨e, he, hof, hclear⟩ := Stc.moveOk_iff.1 (h.move hm)
  refine Stc.moveOk_iff.2 ⟨e, ?_, hof, fun j f hj hf hkind => ?_⟩
  · rwa [Stc.entry_setEntry_eq hlt, if_neg hid]
  · rw [Stc.entry_setEntry_eq hlt] at hf
    split at hf
    · obtain rfl := Option.some.inj hf
      obtain ⟨-, -, hbase, -⟩ := hof
      exact hclears e he hkind hbase
    · exact hclear j f hj hf hkind

/-- An allocation keeps the layout: a voice segment begins at the voice frontier, a fax segment ends at the fax frontier
(R119). -/
theorem alloc {k : EntryKind} {extent id : Nat} {blank : Entry → Entry} (hblank : ∀ e, (blank e).SamePlace e)
    (halloc : t.alloc k extent blank = .ok (u, id)) : u.Layout := by
  obtain ⟨hfit, hid, rfl⟩ := Stc.alloc_eq_ok halloc
  obtain ⟨hlt, hfree⟩ := Stc.freeId_spec hid
  obtain ⟨hin, hfirst, hpast⟩ := Stc.newEntry_span (hblank (t.newEntry k extent)) hfit
  generalize blank (t.newEntry k extent) = x at *
  refine h.place (mv := t.move) hlt hin (fun _ => hpast.trans t.ff_le_size) (fun j f _ hf => ?_) (fun m hm => ?_) h.idle
  · cases hv : f.kind.voice
    · have hfax := hpast.trans (Stc.ff_le_first hf hv)
      exact ⟨.inl hfax, fun _ _ => hfax, nofun⟩
    · have hvoice := (Stc.past_le_fv hf hv).trans hfirst
      exact ⟨.inr hvoice, nofun, fun _ _ => hvoice⟩
  · refine h.moveOk_place hlt hm (fun heq => ?_) fun e he hkind hbase => ?_
    · obtain ⟨e, he, -⟩ := Stc.moveOk_iff.1 (h.move hm)
      exact absurd ((heq ▸ he).symm.trans hfree) nofun
    · unfold Move.clears
      split
      · next hv =>
        have hfv := Stc.past_le_fv he hv
        rw [Entry.past_of_voice hv] at hfv
        omega
      · next hv =>
        have hff := Stc.ff_le_first he (Bool.eq_false_iff.2 hv)
        rw [Entry.first_of_fax (Bool.eq_false_iff.2 hv)] at hff
        omega

/-- A fax segment at the frontier grows into the free span (R110). -/
theorem extend {id : Nat} {e : Entry} (he : t.entry id = some e) (hv : e.kind.voice = false) (hlow : e.low = t.ff)
    (hspan : 16 ≤ t.freeSpan) : (t.updEntry id fun e => { e with extent := e.extent + 16 }).Layout := by
  have hlt : id < t.dir.length := (List.getElem?_eq_some_iff.1 (Stc.entry_eq_some.1 he)).1
  obtain ⟨hone, hused, hfax⟩ := h.inStore he
  obtain ⟨hbase, hextent⟩ := hfax hv
  unfold Stc.freeSpan at hspan
  unfold Entry.low at hlow
  have hfirst : ({ e with extent := e.extent + 16 } : Entry).first = e.base + 1 - (e.extent + 16) :=
    Entry.first_of_fax hv
  have hpast : ({ e with extent := e.extent + 16 } : Entry).past = e.past := by
    rw [Entry.past_of_fax hv]
    exact Entry.past_of_fax hv
  have hroom : e.extent + 16 ≤ e.base + 1 := by omega
  rw [Stc.updEntry_of_entry _ he]
  refine h.place (mv := t.move) hlt ⟨Nat.le_add_right_of_le hone, hused.trans ?_, fun _ => ⟨hbase, hroom⟩⟩
    (fun hv' => absurd (hv'.symm.trans hv) nofun) (fun j f hj hf => ?_) (fun m hm => ?_) h.idle
  · exact Nat.mul_le_mul_right _ (Nat.le_add_right _ _)
  · cases hvf : f.kind.voice
    · have hbehind : e.past ≤ f.first := by
        rcases h.apart (Ne.symm hj) he hf with hle | hle
        · exact hle
        · have hff := Stc.ff_le_first hf hvf
          have hcell := (h.inStore hf).1
          rw [Entry.past_of_fax hvf, Entry.first_of_fax hv] at hle
          rw [Entry.first_of_fax hvf] at hff
          omega
      exact ⟨.inl (hpast ▸ hbehind), fun hv' => absurd (hv'.symm.trans hv) nofun, nofun⟩
    · have hbelow : f.past ≤ ({ e with extent := e.extent + 16 } : Entry).first := by
        have hfv := Stc.past_le_fv hf hvf
        omega
      exact ⟨.inr hbelow, fun hv' => absurd (hv'.symm.trans hv) nofun, fun _ _ => hbelow⟩
  · by_cases hid : m.id = id
    · obtain ⟨e', he', hof, hclear⟩ := Stc.moveOk_iff.1 (h.move hm)
      obtain rfl : e' = e := Option.some.inj (he'.symm.trans (hid ▸ he))
      refine Stc.moveOk_iff.2 ⟨{ e' with extent := e'.extent + 16 }, ?_, hof, fun j f hj hf hkind => ?_⟩
      · exact (Stc.entry_setEntry_eq hlt m.id).trans (if_pos hid)
      · have hf' : t.entry j = some f := by
          refine .trans ?_ hf
          exact ((Stc.entry_setEntry_eq hlt j).trans (if_neg (hid ▸ hj))).symm
        exact hclear j f hj hf' hkind
    · refine h.moveOk_place hlt hm hid fun f hf hkind hold => ?_
      obtain ⟨f', hf', ⟨-, -, -, hto⟩, hclear⟩ := Stc.moveOk_iff.1 (h.move hm)
      obtain rfl : f' = f := Option.some.inj (hf'.symm.trans hf)
      have hvf : f'.kind.voice = false := hkind ▸ hv
      have hthis := hclear id e (Ne.symm hid) he hkind
      have hff := Stc.ff_le_first hf hvf
      simp only [Move.clears, hvf, Bool.false_eq_true, if_false, hfirst, hpast] at hthis hto ⊢
      rw [Entry.first_of_fax hvf] at hff
      rw [Entry.first_of_fax hv] at hthis
      have hcell := (h.inStore hf).1
      omega

/-- A page is extended by 16 cells at the fax frontier, or covered as it stands (R110). -/
theorem cover {id p : Nat} (hcover : t.cover id p = some u) : u.Layout := by
  unfold Stc.cover at hcover
  split at hcover
  · cases hcover
  · next e he =>
    split at hcover
    · cases hcover
    · next hv =>
      replace hv := Bool.eq_false_iff.2 hv
      split at hcover
      · cases hcover
        exact h
      · split at hcover
        · next hspan =>
          cases hcover
          exact h.extend he hv hspan.1 hspan.2
        · cases hcover

end Stc.Layout

/-! ## The walk and the moves of a pack (R128, R129) -/

/-- The walk meets a segment before another: rising base in the voice region, falling in the fax region. -/
def walksBefore (voice : Bool) (x y : Nat × Entry) : Prop :=
  if voice then x.2.base < y.2.base else y.2.base < x.2.base

theorem walksBefore.trans {voice : Bool} {x y z : Nat × Entry} (h : walksBefore voice x y) (h' : walksBefore voice y z) :
    walksBefore voice x z := by
  cases voice
  · exact Nat.lt_trans (m := y.2.base) h' h
  · exact Nat.lt_trans (m := y.2.base) h h'

theorem walksBefore_or {voice : Bool} {x y : Nat × Entry} (h : x.2.base ≠ y.2.base) :
    walksBefore voice x y ∨ walksBefore voice y x := by
  cases voice
  · exact (Nat.lt_or_gt_of_ne h).symm
  · exact Nat.lt_or_gt_of_ne h

theorem insertSeg_cons (voice : Bool) (x y : Nat × Entry) (r : List (Nat × Entry)) :
    (walksBefore voice x y ∧ insertSeg voice x (y :: r) = x :: y :: r)
      ∨ (¬ walksBefore voice x y ∧ insertSeg voice x (y :: r) = y :: insertSeg voice x r) := by
  cases voice <;> exact (em _).imp (fun h => ⟨h, if_pos h⟩) fun h => ⟨h, if_neg h⟩

theorem mem_insertSeg {voice : Bool} {x z : Nat × Entry} {l : List (Nat × Entry)} :
    z ∈ insertSeg voice x l ↔ z = x ∨ z ∈ l := by
  induction l with
  | nil => simp [insertSeg]
  | cons y r ih =>
    obtain ⟨-, heq⟩ | ⟨-, heq⟩ := insertSeg_cons voice x y r
    · rw [heq]
      exact List.mem_cons
    · rw [heq, List.mem_cons, List.mem_cons, ih]
      tauto

theorem insertSeg_pairwise {voice : Bool} {x : Nat × Entry} {l : List (Nat × Entry)} (hl : l.Pairwise (walksBefore voice))
    (hx : ∀ y ∈ l, x.2.base ≠ y.2.base) : (insertSeg voice x l).Pairwise (walksBefore voice) := by
  induction l with
  | nil => exact List.pairwise_singleton _ _
  | cons y r ih =>
    obtain ⟨hy, hr⟩ := List.pairwise_cons.1 hl
    obtain ⟨hxy, heq⟩ | ⟨hxy, heq⟩ := insertSeg_cons voice x y r
    · rw [heq]
      refine List.pairwise_cons.2 ⟨fun z hz => ?_, hl⟩
      obtain rfl | hz := List.mem_cons.1 hz
      · exact hxy
      · exact walksBefore.trans hxy (hy z hz)
    · rw [heq]
      refine List.pairwise_cons.2 ⟨fun z hz => ?_, ih hr fun z hz => hx z (List.mem_cons_of_mem y hz)⟩
      obtain rfl | hz := mem_insertSeg.1 hz
      · exact (walksBefore_or (hx y List.mem_cons_self)).resolve_left hxy
      · exact hy z hz

/-- Segments with different bases inserted one after another stand in the walk's order. -/
theorem foldl_insertSeg {voice : Bool} (l : List (Nat × Entry)) : ∀ {acc : List (Nat × Entry)},
    acc.Pairwise (walksBefore voice) → l.Pairwise (fun x y => x.2.base ≠ y.2.base) →
    (∀ x ∈ l, ∀ y ∈ acc, x.2.base ≠ y.2.base) →
    (l.foldl (fun l x => insertSeg voice x l) acc).Pairwise (walksBefore voice)
      ∧ ∀ z, z ∈ l.foldl (fun l x => insertSeg voice x l) acc ↔ z ∈ l ∨ z ∈ acc := by
  induction l with
  | nil => exact fun hacc _ _ => ⟨hacc, fun z => by simp⟩
  | cons x r ih =>
    intro acc hacc hl hne
    obtain ⟨hx, hr⟩ := List.pairwise_cons.1 hl
    obtain ⟨hpair, hmem⟩ := ih (insertSeg_pairwise hacc (hne x List.mem_cons_self)) hr fun y hy z hz => by
      obtain rfl | hz := mem_insertSeg.1 hz
      · exact (hx y hy).symm
      · exact hne y (List.mem_cons_of_mem x hy) z hz
    refine ⟨hpair, fun z => ?_⟩
    rw [List.foldl_cons, hmem, mem_insertSeg, List.mem_cons]
    tauto

/-- The segment that a walk moves: CLOSED, moved toward the walk's start, no other segment between its old and its new
base (R128). -/
def walkMoves (voice : Bool) (l : List (Nat × Entry)) (e new : Nat) (x : Nat × Entry) : Prop :=
  x ∈ l ∧ x.2.open_ = false ∧ (if voice then e ≤ new ∧ new ≤ x.2.base else new ≤ e ∧ x.2.base ≤ new)
    ∧ ∀ y ∈ l, y ≠ x → if voice then y.2.past ≤ new ∨ x.2.base ≤ y.2.first else new < y.2.first ∨ y.2.past ≤ x.2.base + 1

/-- A walk of segments in order that share no cell, all beyond the expected position. -/
theorem walkFrom_move {voice : Bool} {id new size : Nat} (l : List (Nat × Entry)) : ∀ {e : Nat},
    l.Pairwise (walksBefore voice) → l.Pairwise (fun x y => x.2.apart y.2) →
    (∀ x ∈ l, x.2.kind.voice = voice ∧ x.2.inStore size ∧ if voice then e ≤ x.2.base else x.2.base ≤ e) →
    walkFrom voice e l = .move id new → ∃ x, x.1 = id ∧ walkMoves voice l e new x := by
  induction l with
  | nil => exact fun _ _ _ h => nomatch h
  | cons x r ih =>
    intro e hbefore hapart hall h
    obtain ⟨hxbefore, hr⟩ := List.pairwise_cons.1 hbefore
    obtain ⟨hxapart, hr'⟩ := List.pairwise_cons.1 hapart
    obtain ⟨hkind, ⟨hone, -, hfax⟩, hbase⟩ := hall x List.mem_cons_self
    rw [walkFrom] at h
    split at h
    · cases h
    · next hclosed =>
      replace hclosed := Bool.eq_false_iff.2 hclosed
      split at h
      · next heq =>
        obtain ⟨z, hid, hz, hzclosed, hznew, hzclear⟩ := ih hr hr' (fun y hy => by
          obtain ⟨hykind, hyin, -⟩ := hall y (List.mem_cons_of_mem x hy)
          refine ⟨hykind, hyin, ?_⟩
          have hyone := hyin.1
          have hxy := hxbefore y hy
          have hxyapart := hxapart y hy
          unfold walksBefore at hxy
          cases voice
          · simp only [Bool.false_eq_true, if_false] at hxy ⊢
            rw [Entry.apart, Entry.past_of_fax hkind, Entry.first_of_fax hkind, Entry.past_of_fax hykind,
              Entry.first_of_fax hykind] at hxyapart
            omega
          · simp only [if_true] at hxy ⊢
            rw [Entry.apart, Entry.past_of_voice hkind, Entry.first_of_voice hkind, Entry.past_of_voice hykind,
              Entry.first_of_voice hykind] at hxyapart
            omega) h
        have hzbefore := hxbefore z hz
        have hzapart := hxapart z hz
        obtain ⟨hzkind, hzin, -⟩ := hall z (List.mem_cons_of_mem x hz)
        refine ⟨z, hid, List.mem_cons_of_mem x hz, hzclosed, ?_, fun y hy hyz => ?_⟩
        · cases voice
          · simp only [Bool.false_eq_true, if_false] at hznew ⊢
            omega
          · simp only [if_true] at hznew ⊢
            omega
        · obtain rfl | hy := List.mem_cons.1 hy
          · cases voice
            · simp only [Bool.false_eq_true, if_false] at hznew ⊢
              rw [Entry.apart, Entry.past_of_fax hkind, Entry.first_of_fax hkind, Entry.past_of_fax hzkind,
                Entry.first_of_fax hzkind] at hzapart
              rw [Entry.first_of_fax hkind]
              have hless : z.2.base < y.2.base := hzbefore
              have hzone := hzin.1
              exact .inl (by omega)
            · simp only [if_true] at hznew ⊢
              rw [Entry.past_of_voice hkind]
              exact .inl (by omega)
          · exact hzclear y hy hyz
      · next hne =>
        obtain ⟨rfl, rfl⟩ := WalkEnd.move.inj h
        refine ⟨x, rfl, List.mem_cons_self, hclosed, ?_, fun y hy hyx => ?_⟩
        · cases voice
          · exact ⟨le_rfl, hbase⟩
          · exact ⟨le_rfl, hbase⟩
        · replace hy := (List.mem_cons.1 hy).resolve_left hyx
          obtain ⟨hykind, -, -⟩ := hall y (List.mem_cons_of_mem x hy)
          have hxy := hxbefore y hy
          unfold walksBefore at hxy
          cases voice
          · simp only [Bool.false_eq_true, if_false] at hxy ⊢
            rw [Entry.past_of_fax hykind]
            exact .inr (by omega)
          · simp only [if_true] at hxy ⊢
            rw [Entry.first_of_voice hykind]
            exact .inr hxy.le

/-- The used entries, listed with their ids, have different ids. -/
theorem Stc.from_pairwise (t : Stc) : (t.from 0).Pairwise fun x y => x.1 ≠ y.1 := by
  simp only [Stc.from, Nat.zero_le, if_true]
  rw [List.pairwise_filterMap, List.pairwise_iff_getElem]
  intro i j hi hj hij x hx y hy
  have hids : ∀ k (hk : k < t.dir.zipIdx.length) (z : Nat × Entry),
      (match (t.dir.zipIdx[k]).1 with
        | some e => some ((t.dir.zipIdx[k]).2, e)
        | none => none) = some z → z.1 = k := by
    intro k hk z hz
    simp only [List.getElem_zipIdx] at hz
    split at hz
    · cases hz
      exact Nat.zero_add k
    · cases hz
  rw [hids i hi x hx, hids j hj y hy]
  exact Nat.ne_of_lt hij

namespace Stc.Layout

variable {t u : Stc} (h : t.Layout)
include h

/-- The segment that the walk of a region moves (R128). -/
theorem walkRegion_move {voice : Bool} {id new : Nat} (hwalk : t.walkRegion voice = .move id new) :
    ∃ e, t.entry id = some e ∧ e.kind.voice = voice ∧ e.open_ = false
      ∧ (if voice then new ≤ e.base else e.base ≤ new ∧ new < t.size)
      ∧ ∀ j x, j ≠ id → t.entry j = some x → x.kind.voice = voice →
        if voice then x.past ≤ new ∨ e.base ≤ x.first else new < x.first ∨ x.past ≤ e.base + 1 := by
  have hmem : ∀ z, z ∈ ((t.from 0).filter fun x => x.2.kind.voice == voice) ↔
      t.entry z.1 = some z.2 ∧ z.2.kind.voice = voice := fun z => by
    rw [List.mem_filter, Stc.mem_from_zero, beq_iff_eq]
  have hids := t.from_pairwise.filter fun x => x.2.kind.voice == voice
  have hbases : ((t.from 0).filter fun x => x.2.kind.voice == voice).Pairwise fun x y => x.2.base ≠ y.2.base := by
    refine hids.imp_of_mem fun {x y} hx hy hne => ?_
    obtain ⟨hxe, hxv⟩ := (hmem x).1 hx
    obtain ⟨hye, hyv⟩ := (hmem y).1 hy
    have happart := h.apart hne hxe hye
    have hxone := (h.inStore hxe).1
    have hyone := (h.inStore hye).1
    cases voice
    · rw [Entry.apart, Entry.past_of_fax hxv, Entry.first_of_fax hxv, Entry.past_of_fax hyv,
        Entry.first_of_fax hyv] at happart
      omega
    · rw [Entry.apart, Entry.past_of_voice hxv, Entry.first_of_voice hxv, Entry.past_of_voice hyv,
        Entry.first_of_voice hyv] at happart
      omega
  obtain ⟨horder, hsame⟩ := foldl_insertSeg (voice := voice) _ List.Pairwise.nil hbases (by simp)
  have hwhich : ∀ z, z ∈ t.walkOrder voice ↔ t.entry z.1 = some z.2 ∧ z.2.kind.voice = voice := fun z => by
    rw [Stc.walkOrder, hsame, hmem]
    simp
  have hne : (t.walkOrder voice).Pairwise fun x y => x.1 ≠ y.1 := by
    refine horder.imp_of_mem fun {x y} hx hy hxy heq => ?_
    obtain ⟨hxe, -⟩ := (hwhich x).1 hx
    obtain ⟨hye, -⟩ := (hwhich y).1 hy
    have hentry : x.2 = y.2 := Option.some.inj (hxe.symm.trans (heq ▸ hye))
    unfold walksBefore at hxy
    rw [hentry] at hxy
    split at hxy <;> exact Nat.lt_irrefl _ hxy
  have hapart : (t.walkOrder voice).Pairwise fun x y => x.2.apart y.2 :=
    hne.imp_of_mem fun hx hy hxy => h.apart hxy ((hwhich _).1 hx).1 ((hwhich _).1 hy).1
  obtain ⟨x, rfl, hx, hclosed, hnew, hclear⟩ := walkFrom_move (size := t.size) _ horder hapart (fun x hx => by
    obtain ⟨hxe, hxv⟩ := (hwhich x).1 hx
    refine ⟨hxv, h.inStore hxe, ?_⟩
    cases voice
    · exact Nat.le_sub_one_of_lt ((h.inStore hxe).2.2 hxv).1
    · exact Nat.zero_le _) hwalk
  obtain ⟨hxe, hxv⟩ := (hwhich x).1 hx
  refine ⟨x.2, hxe, hxv, hclosed, ?_, fun j y hj hy hyv => ?_⟩
  · cases voice
    · have hsize := ((h.inStore hxe).2.2 hxv).1
      simp only [Bool.false_eq_true, if_false] at hnew ⊢
      omega
    · exact hnew.2
  · exact hclear (j, y) ((hwhich _).2 ⟨hy, hyv⟩) fun heq => hj (congrArg Prod.fst heq)

/-- A move begins where the walk finds a segment to move (R128, R129). -/
theorem startMove {voice : Bool} {now id new : Nat} (hwalk : t.walkRegion voice = .move id new)
    (hbusy : t.pack.st ≠ .idle) : (t.startMove now id new).Layout := by
  obtain ⟨e, he, hv, hclosed, hnew, hclear⟩ := h.walkRegion_move hwalk
  have hlt : id < t.dir.length := (List.getElem?_eq_some_iff.1 (Stc.entry_eq_some.1 he)).1
  have hstart : t.startMove now id new = { t.setEntry id (some { e with moving := true }) with
      move := some { id := id, old := e.base, new := new, mark := 0, due := now + 1 } } := by
    simp only [Stc.startMove, he, Stc.updEntry_of_entry _ he]
    rfl
  have hin : e.inStore t.size := h.inStore he
  rw [hstart]
  refine h.place hlt hin (fun hve => (h.voiceEnds he hve : e.past ≤ t.size)) (fun j f hj hf => ?_) (fun m hm => ?_)
    fun hidle => absurd hidle hbusy
  · exact ⟨(h.apart (Ne.symm hj) he hf : e.apart f), fun hve hvf => (h.below he hf hve hvf : e.past ≤ f.first),
      fun hvf hve => (h.below hf he hvf hve : f.past ≤ e.first)⟩
  obtain rfl := Option.some.inj hm
  refine Stc.moveOk_iff.2 ⟨{ e with moving := true }, ?_, ⟨rfl, hclosed, rfl, ?_⟩, fun j f hj hf hkind => ?_⟩
  · exact (Stc.entry_setEntry_eq hlt id).trans (if_pos rfl)
  · exact hv ▸ hnew
  · have hf' : t.entry j = some f := by
      refine .trans ?_ hf
      exact ((Stc.entry_setEntry_eq hlt j).trans (if_neg hj)).symm
    have hthis := hclear j f hj hf' (hkind.trans hv)
    unfold Move.clears
    rw [hv]
    exact hthis

/-- A move completes: the entry stands at its new base (R129). -/
theorem moveDone {m : Move} (hm : t.move = some m) :
    ({ (t.updEntry m.id fun e => { e with base := m.new, moving := false }) with move := none } : Stc).Layout := by
  obtain ⟨e, he, ⟨-, -, hold, hto⟩, hclear⟩ := Stc.moveOk_iff.1 (h.move hm)
  have hlt : m.id < t.dir.length := (List.getElem?_eq_some_iff.1 (Stc.entry_eq_some.1 he)).1
  obtain ⟨hone, hused, hfax⟩ := h.inStore he
  rw [Stc.updEntry_of_entry _ he]
  cases hv : e.kind.voice
  · obtain ⟨hbase, hextent⟩ := hfax hv
    simp only [hv, Bool.false_eq_true, if_false] at hto
    have hfirst : ({ e with base := m.new, moving := false } : Entry).first = m.new + 1 - e.extent :=
      Entry.first_of_fax hv
    have hpast : ({ e with base := m.new, moving := false } : Entry).past = m.new + 1 := Entry.past_of_fax hv
    have hroom : e.extent ≤ m.new + 1 := by omega
    refine h.place (mv := none) hlt ⟨hone, hused, fun _ => ⟨hto.2, hroom⟩⟩
      (fun hv' => absurd (hv'.symm.trans hv) nofun) (fun j f hj hf => ?_) nofun fun _ => rfl
    cases hvf : f.kind.voice
    · have hapart := h.apart (Ne.symm hj) he hf
      have hpass := hclear j f hj hf (hvf.trans hv.symm)
      have hfone := (h.inStore hf).1
      simp only [Move.clears, hv, Bool.false_eq_true, if_false] at hpass
      refine ⟨?_, fun hv' => absurd (hv'.symm.trans hv) nofun, nofun⟩
      rw [Entry.apart, Entry.past_of_fax hv, Entry.first_of_fax hv] at hapart
      rw [Entry.apart, hfirst, hpast]
      rw [Entry.past_of_fax hvf, Entry.first_of_fax hvf] at *
      omega
    · have hbelow := h.below hf he hvf hv
      have hmoved : f.past ≤ ({ e with base := m.new, moving := false } : Entry).first := by
        rw [Entry.first_of_fax hv] at hbelow
        omega
      exact ⟨.inr hmoved, fun hv' => absurd (hv'.symm.trans hv) nofun, fun _ _ => hmoved⟩
  · simp only [hv, if_true] at hto
    have hfirst : ({ e with base := m.new, moving := false } : Entry).first = m.new := Entry.first_of_voice hv
    have hpast : ({ e with base := m.new, moving := false } : Entry).past = m.new + e.extent := Entry.past_of_voice hv
    have hends := h.voiceEnds he hv
    have hepast := Entry.past_of_voice hv
    refine h.place (mv := none) hlt ⟨hone, hused, fun hv' => absurd (hv.symm.trans hv') nofun⟩ (fun _ => by omega)
      (fun j f hj hf => ?_) nofun fun _ => rfl
    cases hvf : f.kind.voice
    · have hbelow := h.below he hf hv hvf
      have hmoved : ({ e with base := m.new, moving := false } : Entry).past ≤ f.first := by omega
      exact ⟨.inl hmoved, fun _ _ => hmoved, nofun⟩
    · have hapart := h.apart (Ne.symm hj) he hf
      have hpass := hclear j f hj hf (hvf.trans hv.symm)
      have hfone := (h.inStore hf).1
      simp only [Move.clears, hv, if_true] at hpass
      refine ⟨?_, nofun, fun _ hv' => absurd (hv.symm.trans hv') nofun⟩
      rw [Entry.apart, hepast, Entry.first_of_voice hv] at hapart
      rw [Entry.apart, hfirst, hpast]
      rw [Entry.past_of_voice hvf, Entry.first_of_voice hvf] at *
      omega

/-- A soft reset closes and keeps every entry and abandons the move (R132). -/
theorem soft : t.soft.Layout := by
  refine h.ofWithin rfl (fun id x hx => ?_) nofun fun _ => rfl
  rw [Stc.entry_eq_some, Stc.soft, List.getElem?_map, Option.map_eq_some_iff] at hx
  obtain ⟨y, hy, hyx⟩ := hx
  obtain ⟨e, rfl, rfl⟩ := Option.map_eq_some_iff.1 hyx
  have he := Stc.entry_eq_some.2 hy
  obtain ⟨hone, hle, hwithin⟩ := e.closedExtent_bounds (h.inStore he)
  refine ⟨e, he, ?_⟩
  cases hopen : e.open_
  · exact ⟨rfl, rfl, (h.inStore he).1, le_rfl, (h.inStore he).2.1⟩
  · exact ⟨rfl, rfl, hone, hle, hwithin⟩

end Stc.Layout

/-- A store with no entry and no move is laid out. -/
theorem Stc.Layout.of_empty {t : Stc} (hdir : t.used = []) (hmove : t.move = none) : t.Layout := by
  have hnone : ∀ {id e}, t.entry id ≠ some e := fun {id e} he => by
    have hmem := Stc.mem_used.2 ⟨id, he⟩
    rw [hdir] at hmem
    cases hmem
  exact ⟨fun he => absurd he hnone, fun he => absurd he hnone, fun he => absurd he hnone, fun _ he => absurd he hnone,
    fun hm => absurd (hmove.symm.trans hm) nofun, fun _ => hmove⟩

/-! ## The store behind an operation (R117 to R131) -/

/-- Bytes written leave all but the memory and its parity. -/
theorem Stc.writeBytes_eq (l : List Byte) : ∀ (t : Stc) (a : Nat),
    ∃ m p, t.writeBytes a l = { t with mem := m, badParity := p } := by
  induction l with
  | nil => exact fun t _ => ⟨t.mem, t.badParity, rfl⟩
  | cons b r ih =>
    intro t a
    obtain ⟨m, p, heq⟩ := ih (t.writeByte a b) (a + 1)
    exact ⟨m, p, heq⟩

/-- The copy of a cell leaves all but the memory and its parity (R129). -/
theorem Stc.copyCell_eq (t : Stc) (e : Entry) (src dst : Nat) :
    ∃ m p, t.copyCell e src dst = { t with mem := m, badParity := p } := by
  unfold Stc.copyCell
  dsimp only
  split
  · obtain ⟨m, p, heq⟩ := Stc.writeBytes_eq (headerBytes 0 16 e.kind) _ _
    exact ⟨m, p, heq⟩
  · exact ⟨_, _, rfl⟩

theorem Stc.writeBytes_dir (t : Stc) (a : Nat) (l : List Byte) : (t.writeBytes a l).dir = t.dir := by
  obtain ⟨m, p, heq⟩ := Stc.writeBytes_eq l t a
  rw [heq]

/-- A change of an entry that keeps its state leaves the OPEN entries OPEN. -/
theorem Stc.opens_updEntry {t : Stc} {id j : Nat} {f : Entry → Entry} {e : Entry} (hf : ∀ e, (f e).open_ = e.open_)
    (he : t.entry j = some e) (ho : e.open_ = true) : ∃ x, (t.updEntry id f).entry j = some x ∧ x.open_ = true := by
  rw [Stc.entry_updEntry_eq, he]
  split
  · exact ⟨f e, rfl, (hf e).trans ho⟩
  · exact ⟨e, rfl, ho⟩

/-- The layout, the size of the directory and the OPEN entries are kept. -/
structure Stc.Kept (t u : Stc) : Prop where
  layout : t.Layout → u.Layout
  sizes : u.dir.length = t.dir.length
  opens {id : Nat} {e : Entry} : t.entry id = some e → e.open_ = true → ∃ f, u.entry id = some f ∧ f.open_ = true

namespace Stc.Kept

theorem refl (t : Stc) : t.Kept t := ⟨id, rfl, fun h ho => ⟨_, h, ho⟩⟩

theorem trans {t u v : Stc} (h : t.Kept u) (h' : u.Kept v) : t.Kept v :=
  ⟨fun ht => h'.layout (h.layout ht), h'.sizes.trans h.sizes, fun he ho => by
    obtain ⟨f, hf, hfo⟩ := h.opens he ho
    exact h'.opens hf hfo⟩

/-- The memory, its parity, the size of a write in progress: nothing the directory reaches changes. -/
theorem sameDir {t u : Stc} (hsize : u.size = t.size) (hdir : u.dir = t.dir) (hmove : u.move = t.move)
    (hpack : u.pack = t.pack) : t.Kept u :=
  ⟨fun h => h.congr hsize hdir hmove hpack, congrArg List.length hdir, fun {id e} he ho =>
    ⟨e, by rwa [Stc.entry, hdir], ho⟩⟩

variable (t : Stc)

theorem writeByte (a : Nat) (b : Byte) : t.Kept (t.writeByte a b) := sameDir rfl rfl rfl rfl

theorem writeBytes (a : Nat) (l : List Byte) : t.Kept (t.writeBytes a l) := by
  obtain ⟨m, p, heq⟩ := Stc.writeBytes_eq l t a
  exact heq ▸ sameDir rfl rfl rfl rfl

theorem writeHeader (id : Nat) (e : Entry) (k : Nat) (p : Int) (x : Nat) : t.Kept (t.writeHeader id e k p x) :=
  writeBytes _ _ _

theorem zero (a n : Nat) : t.Kept (t.zero a n) := sameDir rfl rfl rfl rfl

theorem foldl_zero (off len : Stc → Nat → Nat) (l : List Nat) :
    ∀ t : Stc, t.Kept (l.foldl (fun t k => t.zero (off t k) (len t k)) t) := by
  induction l with
  | nil => exact refl
  | cons k r ih => exact fun t => (zero t _ _).trans (ih _)

/-- An entry changes within its segment, its state and its part in a move kept. -/
theorem updEntry (id : Nat) (f : Entry → Entry) (hf : ∀ e, t.entry id = some e → e.inStore t.size → (f e).Within e)
    (hstate : ∀ e, (f e).moving = e.moving ∧ (f e).open_ = e.open_) : t.Kept (t.updEntry id f) where
  layout h := h.updEntry id f hf fun e => ⟨(hstate e).1, fun hclosed => (hstate e).2.trans hclosed⟩
  sizes := List.length_modify ..
  opens he ho := Stc.opens_updEntry (fun e => (hstate e).2) he ho

/-- A change of fields that say nothing of the segment: its caller's number, its pages, its damage. -/
theorem stamp (id : Nat) (f : Entry → Entry) (hplace : ∀ e, (f e).SamePlace e) (hmoving : ∀ e, (f e).moving = e.moving) :
    t.Kept (t.updEntry id f) := by
  refine updEntry t id f (fun e _ hin => ?_) fun e => ⟨hmoving e, (hplace e).2.1⟩
  obtain ⟨hkind, -, hbase, hextent, hused⟩ := hplace e
  refine ⟨hkind, hbase, hextent ▸ hin.1, hextent.le, ?_⟩
  simpa only [Entry.capacity, Entry.perCell, hkind, hextent, hused] using hin.2.1

theorem damage (id : Nat) : t.Kept (t.damage id) := stamp t id _ (fun _ => ⟨rfl, rfl, rfl, rfl, rfl⟩) fun _ => rfl

/-- The used length is set, within the capacity. -/
theorem withUsed (id : Nat) (n : Entry → Nat)
    (hn : ∀ e, t.entry id = some e → e.inStore t.size → n e ≤ e.capacity) :
    t.Kept (t.updEntry id fun e => { e with used := n e }) :=
  updEntry t id _ (fun e he hin => ⟨rfl, rfl, hin.1, le_rfl, hn e he hin⟩) fun _ => ⟨rfl, rfl⟩

theorem trim (id n : Nat) : t.Kept (t.updEntry id fun e => { e with used := min e.used n }) :=
  withUsed t id _ fun _ _ hin => (Nat.min_le_left _ _).trans hin.2.1

theorem zeroPart (id p c : Nat) : t.Kept (t.zeroPart id p c) := by
  unfold Stc.zeroPart
  split
  · exact refl t
  · next e he =>
    exact (foldl_zero (fun t k => t.addr id e (p * 16384 + k * 1024)) (fun _ k => min 1024 (c * 128 - k * 1024)) _ t).trans
      (withUsed _ id _ fun _ _ hin => Nat.max_le.2 ⟨hin.2.1, Nat.min_le_left _ _⟩)

variable {t} {u : Stc}

theorem cover {id p : Nat} (h : t.cover id p = some u) : t.Kept u where
  layout ht := ht.cover h
  sizes := by
    unfold Stc.cover at h
    grind [Stc.updEntry]
  opens {j e} he ho := by
    unfold Stc.cover at h
    split at h
    · cases h
    · split at h
      · cases h
      · split at h
        · cases h
          exact ⟨e, he, ho⟩
        · split at h
          · cases h
            exact Stc.opens_updEntry (fun _ => rfl) he ho
          · cases h

/-- An allocation, with the entry it makes: OPEN, at an id that was free. -/
theorem alloc {k : EntryKind} {extent id : Nat} {blank : Entry → Entry} (hblank : ∀ e, (blank e).SamePlace e)
    (h : t.alloc k extent blank = .ok (u, id)) :
    t.Kept u ∧ t.entry id = none ∧ ∃ e, u.entry id = some e ∧ e.open_ = true := by
  obtain ⟨-, hid, hu⟩ := Stc.alloc_eq_ok h
  obtain ⟨hlt, hfree⟩ := Stc.freeId_spec hid
  refine ⟨⟨fun ht => ht.alloc hblank h, ?_, fun {j e} he ho => ⟨e, ?_, ho⟩⟩, hfree,
    blank (t.newEntry k extent), ?_, ?_⟩
  · rw [hu]
    exact List.length_set ..
  · have hj : j ≠ id := by
      rintro rfl
      exact absurd (he.symm.trans hfree) nofun
    rwa [hu, Stc.entry_setEntry_eq hlt, if_neg hj]
  · rw [hu, Stc.entry_setEntry_eq hlt, if_pos rfl]
  · exact (hblank _).2.1

/-- One byte is appended where the entry has room (R124). -/
theorem appendByte {id : Nat} {e : Entry} (he : t.entry id = some e) (hroom : e.used < e.capacity) (h : Int × Nat)
    (b : Byte) : t.Kept (t.appendByte id h b)
      ∧ (t.appendByte id h b).entry id = some { e with used := e.used + 1 } := by
  have hwritten : ∀ v : Stc, t.Kept v → v.dir = t.dir → t.Kept ((v.writeByte (t.addr id e e.used) b).updEntry id
      fun e => { e with used := e.used + 1 })
      ∧ ((v.writeByte (t.addr id e e.used) b).updEntry id fun e => { e with used := e.used + 1 }).entry id
        = some { e with used := e.used + 1 } := by
    intro v hv hdir
    have hentry : (v.writeByte (t.addr id e e.used) b).entry id = some e := by
      rw [← he, Stc.entry, Stc.entry]
      exact congrArg (fun d => (d[id]?).join) hdir
    refine ⟨(hv.trans (writeByte v _ b)).trans (withUsed _ id _ fun f hf _ => ?_), ?_⟩
    · obtain rfl := Option.some.inj (hf.symm.trans hentry)
      exact hroom
    · exact Stc.entry_updEntry _ hentry
  simp only [Stc.appendByte, he]
  split
  · exact hwritten _ (writeHeader t ..) (Stc.writeBytes_dir ..)
  · exact hwritten t (refl t) rfl

/-- Bytes are appended as far as the entry has room (R124). -/
theorem appendBytes {id : Nat} (h : Int × Nat) (l : List Byte) : ∀ {t : Stc} {e : Entry}, t.entry id = some e →
    l.length ≤ e.capacity - e.used → t.Kept (l.foldl (fun t b => t.appendByte id h b) t) := by
  induction l with
  | nil => exact fun {t} _ _ _ => refl t
  | cons b r ih =>
    intro t e he hroom
    rw [List.length_cons] at hroom
    obtain ⟨hone, hentry⟩ := appendByte he (by omega) h b
    exact hone.trans (ih hentry (by omega : r.length ≤ e.capacity - (e.used + 1)))

end Stc.Kept

/-- The bound of a recording lies within the segment (R142). -/
theorem VoiceOp.bound_le (o : VoiceOp) (e : Entry) : o.bound e ≤ e.capacity := by
  have hcell : Config.voicePayload ≤ e.perCell := by
    unfold Entry.perCell
    split <;> decide
  exact (Nat.min_le_right _ _).trans (Nat.mul_le_mul_left _ hcell)

/-- A recording that has not reached its bound has room for the next byte (R142, R143). -/
def RecRun.sound (o : VoiceOp) (r : RecRun) : Prop :=
  r.full = false → ∀ e, r.stc.entry o.id = some e → e.used < o.bound e

theorem recSample_kept {o : VoiceOp} {r : RecRun} (x : Int) (hr : r.sound o) :
    r.stc.Kept (recSample o r x).stc ∧ (recSample o r x).sound o := by
  unfold recSample
  split
  · exact ⟨.refl _, hr⟩
  · next hfull =>
    split
    · exact ⟨.refl _, hr⟩
    · next e he =>
      have hroom := hr (Bool.eq_false_iff.2 hfull) e he
      dsimp only
      split
      · refine ⟨?_, fun _ f hf => ?_⟩
        · dsimp only
          split
          · exact .writeHeader ..
          · exact .refl _
        · have hf' : r.stc.entry o.id = some f := by
            dsimp only at hf
            split at hf
            · rwa [Stc.entry, Stc.writeHeader, Stc.writeBytes_dir] at hf
            · exact hf
          exact hr (Bool.eq_false_iff.2 hfull) f hf'
      · next k₀ _ =>
        have hentry : (r.stc.writeByte (r.stc.addr o.id e e.used) (byteOf k₀ (encodeSample r.coder x))).entry o.id
          = some e := he
        refine ⟨(Stc.Kept.writeByte ..).trans (.withUsed _ _ _ fun f hf _ => ?_), fun hroom' f hf => ?_⟩
        · obtain rfl := Option.some.inj (hf.symm.trans hentry)
          exact hroom.trans_le (o.bound_le f)
        · obtain rfl := Option.some.inj (hf.symm.trans (Stc.entry_updEntry _ hentry))
          exact not_le.1 (of_decide_eq_false hroom')

theorem recSamples_kept {o : VoiceOp} (l : List Int) : ∀ {r : RecRun}, r.sound o →
    r.stc.Kept (l.foldl (recSample o) r).stc := by
  induction l with
  | nil => exact fun _ => .refl _
  | cons x l ih =>
    intro r hr
    obtain ⟨hone, hsound⟩ := recSample_kept x hr
    exact hone.trans (ih hsound)

end Sys2Proof.Machine
end

section
/-! PROOFS. The tables, queues and link buffers, one by one (chapters 3, 6, 8, 11): what their operations do to the
conditions that O6 and O9 ask. -/

namespace Sys2Proof.Machine

open Sys2Proof

/-! ## Selections from a list -/

/-- A symmetric relation holds of the items selected from a list where it holds of any two selected at different
places. -/
theorem pairwise_filterMap_iff {α β : Type} {R : β → β → Prop} (hR : ∀ {a b}, R a b → R b a) (f : α → Option β)
    (l : List α) : (l.filterMap f).Pairwise R ↔
      ∀ (i j : Nat) (a b : β), i ≠ j → l[i]?.bind f = some a → l[j]?.bind f = some b → R a b := by
  rw [List.pairwise_filterMap, List.pairwise_iff_getElem]
  simp only [Option.bind_eq_some_iff]
  constructor
  · rintro h i j a b hij ⟨x, hx, ha⟩ ⟨y, hy, hb⟩
    obtain ⟨hi, rfl⟩ := List.getElem?_eq_some_iff.1 hx
    obtain ⟨hj, rfl⟩ := List.getElem?_eq_some_iff.1 hy
    rcases Nat.lt_or_gt_of_ne hij with hlt | hlt
    · exact h i j hi hj hlt a ha b hb
    · exact hR (h j i hj hi hlt b hb a ha)
  · exact fun h i j hi hj hlt a ha b hb => h i j a b (Nat.ne_of_lt hlt)
      ⟨_, List.getElem?_eq_getElem hi, ha⟩ ⟨_, List.getElem?_eq_getElem hj, hb⟩

/-! ## The call queue (R40, R42, R44, R46) -/

/-- The number of an entry record that is QUEUED. -/
def Gd.isQueued (g : Gd) (k : Nat) : Prop := ∃ r ∈ g.recs[k]?, r.st = .queued

/-- Another record at `k`: what of it, and of the others, is QUEUED. -/
theorem Gd.isQueued_set {g h : Gd} {k : Nat} {r : EntryRec} (hrecs : h.recs = g.recs.set k r) (j : Nat) :
    h.isQueued j ↔ if j = k then k < g.recs.length ∧ r.st = .queued else g.isQueued j := by
  unfold Gd.isQueued
  rw [hrecs, List.getElem?_set]
  by_cases hj : k = j
  · subst hj
    simp only [if_true]
    split <;> simp [*]
  · simp only [if_neg hj, if_neg (Ne.symm hj)]

/-- A record found in a state other than QUEUED. -/
theorem Gd.not_isQueued_of_findIdx {g : Gd} {k : Nat} {st : RecState} (h : g.recs.findIdx? (fun r => r.st == st) = some k)
    (hst : st ≠ .queued) : k < g.recs.length ∧ ¬ g.isQueued k := by
  obtain ⟨hlt, hk, -⟩ := List.findIdx?_eq_some_iff_getElem.1 h
  refine ⟨hlt, ?_⟩
  rintro ⟨r, hr, hqueued⟩
  obtain ⟨_, rfl⟩ := List.getElem?_eq_some_iff.1 hr
  exact hst ((beq_iff_eq.1 hk).symm.trans hqueued)

section
variable {g h : Gd} {k : Nat} {r : EntryRec} (hg : g.queueOk) (hrecs : h.recs = g.recs.set k r)
include hg hrecs

/-- A record leaves the queue as it leaves QUEUED. -/
theorem Gd.queueOk_leave (hqueue : h.queue = g.queue.filter fun x => x != k) (hr : r.st ≠ .queued) : h.queueOk := by
  obtain ⟨hlen, hnodup, hmem⟩ := hg
  refine ⟨by rw [hrecs, List.length_set, hlen], hqueue ▸ hnodup.filter _, fun j => ?_⟩
  refine .trans ?_ (Gd.isQueued_set hrecs j).symm
  rw [hqueue, List.mem_filter, hmem]
  by_cases hj : j = k
  · simp [hj, hr]
  · simp [hj, Gd.isQueued]

/-- A record that is not QUEUED takes another state that is not QUEUED. -/
theorem Gd.queueOk_stayOut (hqueue : h.queue = g.queue) (hout : ¬ g.isQueued k) (hr : r.st ≠ .queued) :
    h.queueOk := by
  obtain ⟨hlen, hnodup, hmem⟩ := hg
  refine ⟨by rw [hrecs, List.length_set, hlen], hqueue ▸ hnodup, fun j => ?_⟩
  refine .trans ?_ (Gd.isQueued_set hrecs j).symm
  rw [hqueue, hmem]
  by_cases hj : j = k
  · subst hj
    simp only [if_true]
    exact ⟨fun hin => absurd hin hout, fun hin => absurd hin.2 hr⟩
  · simp [hj, Gd.isQueued]

/-- A record joins the queue as it becomes QUEUED. -/
theorem Gd.queueOk_join (hqueue : h.queue.Perm (k :: g.queue)) (hlt : k < g.recs.length) (hout : ¬ g.isQueued k)
    (hr : r.st = .queued) : h.queueOk := by
  obtain ⟨hlen, hnodup, hmem⟩ := hg
  refine ⟨by rw [hrecs, List.length_set, hlen], ?_, fun j => ?_⟩
  · exact hqueue.nodup_iff.2 (List.nodup_cons.2 ⟨fun hin => hout ((hmem k).1 hin), hnodup⟩)
  · refine .trans ?_ (Gd.isQueued_set hrecs j).symm
    rw [hqueue.mem_iff, List.mem_cons, hmem]
    by_cases hj : j = k
    · simp [hj, hr, hlt]
    · simp [hj, Gd.isQueued]

end

/-- The records assigned to a line become FREE: the queue is as it was. -/
theorem Gd.queueOk_freed {g : Gd} (hg : g.queueOk) (i : LineNo) :
    ({ g with recs := g.recs.map fun r => if r.st = .assigned i then {} else r } : Gd).queueOk := by
  obtain ⟨hlen, hnodup, hmem⟩ := hg
  refine ⟨by rw [List.length_map, hlen], hnodup, fun j => (hmem j).trans ?_⟩
  dsimp only
  rw [List.getElem?_map]
  cases g.recs[j]? with
  | none => simp
  | some r =>
    simp only [Option.mem_def, Option.map_some, Option.some.injEq, exists_eq_left']
    by_cases hr : r.st = .assigned i <;> simp [hr]

/-- No record is QUEUED, and none waits. -/
theorem Gd.queueOk_reset {g : Gd} (hrecs : g.recs = List.replicate 8 {}) (hqueue : g.queue = []) : g.queueOk := by
  refine ⟨by rw [hrecs]; rfl, hqueue ▸ List.nodup_nil, fun j => ?_⟩
  rw [hqueue, hrecs]
  refine ⟨nofun, ?_⟩
  rintro ⟨r, hr, hst⟩
  obtain rfl := List.eq_of_mem_replicate (List.mem_of_getElem? hr)
  cases hst

/-! ## The Caller Table (R49, R50, R52, R53) -/

/-- The number at a position. -/
def Ct.numberAt (t : Ct) (k : Nat) : Option (List Byte) := t.table[k]?.bind fun e => e.map fun x => x.number

theorem Ct.numbersDiffer_iff {t : Ct} : t.numbersDiffer ↔
    ∀ i j m n, i ≠ j → t.numberAt i = some m → t.numberAt j = some n → m ≠ n :=
  pairwise_filterMap_iff (fun h => h.symm) _ _

/-- The numbers differ after a change of a table where they did, and the table keeps its size. -/
structure Ct.Kept (t u : Ct) : Prop where
  sizes : u.table.length = t.table.length
  differ : t.numbersDiffer → u.numbersDiffer

theorem Ct.Kept.refl (t : Ct) : t.Kept t := ⟨rfl, id⟩

theorem Ct.Kept.trans {t u v : Ct} (h : t.Kept u) (h' : u.Kept v) : t.Kept v :=
  ⟨h'.sizes.trans h.sizes, fun ht => h'.differ (h.differ ht)⟩

theorem Ct.Kept.foldl {α : Type} {f : Ct → α → Ct} (hf : ∀ (t : Ct) a, t.Kept (f t a)) (l : List α) :
    ∀ t : Ct, t.Kept (l.foldl f t) := by
  induction l with
  | nil => exact Ct.Kept.refl
  | cons a l ih => exact fun t => (hf t a).trans (ih _)

theorem Ct.numberAt_put (t : Ct) (k j : Nat) (e : Option CtEntry) :
    (t.put k e).numberAt j = if j = k ∧ k < t.table.length then e.map fun x => x.number else t.numberAt j := by
  unfold Ct.numberAt Ct.put
  by_cases hj : k = j
  · subst hj
    by_cases hk : k < t.table.length
    · simp [hk]
    · simp [hk]
  · simp [List.getElem?_set_ne hj, Ne.symm hj]

/-- A position is written with a number that no other position holds, or with none. -/
theorem Ct.put_kept {t : Ct} {k : Nat} {e : Option CtEntry}
    (he : ∀ n j, e.map (fun x => x.number) = some n → j ≠ k → t.numberAt j ≠ some n) : t.Kept (t.put k e) := by
  refine ⟨List.length_set .., fun ht => Ct.numbersDiffer_iff.2 fun i j m n hij hm hn => ?_⟩
  rw [Ct.numberAt_put] at hm hn
  split at hm
  · next hi =>
    rw [if_neg (fun hj => hij (hi.1.trans hj.1.symm))] at hn
    rintro rfl
    exact he m j hm (fun hj => hij (hi.1.trans hj.symm)) hn
  · split at hn
    · next hj =>
      rintro rfl
      exact he m i hn (fun hi => hij (hi.trans hj.1.symm)) hm
    · exact Ct.numbersDiffer_iff.1 ht i j m n hij hm hn

theorem Ct.put_none_kept (t : Ct) (k : Nat) : t.Kept (t.put k none) := Ct.put_kept nofun

/-- A number that is not found stands at no position. -/
theorem Ct.numberAt_ne_of_find {t : Ct} {n : List Byte} (h : t.find n = none) (j : Nat) : t.numberAt j ≠ some n := by
  intro hj
  obtain ⟨x, hx, hn⟩ := Option.bind_eq_some_iff.1 hj
  obtain ⟨e, rfl, hen⟩ := Option.map_eq_some_iff.1 hn
  have hfind := List.findIdx?_eq_none_iff.1 h (some e) (List.mem_of_getElem? hx)
  simp only [beq_eq_false_iff_ne] at hfind
  exact hfind hen

/-- A new number takes a position. -/
theorem Ct.put_new_kept {t : Ct} {e : CtEntry} (h : t.find e.number = none) (k : Nat) : t.Kept (t.put k (some e)) :=
  Ct.put_kept fun n j hn _ => by
    obtain rfl : e.number = n := Option.some.inj hn
    exact Ct.numberAt_ne_of_find h j

/-- An entry is written over with its own number. -/
theorem Ct.put_same_kept {t : Ct} {k : Nat} {e x : CtEntry} (h : (t.table[k]?).join = some e)
    (hx : x.number = e.number) : t.Kept (t.put k (some x)) := by
  refine ⟨List.length_set .., fun ht => (Ct.put_kept fun n j hn hj hjn => ?_).differ ht⟩
  have hk : t.numberAt k = some n := by
    obtain ⟨y, hy, rfl⟩ : ∃ y, t.table[k]? = some y ∧ y = some e := by simpa [Option.join_eq_some_iff] using h
    rw [Ct.numberAt, hy, ← hn]
    exact congrArg some hx.symm
  exact Ct.numbersDiffer_iff.1 ht j k n n hj hjn hk rfl

theorem Ct.lookup_kept (t : Ct) (n : List Byte) : t.Kept (t.lookup n).1 := by
  unfold Ct.lookup
  split
  · split
    · next hat => exact Ct.put_same_kept hat rfl
    · exact .refl t
  · next hfind =>
    split
    · exact Ct.put_new_kept hfind _
    · exact .refl t

theorem Ct.addEntry_kept {t u : Ct} {n l : List Byte} {c : CallerClass} {k : Nat}
    (h : t.addEntry n c l = some (u, k)) : t.Kept u := by
  unfold Ct.addEntry at h
  split at h
  · split at h
    · next hat =>
      cases h
      exact Ct.put_same_kept hat rfl
    · cases h
  · next hfind =>
    obtain ⟨p, -, hp⟩ := Option.map_eq_some_iff.1 h
    obtain ⟨rfl, -⟩ := Prod.mk.inj hp
    exact Ct.put_new_kept hfind p

theorem Ct.placeStatic_kept (t : Ct) (c : StaticCaller) : t.Kept (t.placeStatic c) := by
  unfold Ct.placeStatic
  split
  · exact Ct.addEntry_kept ‹_›
  · exact .refl t

theorem Ct.rebuild_kept (t : Ct) (c : StaticCaller) : t.Kept (t.rebuild c) := by
  unfold Ct.rebuild
  split
  · exact .refl t
  · next hnew =>
    split
    · exact Ct.put_new_kept (Option.not_isSome_iff_eq_none.1 fun hsome => hnew (.inr hsome)) _
    · exact .refl t

/-! ## The block link (R83, R84, R85, R88, R89) -/

/-- The sequence numbers of `n` blocks up to the next one to send. -/
def seqsBefore (vs n : Nat) : List Nat := (List.range n).map fun k => (vs + 128 - n + k) % 128

theorem seqsBefore_succ {vs n : Nat} (hvs : vs < 128) (hn : n < 15) :
    seqsBefore ((vs + 1) % 128) (n + 1) = seqsBefore vs n ++ [vs] := by
  unfold seqsBefore
  rw [List.range_succ, List.map_append]
  refine congrArg₂ (· ++ ·) (List.map_congr_left fun k hk => ?_) ?_
  · have hlt := List.mem_range.1 hk
    omega
  · simp only [List.map_cons, List.map_nil, List.cons.injEq, and_true]
    omega

theorem seqsBefore_drop {vs n : Nat} (m : Nat) (hn : n ≤ 15) :
    (seqsBefore vs n).drop m = seqsBefore vs (n - m) := by
  refine List.ext_getElem (by simp [seqsBefore]) fun k hk hk' => ?_
  simp only [seqsBefore, List.getElem_drop, List.getElem_map, List.getElem_range]
  simp only [seqsBefore, List.length_map, List.length_range] at hk'
  omega

section
variable {b c : Blc} (hb : b.inBounds)
include hb

theorem Blc.tx_le : b.tx.length ≤ 2048 := hb.1

theorem Blc.rx_le : b.rx.length ≤ 2048 := hb.2.1

theorem Blc.unacked_eq_nil (hup : b.link ≠ .up) (hsusp : b.link ≠ .suspended) : b.unacked = [] := by
  obtain ⟨-, -, -, -, -, -, hempty, -⟩ := hb
  exact hempty hup hsusp

/-- Buffers no longer, the same list and the same numbers: what most changes of the link amount to. -/
theorem Blc.inBounds_congr (htx : c.tx.length ≤ b.tx.length) (hrx : c.rx.length ≤ b.rx.length)
    (hseqs : (c.unacked.map fun k => k.seq) = b.unacked.map fun k => k.seq) (hwindow : c.window = b.window)
    (hvs : c.vs = b.vs) (hlink : c.link ≠ .up → c.link ≠ .suspended → b.link ≠ .up ∧ b.link ≠ .suspended)
    (htry : (b.link ≠ .setup → b.tryDue = none) → c.link ≠ .setup → c.tryDue = none) : c.inBounds := by
  obtain ⟨htx', hrx', hle, hle', hlt, hnumbers, hempty, htry'⟩ := hb
  have hlen : c.unacked.length = b.unacked.length := by simpa using congrArg List.length hseqs
  refine ⟨htx.trans htx', hrx.trans hrx', hlen ▸ hwindow ▸ hle, hwindow ▸ hle', hvs ▸ hlt, ?_, fun hup hsusp => ?_,
    htry htry'⟩
  · rw [hseqs, hnumbers, hlen, hvs]
  · obtain ⟨hup', hsusp'⟩ := hlink hup hsusp
    rw [← List.length_eq_zero_iff, hlen, hempty hup' hsusp']
    rfl

theorem Blc.inBounds_withTx {l : List Byte} (hl : l.length ≤ 2048) : ({ b with tx := l } : Blc).inBounds := by
  obtain ⟨-, hrest⟩ := hb
  exact ⟨hl, hrest⟩

theorem Blc.inBounds_withRx {l : List Byte} (hl : l.length ≤ 2048) : ({ b with rx := l } : Blc).inBounds := by
  obtain ⟨htx, -, hrest⟩ := hb
  exact ⟨htx, hl, hrest⟩

/-- A new block joins an unacknowledged list with room, the link being UP (R88). -/
theorem Blc.inBounds_newBlock (hup : b.link = .up) (hroom : ¬ b.window ≤ b.unacked.length) {x : Block}
    (hx : x.seq = b.vs) {r : Option Nat} {m : Option LinkMsg} :
    ({ b with
      tx := b.tx.drop b.block, unacked := b.unacked ++ [x], vs := (b.vs + 1) % 128
      retryDue := r, transmitting := m } : Blc).inBounds := by
  obtain ⟨htx, hrx, -, hwin, hvs, hseqs, -, htry⟩ := hb
  refine ⟨?_, hrx, ?_, hwin, Nat.mod_lt _ (by decide), ?_, fun hne => absurd hup hne, htry⟩
  · simp only [List.length_drop]
    omega
  · simp only [List.length_append, List.length_singleton]
    omega
  · simp only [List.map_append, List.map_cons, List.map_nil, hseqs, hx, List.length_append, List.length_singleton]
    exact (seqsBefore_succ hvs (by omega)).symm

/-- Acknowledged blocks leave the front of the list (R89). -/
theorem Blc.inBounds_drop (m : Nat) (r : Option Nat) :
    ({ b with unacked := b.unacked.drop m, resend := r } : Blc).inBounds := by
  obtain ⟨htx, hrx, hle, hwin, hvs, hseqs, hempty, htry⟩ := hb
  refine ⟨htx, hrx, ?_, hwin, hvs, ?_, fun hup hsusp => ?_, htry⟩
  · simp only [List.length_drop]
    omega
  · simp only [List.map_drop, hseqs, List.length_drop]
    exact seqsBefore_drop m (hle.trans hwin)
  · simp only [hempty hup hsusp, List.drop_nil]

theorem Blc.inBounds_cleanBlock : b.cleanBlock.inBounds := by
  unfold Blc.cleanBlock
  split
  · exact hb
  · split <;> exact hb

theorem Blc.inBounds_halve : b.halve.inBounds := by
  unfold Blc.halve
  split <;> exact hb

theorem Blc.inBounds_place (m : Sup) : (b.place m).inBounds := by
  unfold Blc.place
  split
  · split <;> exact hb
  · exact hb

theorem Blc.inBounds_bySup (kind : SupKind) (n : Nat) : (b.bySup kind n).inBounds := by
  unfold Blc.bySup
  cases kind
  · dsimp only
    split <;> exact hb
  · exact hb
  · exact hb

end

theorem Blc.inBounds_cleanBlocks (l : List Block) : ∀ {b : Blc}, b.inBounds → (b.cleanBlocks l).inBounds := by
  induction l with
  | nil => exact fun hb => hb
  | cons k r ih =>
    intro b hb
    refine ih ?_
    split
    · exact Blc.inBounds_cleanBlock hb
    · exact hb

theorem Blc.inBounds_removeAcked {b : Blc} (hb : b.inBounds) (n : Nat) : (b.removeAcked n).inBounds :=
  Blc.inBounds_cleanBlocks _ (Blc.inBounds_drop hb _ _)

/-- A link with empty buffers and no try. -/
theorem Blc.inBounds_fresh {b : Blc} (htx : b.tx = []) (hrx : b.rx.length ≤ 2048) (hunacked : b.unacked = [])
    (hwindow : b.window ≤ 15) (hvs : b.vs < 128) (htry : b.link ≠ .setup → b.tryDue = none) : b.inBounds := by
  refine ⟨by rw [htx]; exact Nat.zero_le _, hrx, by rw [hunacked]; exact Nat.zero_le _, hwindow, hvs, ?_,
    fun _ _ => hunacked, htry⟩
  rw [hunacked]
  rfl

/-! ## The RECORD slots (R122, R123) -/

/-- A slot holds an entry with RECORD. -/
def State.recordsAt (s : State) (i k : LineNo) (id : Nat) : Prop :=
  (s.line i).window.get k = some { id := id, right := .record }

/-- The entry that a slot holds with RECORD, if there is one. -/
def State.recordAt (s : State) (p : LineNo × LineNo) : Option Nat :=
  ((s.line p.1).window.get p.2).bind fun a : Attach => if a.right = .record then some a.id else none

theorem State.recordsAt_iff {s : State} {i k : LineNo} {id : Nat} :
    s.recordsAt i k id ↔ s.recordAt (i, k) = some id := by
  unfold State.recordsAt State.recordAt
  cases (s.line i).window.get k with
  | none => simp
  | some a =>
    obtain ⟨id', right⟩ := a
    cases right <;> simp

/-- The places of the windows. -/
def slotPlaces : List (LineNo × LineNo) := lineNos.flatMap fun i => lineNos.map fun k => (i, k)

theorem State.recorded_eq (s : State) : s.recorded = slotPlaces.filterMap s.recordAt := by
  simp only [State.recorded, slotPlaces, List.filterMap_flatMap, List.filterMap_map, Function.comp_def, State.recordAt]

theorem State.mem_recorded {s : State} {id : Nat} : id ∈ s.recorded ↔ ∃ i k, s.recordsAt i k id := by
  simp only [State.recorded, List.mem_flatMap, List.mem_filterMap, mem_lineNos, true_and, State.recordsAt_iff,
    State.recordAt]

theorem State.recorded_nodup_iff {s : State} : s.recorded.Nodup ↔
    ∀ i k i' k' id, s.recordsAt i k id → s.recordsAt i' k' id → i = i' ∧ k = k' := by
  have hmem : ∀ p, p ∈ slotPlaces := by decide
  rw [State.recorded_eq, List.Nodup, List.pairwise_filterMap]
  constructor
  · intro h i k i' k' id hik hik'
    by_contra hne
    have hsymm : Std.Symm fun p q => ∀ x, s.recordAt p = some x → ∀ y, s.recordAt q = some y → x ≠ y :=
      ⟨fun _ _ hab x hx y hy => (hab y hy x hx).symm⟩
    exact h.forall (hmem (i, k)) (hmem (i', k')) (fun heq => hne (Prod.mk.inj heq)) id (State.recordsAt_iff.1 hik) id
      (State.recordsAt_iff.1 hik') rfl
  · intro h
    refine List.Nodup.pairwise_of_forall_ne (by decide) fun p _ q _ hne x hx y hy hxy => hne ?_
    subst hxy
    obtain ⟨h₁, h₂⟩ := h _ _ _ _ x (State.recordsAt_iff.2 hx) (State.recordsAt_iff.2 hy)
    exact Prod.ext h₁ h₂

theorem State.recordersOk_iff {s : State} : s.recordersOk ↔
    (∀ i k i' k' id, s.recordsAt i k id → s.recordsAt i' k' id → i = i' ∧ k = k')
      ∧ ∀ i k id, s.recordsAt i k id → ∃ e, s.stc.entry id = some e ∧ e.open_ = true := by
  simp only [State.recordersOk, State.recorded_nodup_iff, State.mem_recorded, Option.mem_def]
  exact and_congr_right fun _ => ⟨fun h i k id hik => h id ⟨i, k, hik⟩, fun h id ⟨i, k, hik⟩ => h i k id hik⟩

end Sys2Proof.Machine
end

section
/-! PROOFS. The sizes of queues, buffers and tables, and the layout of the store, at every step: O6 and O9. The relation
that every operation of the model stands in, block by block, then the commands and the obligations. -/

namespace Sys2Proof.Machine

open Sys2Proof

/-! ## The windows (R120 to R123) -/

theorem State.recordsAt_setSlot {s : State} {i slot j k : LineNo} {a : Option Attach} {id : Nat} :
    (s.setSlot i slot a).recordsAt j k id ↔
      if j = i ∧ k = slot then a = some { id := id, right := .record } else s.recordsAt j k id := by
  unfold State.recordsAt State.setSlot
  rw [State.line_upd]
  by_cases hj : j = i
  · subst hj
    by_cases hk : k = slot
    · subst hk
      simp
    · simp [hk]
  · simp [hj]

theorem State.recordsAt_emptySlots {s : State} {p : Attach → Bool} {j k : LineNo} {id : Nat} :
    (s.emptySlots p).recordsAt j k id ↔ s.recordsAt j k id ∧ p { id := id, right := .record } = false := by
  unfold State.recordsAt State.emptySlots
  simp only [State.line, Four.get_map]
  cases (s.lines.get j).window.get k with
  | none => simp
  | some a =>
    cases hp : p a <;> simp only [hp, Bool.false_eq_true, if_false, if_true]
    · exact ⟨fun h => ⟨h, Option.some.inj h ▸ hp⟩, fun h => h.1⟩
    · refine ⟨nofun, fun ⟨h, hne⟩ => ?_⟩
      cases Option.some.inj h
      exact absurd (hp.symm.trans hne) nofun

/-- A slot is written with an entry that no other slot holds with RECORD, and that is OPEN, or without RECORD. -/
theorem State.recordersOk_setSlot {s : State} {i slot : LineNo} {a : Option Attach} (hs : s.recordersOk)
    (ha : ∀ id, a = some { id := id, right := .record } → (∀ j k, s.recordsAt j k id → j = i ∧ k = slot)
      ∧ ∃ e, s.stc.entry id = some e ∧ e.open_ = true) : (s.setSlot i slot a).recordersOk := by
  obtain ⟨honce, hopen⟩ := State.recordersOk_iff.1 hs
  refine State.recordersOk_iff.2 ⟨fun j k j' k' id hjk hjk' => ?_, fun j k id hjk => ?_⟩
  · rw [State.recordsAt_setSlot] at hjk hjk'
    split at hjk <;> split at hjk'
    · next hthis hother => exact ⟨hthis.1.trans hother.1.symm, hthis.2.trans hother.2.symm⟩
    · next hthis hother => exact absurd ((ha id hjk).1 j' k' hjk') hother
    · next hother hthis => exact absurd ((ha id hjk').1 j k hjk) hother
    · exact honce j k j' k' id hjk hjk'
  · rw [State.recordsAt_setSlot] at hjk
    split at hjk
    · exact (ha id hjk).2
    · exact hopen j k id hjk

/-- With every window empty no entry is held with RECORD. -/
theorem State.recordersOk_of_emptied {s : State} (h : ∀ j, (s.line j).window = Four.all none) : s.recordersOk := by
  have hnone : ∀ j k id, ¬ s.recordsAt j k id := fun j k id hjk => by
    rw [State.recordsAt, h, Four.get_all] at hjk
    cases hjk
  exact State.recordersOk_iff.2 ⟨fun j k _ _ id hjk _ => absurd hjk (hnone j k id),
    fun j k id hjk => absurd hjk (hnone j k id)⟩

/-- The window of a line is emptied, the others stay. -/
theorem State.recordersOk_upd_emptied {s : State} {i : LineNo} {f : Line → Line} (hs : s.recordersOk)
    (hf : ∀ l, (f l).window = Four.all none) : (s.upd i f).recordersOk := by
  have hat : ∀ {j k id}, (s.upd i f).recordsAt j k id → s.recordsAt j k id := fun {j k id} hjk => by
    unfold State.recordsAt at hjk ⊢
    rw [State.line_upd] at hjk
    split at hjk
    · rw [hf, Four.get_all] at hjk
      cases hjk
    · exact hjk
  obtain ⟨honce, hopen⟩ := State.recordersOk_iff.1 hs
  exact State.recordersOk_iff.2 ⟨fun j k j' k' id hjk hjk' => honce j k j' k' id (hat hjk) (hat hjk'),
    fun j k id hjk => hopen j k id (hat hjk)⟩

/-- Why a delete is carried out (R121). -/
theorem State.deleteRefusal_eq_none {s : State} {id : Nat} {e : Entry} (h : s.deleteRefusal id e = none) :
    e.open_ = false ∧ e.moving = false := by
  unfold State.deleteRefusal at h
  split at h
  · cases h
  · next hopen =>
    split at h
    · cases h
    · next hmoving => exact ⟨Bool.eq_false_iff.2 hopen, Bool.eq_false_iff.2 hmoving⟩

/-! ## The windows at a soft reset (R122, R132) -/

/-- The windows of the lines. -/
def State.windows (s : State) (j : LineNo) : Four (Option Attach) := (s.line j).window

theorem State.windows_upd (s : State) (i : LineNo) {f : Line → Line} (hf : ∀ l, (f l).window = l.window) :
    (s.upd i f).windows = s.windows :=
  funext fun j => s.line_upd_part i j f (fun l => l.window) hf

@[simp] theorem State.updLif_windows (s : State) (i : LineNo) (f : Lif → Lif) : (s.updLif i f).windows = s.windows :=
  s.windows_upd i fun _ => rfl

@[simp] theorem State.raise_windows (s : State) (k : Notice) (i : LineNo) : (s.raise k i).windows = s.windows := rfl

@[simp] theorem State.updCc_windows (s : State) (i : LineNo) (f : Cc → Cc) : (s.updCc i f).windows = s.windows :=
  s.windows_upd i fun _ => rfl

@[simp] theorem State.updTu_windows (s : State) (i : LineNo) (f : Tu → Tu) : (s.updTu i f).windows = s.windows :=
  s.windows_upd i fun _ => rfl

@[simp] theorem State.toIdle_windows (s : State) (i : LineNo) : (s.toIdle i).windows = s.windows := by
  unfold State.toIdle
  exact (State.windows_upd _ i (by exact fun _ => rfl)).trans (s.updCc_windows i _)

@[simp] theorem State.ccClears_windows (s : State) (i : LineNo) (r : EndReason) :
    (s.ccClears i r).windows = s.windows := s.updCc_windows i _

@[simp] theorem State.release_windows (s : State) (i : LineNo) : (s.release i).windows = s.windows := by
  unfold State.release
  split
  · rfl
  · exact s.updLif_windows i _

@[simp] theorem State.endActs_windows (s : State) (i : LineNo) (a : List Activity) :
    (s.endActs i a).windows = s.windows := by
  refine .trans ?_ (s.windows_upd i (f := fun l => { l with acts := l.acts.filter fun x => !a.contains x }) fun _ => rfl)
  unfold State.endActs
  dsimp only
  split <;> rfl

@[simp] theorem State.closeClid_windows (s : State) (i : LineNo) : (s.closeClid i).windows = s.windows := by
  unfold State.closeClid
  split
  · rfl
  · next w _ =>
    have hended : ((s.updTu i fun t => { t with clid := none }).endActs i [.clid]).windows = s.windows := by simp
    refine .trans ?_ hended
    dsimp only
    split <;> rfl

@[simp] theorem State.recomputeGroups_windows (s : State) : s.recomputeGroups.windows = s.windows := by
  unfold State.recomputeGroups
  dsimp only
  split <;> rfl

@[simp] theorem State.applyResult_windows (s : State) (i : LineNo) (good : Bool) :
    (s.applyResult i good).windows = s.windows := by
  unfold State.applyResult
  dsimp only
  split
  · exact s.updLif_windows i _
  · rw [State.recomputeGroups_windows, State.raise_windows]
    exact s.updLif_windows i _

theorem State.softCheck_windows (s : State) (i : LineNo) : (s.softCheck i).windows = s.windows := by
  unfold State.softCheck
  split
  · exact s.applyResult_windows i _
  · rfl

theorem State.softLif_windows (s : State) (i : LineNo) : (s.softLif i).windows = s.windows :=
  (State.updLif_windows _ i _).trans (s.release_windows i)

theorem State.softCc_windows (s : State) (i : LineNo) : (s.softCc i).windows = s.windows := by
  unfold State.softCc
  simp only [State.updTu_windows, State.updCc_windows]
  split
  · simp
  · split <;> simp

/-- The window of the line is emptied, the others stay. -/
theorem State.softLine_windows (s : State) (i j : LineNo) :
    (s.softLine i).windows j = if j = i then Four.all none else s.windows j := by
  have hbefore : (((s.softCheck i).softLif i).softCc i).windows = s.windows := by
    rw [State.softCc_windows, State.softLif_windows, State.softCheck_windows]
  rw [← hbefore, State.softLine, State.softBlocks]
  dsimp only [State.windows]
  rw [State.line_upd]
  split <;> rfl

/-- A soft reset leaves every window empty. -/
theorem State.softLines_windows (s : State) : s.softLines.windows = fun _ => Four.all none := by
  funext j
  simp only [State.softLines, lineNos, List.foldl_cons, List.foldl_nil, State.softLine_windows]
  fin_cases j <;> rfl

/-! ## Links, replies and settings -/

/-- The judgement of a span of blocks leaves the link within its bounds (R90). -/
theorem Blc.inBounds_judge {b : Blc} (hb : b.inBounds) :
    (if 8 ≤ b.spanResends then b.halve else { b with spanCount := 0, spanResends := 0 }).inBounds := by
  split
  · exact Blc.inBounds_halve hb
  · exact hb

theorem State.settingTakes_outer (s : State) (code : Nat) (old : Settings) :
    (s.settingTakes code old).outer = s.outer := by
  unfold State.settingTakes
  split
  · exact (State.outer_foldl _ (fun t i => t.lineEvent_outer i) _ _).trans s.recomputeGroups_outer
  · rfl
  · rfl

/-- From `p` to `q`, no record and no reply joins a queue. -/
def Lp.NoMore (p q : Lp) : Prop := q.inbound.length ≤ p.inbound.length ∧ q.replies.length ≤ p.replies.length

theorem Lp.NoMore.refl (p : Lp) : p.NoMore p := ⟨le_rfl, le_rfl⟩

theorem State.noMore_of_outer {s t : State} (h : t.outer = s.outer) : s.lp.NoMore t.lp := by
  obtain ⟨-, -, hlp, -⟩ := State.outer_eq h
  exact hlp ▸ .refl _

theorem onPart_noMore {s : State} {line : Nat} {a : Answer} (h : s.lp.NoMore a.state.lp) :
    s.lp.NoMore (onPart s line a).state.lp := by
  unfold onPart
  split
  · exact h
  · exact .refl _

theorem MaskSetting.foldl_apply_length (l : List MaskSetting) : ∀ n : List NoticeCfg,
    (l.foldl (fun n m => m.apply n) n).length = n.length := by
  induction l with
  | nil => exact fun _ => rfl
  | cons m l ih => exact fun n => (ih _).trans (List.length_modify ..)

theorem Settings.apply_notices_length {t : Settings} (code : Nat) (c : List Byte) (h : t.notices.length = 19) :
    (t.apply code c).notices.length = 19 := by
  unfold Settings.apply
  split
  case h_2 => split <;> exact h
  case h_4 => exact List.length_map ..
  all_goals exact h

theorem Settings.walk_notices_length (fuel : Nat) {t : Settings} (l : List Byte) (h : t.notices.length = 19) :
    (t.walk fuel l).notices.length = 19 := by
  induction fuel generalizing t l with
  | zero => exact h
  | succ fuel ih =>
    unfold Settings.walk
    split
    · exact h
    · split
      · exact h
      · split
        · exact h
        · refine ih _ ?_
          split
          · exact Settings.apply_notices_length _ _ h
          · exact h

theorem judgeImage_notices_length (e : Eeprom) (read : Option (List Byte)) :
    (judgeImage e read).1.notices.length = 19 := by
  unfold judgeImage
  split
  · rfl
  · split
    · split
      · exact Settings.walk_notices_length _ _ rfl
      · rfl
    · rfl

theorem Sl.saved_live (l : Sl) (b : List Byte) (r : SaveEnd) : (l.saved b r).live = l.live := by
  cases r <;> rfl

/-- A try is timed in SETUP alone (R83). -/
theorem Blc.setup_of_tryDue {b : Blc} (hb : b.inBounds) {d : Nat} (htry : b.tryDue = some d) : b.link = .setup := by
  obtain ⟨-, -, -, -, -, -, -, hsetup⟩ := hb
  by_contra hne
  exact absurd (htry.symm.trans (hsetup hne)) nofun

/-- A line's digit queue and link within their bounds (R31, R83 to R85, R88). -/
def Line.buffersOk (l : Line) : Prop := l.tu.digits.length ≤ 16 ∧ l.blc.inBounds

/-- From `s` to `t`, with no reset between, no queue, buffer or table leaves its bounds. -/
structure State.Upholds (s t : State) : Prop where
  phase : t.phase = s.phase
  queues : s.queuesBounded → t.queuesBounded
  events : s.nu.queueEvents.length ≤ 8 → t.nu.queueEvents.length ≤ 8
  lines : (∀ i, (s.line i).buffersOk) → ∀ i, (t.line i).buffersOk
  callQueue : s.gd.queueOk → t.gd.queueOk
  pending : s.pendingOnce → t.pendingOnce
  tables : s.shaped → t.shaped
  callers : s.ct.numbersDiffer → t.ct.numbersDiffer
  recorders : s.recordersOk → t.recordersOk
  store : s.stc.Layout → t.stc.Layout

namespace State.Upholds

theorem refl (s : State) : s.Upholds s := ⟨rfl, id, id, id, id, id, id, id, id, id⟩

variable {s₀ s t : State}

theorem ite {c : Prop} [Decidable c] {a b : State} (ha : s₀.Upholds a) (hb : s₀.Upholds b) :
    s₀.Upholds (if c then a else b) := by
  split
  · exact ha
  · exact hb

theorem foldl {α : Type} {f : State → α → State} (hf : ∀ {u : State} (a : α), s₀.Upholds u → s₀.Upholds (f u a))
    (l : List α) (h : s₀.Upholds s) : s₀.Upholds (l.foldl f s) := by
  induction l generalizing s with
  | nil => exact h
  | cons a l ih => exact ih (hf a h)

/-- A change of one line whose buffers stay within their bounds, and of its window so that the RECORD slots stay good. -/
theorem updLine (h : s₀.Upholds s) (i : LineNo) (f : Line → Line)
    (hbuffers : (∀ j, (s₀.line j).buffersOk) → (s.line i).buffersOk → (f (s.line i)).buffersOk)
    (hwindow : s₀.recordersOk → s.recordersOk → (s.upd i f).recordersOk) : s₀.Upholds (s.upd i f) where
  phase := h.phase
  queues := h.queues
  events := h.events
  lines hs j := by
    rw [State.line_upd]
    split
    · exact hbuffers hs (h.lines hs i)
    · exact h.lines hs j
  callQueue := h.callQueue
  pending := h.pending
  tables := h.tables
  callers := h.callers
  recorders hs := hwindow hs (h.recorders hs)
  store := h.store

/-- The RECORD slots of a state with the same windows, whose store keeps its OPEN entries. -/
theorem recordersOk_of_windows (hwindow : ∀ j, (t.line j).window = (s.line j).window)
    (hopens : ∀ {id e}, s.stc.entry id = some e → e.open_ = true → ∃ f, t.stc.entry id = some f ∧ f.open_ = true)
    (hs : s.recordersOk) : t.recordersOk := by
  have hat : ∀ j k id, t.recordsAt j k id ↔ s.recordsAt j k id := fun j k id => by
    rw [State.recordsAt, State.recordsAt, hwindow]
  obtain ⟨honce, hopen⟩ := State.recordersOk_iff.1 hs
  simp only [State.recordersOk_iff, hat]
  refine ⟨honce, fun j k id hjk => ?_⟩
  obtain ⟨e, he, ho⟩ := hopen j k id hjk
  exact hopens he ho

section
variable (h : s₀.Upholds s)
include h

/-- A change of nothing that the bounds are of: the clock, the part-wide counters, the cause of the last reset. -/
theorem same (hphase : t.phase = s.phase) (hlp : t.lp = s.lp) (hnu : t.nu = s.nu) (hlines : t.lines = s.lines)
    (hgd : t.gd = s.gd) (hbm : t.bm = s.bm) (hsl : t.sl = s.sl) (hct : t.ct = s.ct) (hstc : t.stc = s.stc) :
    s₀.Upholds t := by
  obtain ⟨⟩ := s
  obtain ⟨⟩ := t
  subst hphase hlp hnu hlines hgd hbm hsl hct hstc
  exact ⟨h.phase, h.queues, h.events, h.lines, h.callQueue, h.pending, h.tables, h.callers, h.recorders, h.store⟩

theorem withCnt {c : PartCounters} : s₀.Upholds { s with cnt := c } := h.same rfl rfl rfl rfl rfl rfl rfl rfl rfl
theorem reach {d : Nat} : s₀.Upholds (s.reach d) := h.same rfl rfl rfl rfl rfl rfl rfl rfl rfl

/-- The pending list loses admissions, if anything. -/
theorem withBm {b : Bm} (hlist : List.Sublist b.plist s.bm.plist) :
    s₀.Upholds { s with bm := b } where
  __ := h
  pending hs := (h.pending hs).sublist (hlist.map _)

theorem withGd {g : Gd} (hqueue : s.gd.queueOk → g.queueOk)
    (hsize : g.recs.length = s.gd.recs.length) : s₀.Upholds { s with gd := g } where
  __ := h
  callQueue hs := hqueue (h.callQueue hs)
  tables hs := by
    obtain ⟨hflags, hrecs, hdir, htable, hnotices⟩ := h.tables hs
    exact ⟨hflags, hsize.trans hrecs, hdir, htable, hnotices⟩

theorem withCt {c : Ct} (hc : s.ct.Kept c) : s₀.Upholds { s with ct := c } where
  __ := h
  callers hs := hc.differ (h.callers hs)
  tables hs := by
    obtain ⟨hflags, hrecs, hdir, htable, hnotices⟩ := h.tables hs
    exact ⟨hflags, hrecs, hdir, hc.sizes.trans htable, hnotices⟩

theorem withStc {t : Stc} (ht : s.stc.Kept t) : s₀.Upholds { s with stc := t } where
  __ := h
  tables hs := by
    obtain ⟨hflags, hrecs, hdir, htable, hnotices⟩ := h.tables hs
    exact ⟨hflags, hrecs, ht.sizes.trans hdir, htable, hnotices⟩
  recorders hs := recordersOk_of_windows (s := s) (fun _ => rfl) (fun he ho => ht.opens he ho) (h.recorders hs)
  store hs := ht.layout (h.store hs)

theorem withLp {p : Lp} (hp : s.queuesBounded → p.inbound.length ≤ 4 ∧ p.replies.length ≤ 8) :
    s₀.Upholds { s with lp := p } where
  __ := h
  queues hs := hp (h.queues hs)

theorem withSl {l : Sl} (hl : s.sl.live.notices.length = 19 → l.live.notices.length = 19) :
    s₀.Upholds { s with sl := l } where
  __ := h
  tables hs := by
    obtain ⟨hflags, hrecs, hdir, htable, hnotices⟩ := h.tables hs
    exact ⟨hflags, hrecs, hdir, htable, hl hnotices⟩

theorem withEvents {l : List QEvent} (hl : s.nu.queueEvents.length ≤ 8 → l.length ≤ 8) :
    s₀.Upholds { s with nu := { s.nu with queueEvents := l } } where
  __ := h
  events hs := hl (h.events hs)

theorem setFlag {k : Notice} {i : LineNo} {b : Bool} : s₀.Upholds (s.setFlag k i b) where
  __ := h
  tables hs := by
    obtain ⟨hflags, hrecs, hdir, htable, hnotices⟩ := h.tables hs
    exact ⟨(List.length_modify ..).trans hflags, hrecs, hdir, htable, hnotices⟩

theorem raise {k : Notice} {i : LineNo} : s₀.Upholds (s.raise k i) := h.setFlag
theorem raisePart {k : Notice} : s₀.Upholds (s.raisePart k) := h.setFlag

end

section
variable (h : s₀.Upholds s) (i : LineNo)
include h

/-- A change of one line that leaves its window, its buffers staying within their bounds. -/
theorem updBuffers {f : Line → Line} (hf : (∀ j, (s₀.line j).buffersOk) → (s.line i).buffersOk → (f (s.line i)).buffersOk)
    (hwindow : (f (s.line i)).window = (s.line i).window) : s₀.Upholds (s.upd i f) :=
  h.updLine i f hf <| fun _ => recordersOk_of_windows (fun j => by
    rw [State.line_upd]
    split
    · next hj => rw [hwindow, hj]
    · rfl) fun he ho => ⟨_, he, ho⟩

/-- A change of one line that leaves its window, its digits and its link. -/
theorem upd {f : Line → Line}
    (hf : ∀ l, (f l).window = l.window ∧ (f l).tu = l.tu ∧ (f l).blc = l.blc) :
    s₀.Upholds (s.upd i f) := by
  obtain ⟨hwindow, htu, hblc⟩ := hf (s.line i)
  refine h.updBuffers i (fun _ hs => ?_) hwindow
  rwa [Line.buffersOk, htu, hblc]

theorem updLif {f : Lif → Lif} : s₀.Upholds (s.updLif i f) := h.upd i fun _ => ⟨rfl, rfl, rfl⟩
theorem updCc {f : Cc → Cc} : s₀.Upholds (s.updCc i f) := h.upd i fun _ => ⟨rfl, rfl, rfl⟩
theorem updDp {f : Dp → Dp} : s₀.Upholds (s.updDp i f) := h.upd i fun _ => ⟨rfl, rfl, rfl⟩
theorem updFxc {f : Fxc → Fxc} : s₀.Upholds (s.updFxc i f) := h.upd i fun _ => ⟨rfl, rfl, rfl⟩
theorem updApc {f : Apc → Apc} : s₀.Upholds (s.updApc i f) := h.upd i fun _ => ⟨rfl, rfl, rfl⟩
theorem updVc {f : Vc → Vc} : s₀.Upholds (s.updVc i f) := h.upd i fun _ => ⟨rfl, rfl, rfl⟩
theorem updCnt {f : LineCounters → LineCounters} : s₀.Upholds (s.updCnt i f) := h.upd i fun _ => ⟨rfl, rfl, rfl⟩

/-- A change of the Tone Unit that leaves at most 16 digits. -/
theorem updTu {f : Tu → Tu}
    (hf : (s.line i).tu.digits.length ≤ 16 → (f (s.line i).tu).digits.length ≤ 16) :
    s₀.Upholds (s.updTu i f) := h.updBuffers i (fun _ hs => ⟨hf hs.1, hs.2⟩) rfl

/-- The digit queue is emptied. -/
theorem emptyDigits {f : Tu → Tu} (hf : ∀ t, (f t).digits = []) : s₀.Upholds (s.updTu i f) :=
  h.updTu i fun _ => by rw [hf]; exact Nat.zero_le _

/-- A change of the link within its bounds. -/
theorem updBlc {f : Blc → Blc} (hf : (s.line i).blc.inBounds → (f (s.line i).blc).inBounds) :
    s₀.Upholds (s.updBlc i f) := h.updBuffers i (fun _ hs => ⟨hs.1, hf hs.2⟩) rfl

/-- A slot is emptied, or takes an entry with PLAY. -/
theorem setSlot {slot : LineNo} {a : Option Attach} (ha : ∀ id, a ≠ some { id := id, right := .record }) :
    s₀.Upholds (s.setSlot i slot a) :=
  h.updLine i _ (fun _ hs => hs) fun _ hs => State.recordersOk_setSlot hs fun id heq => absurd heq (ha id)

/-- A slot takes an OPEN entry with RECORD that no other slot holds so (R123). -/
theorem setRecordSlot {slot : LineNo} {id : Nat} {e : Entry} (he : s.stc.entry id = some e) (hopen : e.open_ = true)
    (hother : ∀ j k, s.recordsAt j k id → j = i ∧ k = slot) :
    s₀.Upholds (s.setSlot i slot (some { id := id, right := .record })) := by
  refine h.updLine i _ (fun _ hs => hs) fun _ hs => State.recordersOk_setSlot hs fun id' heq => ?_
  cases heq
  exact ⟨hother, e, he, hopen⟩

/-- A slot takes a newly allocated entry with RECORD (R109, R154). -/
theorem allocSlot {slot : LineNo} {k : EntryKind} {extent id : Nat} {blank : Entry → Entry} {t : Stc}
    (halloc : s.stc.alloc k extent blank = .ok (t, id)) (hblank : ∀ e, (blank e).SamePlace e) :
    s₀.Upholds (({ s with stc := t } : State).setSlot i slot (some { id := id, right := .record })) := by
  obtain ⟨hkept, hfree, e, he, hopen⟩ := Stc.Kept.alloc hblank halloc
  refine (h.withStc hkept).updLine i _ (fun _ hs => hs) fun hs₀ hs => State.recordersOk_setSlot hs fun id' heq => ?_
  cases heq
  refine ⟨fun j k hjk => ?_, e, he, hopen⟩
  obtain ⟨f, hf, -⟩ := (State.recordersOk_iff.1 (h.recorders hs₀)).2 j k id hjk
  exact absurd (hf.symm.trans hfree) nofun

end

/-! ## Slots, holdings, pending list (chapters 4 and 8) -/

section
variable (h : s₀.Upholds s)
include h

theorem emptySlots {p : Attach → Bool} : s₀.Upholds (s.emptySlots p) where
  __ := h
  lines hs j := by
    have hline := h.lines hs j
    simp only [State.line, State.emptySlots, Four.get_map]
    exact hline
  recorders hs := by
    obtain ⟨honce, hopen⟩ := State.recordersOk_iff.1 (h.recorders hs)
    simp only [State.recordersOk_iff, State.recordsAt_emptySlots]
    exact ⟨fun j k j' k' id hjk hjk' => honce j k j' k' id hjk.1 hjk'.1, fun j k id hjk => hopen j k id hjk.1⟩

/-- An entry is closed together with the slots that hold it with RECORD (R120). -/
theorem closeEntry {id : Nat} : s₀.Upholds (s.closeEntry id) where
  __ := h.emptySlots (p := fun a : Attach => a.id == id && a.right == Right.record)
  tables hs := by
    obtain ⟨hflags, hrecs, hdir, htable, hnotices⟩ := h.tables hs
    exact ⟨hflags, hrecs, (List.length_modify ..).trans hdir, htable, hnotices⟩
  recorders hs := by
    obtain ⟨honce, hopen⟩ := State.recordersOk_iff.1 (h.recorders hs)
    have hat : ∀ j k x, (s.closeEntry id).recordsAt j k x → s.recordsAt j k x ∧ x ≠ id := fun j k x hjk => by
      obtain ⟨hjk, hx⟩ := State.recordsAt_emptySlots.1 hjk
      exact ⟨hjk, by simpa using hx⟩
    refine State.recordersOk_iff.2 ⟨fun j k j' k' x hjk hjk' =>
      honce j k j' k' x (hat j k x hjk).1 (hat j' k' x hjk').1, fun j k x hjk => ?_⟩
    obtain ⟨hjk, hx⟩ := hat j k x hjk
    obtain ⟨e, he, ho⟩ := hopen j k x hjk
    refine ⟨e, ?_, ho⟩
    exact (Stc.entry_updEntry_eq ..).trans ((if_neg hx).trans he)
  store hs := (h.store hs).close id

/-- A CLOSED entry that no move is of is freed (R121). -/
theorem freeEntry {id : Nat} {e : Entry} (he : s.stc.entry id = some e) (hclosed : e.open_ = false)
    (hstill : e.moving = false) : s₀.Upholds (s.freeEntry id) where
  __ := h
  tables hs := by
    obtain ⟨hflags, hrecs, hdir, htable, hnotices⟩ := h.tables hs
    exact ⟨hflags, hrecs, (List.length_set ..).trans hdir, htable, hnotices⟩
  recorders hs := by
    obtain ⟨honce, hopen⟩ := State.recordersOk_iff.1 (h.recorders hs)
    refine State.recordersOk_iff.2 ⟨honce, fun j k x hjk => ?_⟩
    obtain ⟨f, hf, ho⟩ := hopen j k x hjk
    have hx : id ≠ x := by
      rintro rfl
      cases he.symm.trans hf
      exact absurd (hclosed.symm.trans ho) nofun
    refine ⟨f, ?_, ho⟩
    simp only [State.freeEntry, Stc.entry, Stc.setEntry, List.getElem?_set_ne hx] at hf ⊢
    exact hf
  store hs := (h.store hs).free he hstill

end

section
variable (h : s₀.Upholds s)
include h

theorem tryDelete (id : Nat) : s₀.Upholds (s.tryDelete id).1 := by
  unfold State.tryDelete
  split
  · exact h
  · next he =>
    split
    · exact h
    · next hdelete =>
      obtain ⟨hclosed, hstill⟩ := State.deleteRefusal_eq_none hdelete
      exact h.freeEntry he hclosed hstill

theorem trim {id n : Nat} : s₀.Upholds (s.trim id n) := h.withStc (.trim ..)
theorem digitTrim {o : VoiceOp} : s₀.Upholds (s.digitTrim o) := h.trim
theorem dropMessage {id : Nat} : s₀.Upholds (s.dropMessage id) := h.closeEntry.tryDelete id

/-- A record that is not QUEUED becomes another that is not. -/
theorem setRec {k : Nat} {r : EntryRec} (hout : ¬ s.gd.isQueued k) (hr : r.st ≠ .queued) : s₀.Upholds (s.setRec k r) :=
  h.withGd (fun hq => Gd.queueOk_stayOut hq rfl rfl hout hr) (List.length_set ..)

/-- A record leaves QUEUED, its number the queue (R42, R44, R45). -/
theorem leaveQueue {k : Nat} {r : EntryRec} (hr : r.st ≠ .queued) : s₀.Upholds
    (({ s with gd := { s.gd with queue := s.gd.queue.filter fun x => x != k } } : State).setRec k r) :=
  h.withGd (fun hq => Gd.queueOk_leave hq rfl rfl hr) (List.length_set ..)

/-- A record becomes QUEUED, its number joining the queue (R40, R46). -/
theorem joinQueue {k : Nat} {r : EntryRec} {l : List Nat} (hl : l.Perm (k :: s.gd.queue)) (hlt : k < s.gd.recs.length)
    (hout : ¬ s.gd.isQueued k) (hr : r.st = .queued) : s₀.Upholds
    { s.setRec k r with gd := { (s.setRec k r).gd with queue := l } } :=
  h.withGd (fun hq => Gd.queueOk_join hq rfl hl hlt hout hr) (List.length_set ..)
theorem recomputeGroups : s₀.Upholds s.recomputeGroups := .ite h (h.withGd (by exact id) (by rfl)).raisePart

/-- A queue event joins the list, from which the oldest goes where it is full (R47). -/
theorem recordEvent {e : QEvent} : s₀.Upholds (s.recordEvent e) := by
  simp only [State.recordEvent]
  refine raisePart ?_
  split
  · next hroom =>
    refine h.withEvents fun _ => ?_
    rw [List.length_append, List.length_singleton]
    exact hroom
  · refine (h.withEvents (l := s.nu.queueEvents.drop 1 ++ [e]) fun hle => ?_).withCnt
    rw [List.length_append, List.length_drop, List.length_singleton]
    omega

end

section
variable (h : s₀.Upholds s) (i : LineNo)
include h

theorem addActs {a : List Activity} : s₀.Upholds (s.addActs i a) := h.upd i fun _ => ⟨rfl, rfl, rfl⟩
theorem endActs {a : List Activity} : s₀.Upholds (s.endActs i a) :=
  .ite ((h.upd i (by exact fun _ => ⟨rfl, rfl, rfl⟩)).withBm (by exact .refl _)) (h.upd i fun _ => ⟨rfl, rfl, rfl⟩)

theorem setCounted {c : Cls} : s₀.Upholds (s.setCounted i c) := by
  simp only [State.setCounted]
  split
  · exact .ite ((h.upd i (by exact fun _ => ⟨rfl, rfl, rfl⟩)).withBm (by exact .refl _))
      (h.upd i fun _ => ⟨rfl, rfl, rfl⟩)
  · exact h.upd i fun _ => ⟨rfl, rfl, rfl⟩

theorem dropPending : s₀.Upholds (s.dropPending i) := .ite (h.withBm List.filter_sublist) h

/-- An admission joins the pending list of a line that has none there (R58). -/
theorem joinPending {a : Ask} {r : Requester} (hnone : s.hasPending i = false) :
    s₀.Upholds (s.joinPending i a r) where
  __ := h
  pending hs := by
    have hother : i ∉ s.bm.plist.map fun p => p.line := fun hi => by
      obtain ⟨p, hp, rfl⟩ := List.mem_map.1 hi
      exact absurd hnone (Bool.not_eq_false _ ▸ List.any_eq_true.2 ⟨p, hp, beq_self_eq_true _⟩)
    simp only [State.pendingOnce, State.joinPending, List.map_append, List.map_cons, List.map_nil]
    exact List.nodup_append.2 ⟨h.pending hs, List.nodup_singleton i, fun a ha b hb hab =>
      hother (List.mem_singleton.1 hb ▸ hab ▸ ha)⟩

/-! ## Line interface, seizure, groups and call queue (chapters 1 to 3) -/

theorem seize : s₀.Upholds (s.seize i) := .ite (h.updLif i) h
theorem release : s₀.Upholds (s.release i) := .ite h (h.updLif i)

theorem flashOrder : s₀.Upholds (s.flashOrder i).1 := by
  simp only [State.flashOrder, apply_ite Prod.fst]
  exact .ite (h.updLif i) h

theorem breakOrder (n : Nat) : s₀.Upholds (s.breakOrder i n).1 := by
  simp only [State.breakOrder, apply_ite Prod.fst]
  exact .ite (h.updLif i) h

theorem applyResult {good : Bool} : s₀.Upholds (s.applyResult i good) :=
  .ite (h.updLif i) (h.updLif i).raise.recomputeGroups

theorem enterSeized {kind : CallKind} {dial : List DialElem} {m : DialMethod} {conn : Option Conn} :
    s₀.Upholds (s.enterSeized i kind dial m conn) := by
  dsimp only [State.enterSeized]
  exact ((((h.addActs i).seize i).updCc i).emptyDigits i (by exact fun _ => rfl)).updCnt i

theorem dispatchTo (c : GroupCall) (entry : Nat) : s₀.Upholds (s.dispatchTo c i entry) :=
  ((h.withGd (by exact id) (by rfl)).enterSeized i).recordEvent

theorem dispatchEntry (k : Nat) (r : EntryRec) : s₀.Upholds (s.dispatchEntry k r i) :=
  (h.leaveQueue (by exact nofun)).dispatchTo i r.call k

theorem lineEvent : s₀.Upholds (s.lineEvent i) := by
  simp only [State.lineEvent]
  split
  · exact h
  · split
    · exact h.dispatchEntry i _ _
    · exact h

omit i in
theorem offerEntry (k : Nat) : s₀.Upholds (s.offerEntry k) := by
  unfold State.offerEntry
  split
  · exact h
  · split
    · exact h
    · exact h.dispatchEntry _ _ _

omit i in
theorem walkQueue : s₀.Upholds s.walkQueue := foldl (fun k hu => hu.offerEntry k) _ h

theorem freeAssigned : s₀.Upholds (s.freeAssigned i) := h.withGd (fun hq => Gd.queueOk_freed hq i) (List.length_map ..)

/-- The record a call returns to was ASSIGNED, and so is not QUEUED (R46). -/
theorem glareReturn : s₀.Upholds (s.glareReturn i) := by
  unfold State.glareReturn
  split
  · exact h
  · next k hk =>
    obtain ⟨hlt, hout⟩ := Gd.not_isQueued_of_findIdx hk (by exact nofun)
    split
    · exact h
    · split
      · exact (h.joinQueue (List.Perm.refl _) hlt hout rfl).recordEvent.offerEntry _
      · exact (h.setRec hout (by exact nofun)).recordEvent

theorem toIdle : s₀.Upholds (s.toIdle i) := (h.updCc i).upd i fun _ => ⟨rfl, rfl, rfl⟩

theorem superviseLine {good : Bool} : s₀.Upholds (s.superviseLine i good) :=
  .ite ((h.applyResult i).lineEvent i) (h.applyResult i)

/-! ## Rate changes, reclaim, admissions (chapters 4 and 5) -/

theorem linkPumpLeft : s₀.Upholds (s.linkPumpLeft i) := h.updBlc i <| by
  intro hb
  refine Blc.inBounds_congr hb le_rfl le_rfl rfl rfl rfl (fun hup hsusp => ?_) fun _ _ => rfl
  by_cases hlink : (s.line i).blc.link = .up
  · exact absurd (if_pos hlink) hsusp
  · exact ⟨hlink, fun heq => hsusp ((if_neg hlink).trans heq)⟩

theorem beginExchange : s₀.Upholds (s.beginExchange i) := h.updDp i

theorem enterRateChange {up : Bool} {target : Cls} : s₀.Upholds (s.enterRateChange i up target) :=
  .ite (((h.updDp i).linkPumpLeft i).beginExchange i)
    ((h.updDp i).linkPumpLeft i)

theorem owe {c : Cls} : s₀.Upholds (s.owe i c) := h.updDp i

theorem stepDown : s₀.Upholds (s.stepDown i) := by
  simp only [State.stepDown]
  split
  case h_1 => exact h
  case h_2 | h_4 | h_5 =>
    split
    · exact h.owe i
    · exact h
  case h_3 =>
    split
    · exact .ite h (h.enterRateChange i)
    · exact h.owe i
    · exact h

omit i in
theorem considerReclaim : s₀.Upholds s.considerReclaim := by
  unfold State.considerReclaim
  split
  · split
    · split
      · exact (h.stepDown _).withBm (by exact .refl _)
      · exact h
    · exact h
  · exact h

theorem reclaimCheck : s₀.Upholds (s.reclaimCheck i) := by
  unfold State.reclaimCheck
  split
  · exact .ite (h.withBm (by exact .refl _)) h
  · exact h

theorem request (ends : List Activity) (a : Ask) (r : Requester) : s₀.Upholds (s.request i ends a r).1 := by
  simp only [State.request]
  split
  · exact h
  · next hnone =>
    split
    · exact (h.endActs i).addActs i
    · refine ((h.endActs i).joinPending i ?_).considerReclaim
      rw [State.hasPending, State.endActs_plist]
      exact Bool.eq_false_iff.2 hnone

/-! ## The end of a call (R27, R34, R96, R114, R144, R159) -/

/-- A message begun in a closing window is counted (R27). -/
theorem closeClid : s₀.Upholds (s.closeClid i) := by
  simp only [State.closeClid]
  split
  · exact h
  · exact .ite (((h.updTu i (by exact id)).endActs i).withCnt) ((h.updTu i (by exact id)).endActs i)

theorem closeOp {r : VoiceOutcome} : s₀.Upholds (s.closeOp i r) := by
  unfold State.closeOp
  split
  · exact h
  · exact .ite (h.updVc i).raise (h.updVc i)

theorem finishOp {r : VoiceOutcome} : s₀.Upholds (s.finishOp i r) := by
  unfold State.finishOp
  split
  · exact h
  · exact (h.closeOp i).endActs i

theorem stopOp {r : VoiceOutcome} : s₀.Upholds (s.stopOp i r) := by
  unfold State.stopOp
  split
  · exact h
  · exact .ite (h.digitTrim.finishOp i) (h.finishOp i)

theorem planOutcome {r : PlanResult} : s₀.Upholds (s.planOutcome i r) := (h.updApc i).raise

theorem settleMessage : s₀.Upholds (s.settleMessage i).1 := by
  simp only [State.settleMessage]
  split
  · exact h
  · next id _ =>
    have hstamped := (h.withStc (.stamp s.stc id (fun e => { e with number := s.callerNumber i })
      (fun _ => ⟨rfl, rfl, rfl, rfl, rfl⟩) fun _ => rfl)).closeEntry (id := id)
    rw [apply_ite Prod.fst]
    exact .ite (hstamped.updApc i).raise (hstamped.tryDelete id)

theorem planInactive : s₀.Upholds (s.planInactive i) := (h.updApc i).setSlot i (by exact nofun)

theorem planRecordingEnds : s₀.Upholds (s.planRecordingEnds i) := by
  unfold State.planRecordingEnds
  split
  · exact .ite ((h.finishOp i).dropMessage.planOutcome i) (((h.finishOp i).settleMessage i).planOutcome i)
  · exact (h.settleMessage i).planOutcome i

theorem voiceClears : s₀.Upholds (s.voiceClears i) := by
  unfold State.voiceClears
  split
  · exact h
  · exact .ite (h.stopOp i).dropMessage (h.stopOp i)

theorem planClears : s₀.Upholds (s.planClears i) := by
  unfold State.planClears
  split
  case h_1 | h_2 => exact h.voiceClears i
  case h_3 | h_4 | h_5 | h_8 => exact ((h.voiceClears i).planOutcome i).planInactive i
  case h_6 => exact (h.planRecordingEnds i).planInactive i
  case h_7 => exact .ite ((h.voiceClears i).planInactive i) (((h.voiceClears i).planOutcome i).planInactive i)
  case h_9 => exact (h.voiceClears i).planInactive i

theorem closePage {j : FaxJob} {id missing : Nat} : s₀.Upholds (s.closePage i j id missing) := by
  dsimp only [State.closePage]
  exact (h.withStc (.stamp _ _ _ (by exact fun _ => ⟨rfl, rfl, rfl, rfl, rfl⟩) (by exact fun _ => rfl))).closeEntry.updFxc
    i

theorem closeIncomplete : s₀.Upholds (s.closeIncomplete i) := by
  unfold State.closeIncomplete
  split
  · split
    · exact h.closePage i
    · exact h
  · exact h

theorem endJob {r : FaxOutcome} : s₀.Upholds (s.endJob i r) :=
  (((h.closeIncomplete i).updFxc i).setSlot i (by exact nofun)).raise

theorem faxClears : s₀.Upholds (s.faxClears i) := by
  unfold State.faxClears
  split
  · exact .ite (h.endJob i) (h.updFxc i)
  · exact h.updFxc i

/-- The link starts anew, bytes left in RX staying as they are (R96). -/
theorem linkClears : s₀.Upholds (s.linkClears i) := by
  dsimp only [State.linkClears]
  exact updCnt (h.updBlc i (by
    refine fun hb => Blc.inBounds_fresh rfl ?_ rfl (Nat.zero_le _) (Nat.zero_lt_succ _) fun _ => rfl
    dsimp only
    split
    · exact Nat.zero_le _
    · exact Blc.rx_le hb)) i

theorem budgetClears : s₀.Upholds (s.budgetClears i) :=
  ((h.upd i (by exact fun _ => ⟨rfl, rfl, rfl⟩)).dropPending i).withBm (by exact .refl _)

theorem ccClears {r : EndReason} : s₀.Upholds (s.ccClears i r) := by
  dsimp only [State.ccClears]
  exact h.updCc i

theorem toneClears : s₀.Upholds (s.toneClears i) := by
  dsimp only [State.toneClears]
  exact (((h.closeClid i).updTu i (by exact id)).release i).updLif i

/-- The pump starts anew, with no readings (R81). -/
theorem clearWith {r : EndReason} : s₀.Upholds (s.clearWith i r) := by
  dsimp only [State.clearWith]
  have hcc := ite (c := (s.line i).cc.outcome = .glare ∧ (s.line i).cc.state = .seized) (h.ccClears i (r := r))
    ((h.ccClears i (r := r)).freeAssigned i)
  exact (((((hcc.toneClears i).planClears i).faxClears i).updDp i).linkClears i).budgetClears i

theorem startClearing : s₀.Upholds (s.startClearing i) := .ite (h.clearWith i).raise h
theorem joinCause {c : Cause} : s₀.Upholds (s.joinCause i c) := .ite (h.updCc i) h
theorem raiseCause {c : Cause} : s₀.Upholds (s.raiseCause i c) := (h.joinCause i).startClearing i

theorem progressFails {o : Outcome} : s₀.Upholds (s.progressFails i o) := by
  dsimp only [State.progressFails]
  exact ((h.updCc i).updCnt i).raise.startClearing i

/-! ## The block link (chapter 6) -/

theorem sendEvent {again : Bool} : s₀.Upholds (s.sendEvent i again) := by
  have hjudged := (h.updBlc i (f := fun b => { b with
    spanCount := b.spanCount + 1
    spanResends := b.spanResends + (if again then 1 else 0)
    cleanRun := if again then 0 else b.cleanRun }) (by exact id)).updBlc i
    (f := fun b => if 8 ≤ b.spanResends then b.halve else { b with spanCount := 0, spanResends := 0 }) (by
      exact fun hb => Blc.inBounds_judge hb)
  exact .ite (h.updBlc i (by exact id)) (.ite (hjudged.stepDown i) hjudged)

theorem txRose : s₀.Upholds (s.txRose i) := .ite (h.updBlc i (by exact id)).raise h
theorem txFell : s₀.Upholds (s.txFell i) := .ite (h.updBlc i (by exact id)).raise h
theorem sendSetup : s₀.Upholds (s.sendSetup i) := by
  dsimp only [State.sendSetup]
  exact h.updBlc i (by exact id)

theorem resendBlock {k : Block} : s₀.Upholds (s.resendBlock i k) := by
  dsimp only [State.resendBlock]
  refine sendEvent (updCnt (h.updBlc i (by
    intro hb
    refine Blc.inBounds_congr hb le_rfl le_rfl ?_ rfl rfl (fun hup hsusp => ⟨hup, hsusp⟩) id
    rw [List.map_map]
    refine List.map_congr_left fun x _ => ?_
    simp only [Function.comp_apply]
    split <;> rfl)) i) i

/-- A new block is formed while the link is UP and the window has room (R88). -/
theorem newBlock (hup : (s.line i).blc.link = .up) : s₀.Upholds (s.newBlock i) := by
  simp only [State.newBlock]
  split
  · exact h
  · next hroom =>
    have hrelease : ¬ (s.line i).blc.window ≤ (s.line i).blc.unacked.length := fun hle => hroom (.inr hle)
    exact (((h.updBlc i (by
      exact fun hb => Blc.inBounds_newBlock hb hup hrelease rfl)).updCnt i).txFell i).sendEvent i

theorem startEc (hup : (s.line i).blc.link = .up) : s₀.Upholds (s.startEc i) := by
  simp only [State.startEc]
  split
  · exact h.updBlc i (by exact id)
  · refine .ite (h.sendSetup i) (.ite h ?_)
    split
    · exact h.resendBlock i
    · exact h.newBlock i hup

theorem startTx : s₀.Upholds (s.startTx i) := by
  simp only [State.startTx]
  refine .ite h ?_
  split
  case h_1 => exact .ite (h.sendSetup i) h
  case h_2 hup _ => exact h.startEc i hup
  case h_3 =>
    split
    · next x r htx =>
      refine txFell (h.updBlc i (by
        intro hb
        refine Blc.inBounds_congr hb ?_ le_rfl rfl rfl rfl (fun hup hsusp => ⟨hup, hsusp⟩) id
        rw [htx]
        exact Nat.le_succ _)) i
    · exact h
  case h_4 => exact h

/-- A try of link setup begins where the link waits or is in SETUP (R83). -/
theorem startTry {n : Nat}
    (hlink : (s.line i).blc.inBounds → (s.line i).blc.link ≠ .up ∧ (s.line i).blc.link ≠ .suspended) :
    s₀.Upholds (s.startTry i n) :=
  startTx (h.updBlc i (by
    exact fun hb => Blc.inBounds_congr hb le_rfl le_rfl rfl rfl rfl (fun _ _ => hlink hb)
      fun _ hne => absurd rfl hne)) i

theorem linkPumpRuns : s₀.Upholds (s.linkPumpRuns i) := by
  simp only [State.linkPumpRuns]
  split
  case h_1 hlink | h_2 hlink =>
    exact h.startTry i fun _ => by rw [hlink]; exact ⟨nofun, nofun⟩
  case h_3 hlink =>
    refine startTx (h.updBlc i (by
      refine fun hb => Blc.inBounds_congr hb le_rfl le_rfl rfl rfl rfl (fun hne => absurd rfl hne)
        fun htry _ => htry ?_
      rw [hlink]
      exact nofun)) i
  case h_4 | h_5 => exact h

theorem linkWaits : s₀.Upholds (s.linkWaits i) := by
  dsimp only [State.linkWaits]
  exact updCnt (h.updBlc i (by
    exact fun _ => Blc.inBounds_fresh rfl (Nat.zero_le _) rfl (Nat.zero_le _) (Nat.zero_lt_succ _) fun _ => rfl)) i

/-! ## The pump (R67 to R78) -/

theorem startTraining {f : Family} {floor : Cls} : s₀.Upholds (s.startTraining i f floor) := h.updDp i

theorem setClass (c : Cls) : s₀.Upholds (s.setClass i c) := by
  dsimp only [State.setClass]
  exact (ite (((h.updDp i).setCounted i).updCnt i)
    ((((h.updDp i).setCounted i).updCnt i).updBlc i (by exact id))).reclaimCheck i

theorem orderStands : s₀.Upholds (s.orderStands i) := by
  unfold State.orderStands
  split
  · exact .ite (h.owe i) h
  · exact h

theorem enterRetraining : s₀.Upholds (s.enterRetraining i) := by
  dsimp only [State.enterRetraining]
  exact .ite ((h.updDp i).raiseCause i)
    ((((h.orderStands i).updDp i).updCnt i).linkPumpLeft i)

theorem trainingSucceeds (agreed : Cls) : s₀.Upholds (s.trainingSucceeds i agreed) := by
  dsimp only [State.trainingSucceeds]
  exact (ite ((h.setClass i agreed).updDp i) ((h.setClass i agreed).updDp i).raise).linkPumpRuns i

theorem trainingFails : s₀.Upholds (s.trainingFails i) :=
  .ite (.ite ((h.updDp i).raiseCause i) (h.updDp i)) (h.enterRetraining i)

theorem completeTraining : s₀.Upholds (s.completeTraining i) := by
  unfold State.completeTraining
  split
  · exact h.trainingSucceeds i _
  · exact h.updDp i

theorem trainingRead : s₀.Upholds (s.trainingRead i) := by
  unfold State.trainingRead
  split
  · exact h.trainingFails i
  · exact (h.updDp i).completeTraining i

theorem completeRateChange : s₀.Upholds (s.completeRateChange i) := by
  simp only [State.completeRateChange]
  split
  · exact h
  · exact (((h.setClass i _).updDp i).updCnt i).raise.linkPumpRuns i

theorem askForward {cur next : Cls} : s₀.Upholds (s.askForward i cur next).1 := by
  simp only [State.askForward, apply_ite Prod.fst]
  exact .ite ((h.setCounted i).enterRateChange i) ((h.updDp i).updCnt i)

/-! ## The fax job (chapter 7) -/

theorem updJob {f : FaxJob → FaxJob} : s₀.Upholds (s.updJob i f) := h.updFxc i
theorem faxSend {m : FaxMsg} : s₀.Upholds (s.faxSend i m) := h.updFxc i
theorem faxAsk {m : FaxMsg} : s₀.Upholds (s.faxAsk i m) := h.updFxc i
theorem senderWait : s₀.Upholds (s.senderWait i) := h.updFxc i
theorem faxTell {m : FaxMsg} : s₀.Upholds (s.faxTell i m) := (h.faxSend i).senderWait i
theorem failJob {r : FaxOutcome} : s₀.Upholds (s.failJob i r) := (h.endJob i).raiseCause i
theorem doneJob : s₀.Upholds (s.doneJob i) := (h.endJob i).raiseCause i
theorem startReceive : s₀.Upholds (s.startReceive i) := (h.updJob i).faxAsk i

theorem startJob : s₀.Upholds (s.startJob i) := by
  simp only [State.startJob]
  split
  · exact (h.updFxc i).startReceive i
  · exact ((h.updFxc i).updJob i).updFxc i
  · exact h.updFxc i

theorem newJob {j : FaxJob} : s₀.Upholds (s.newJob i j) := h.updFxc i
theorem planJob {policy : Policy} : s₀.Upholds (s.planJob i policy) := (h.newJob i).startJob i

theorem startPart {p : Nat} : s₀.Upholds (s.startPart i p) := by
  simp only [State.startPart]
  split
  · exact h
  · exact (h.updFxc i).faxSend i

theorem beginSendPage : s₀.Upholds (s.beginSendPage i) := by
  unfold State.beginSendPage
  split
  · exact h
  · split
    · exact h.failJob i
    · exact .ite (((h.setSlot i (by exact nofun)).updJob i).startPart i) (h.failJob i)

theorem sendPageClose {j : FaxJob} : s₀.Upholds (s.sendPageClose i j) := (h.updJob i).faxAsk i

theorem afterPart : s₀.Upholds (s.afterPart i) := by
  unfold State.afterPart
  split
  · exact h
  · split
    · exact .ite (h.sendPageClose i) (h.startPart i)
    · exact h.updJob i

theorem startCheck {c : Cls} {after : AfterCheck} : s₀.Upholds (s.startCheck i c after) := by
  dsimp only [State.startCheck]
  exact .ite (((h.updJob i).updDp i).updCnt i) ((h.updJob i).updDp i)

theorem announceCheck {c : Cls} {after : AfterCheck} : s₀.Upholds (s.announceCheck i c after) :=
  ((h.startCheck i).updFxc i).faxSend i

theorem checkEnds {c : Cls} : s₀.Upholds (s.checkEnds i c) :=
  .ite (((h.setClass i c).updDp i).updJob i) (((h.setClass i c).updDp i).updJob i).raise

theorem checkAccepted {c : Cls} {acc : Nat} : s₀.Upholds (s.checkAccepted i c acc) := by
  simp only [State.checkAccepted]
  have hrun := ((h.checkEnds i (c := c)).updDp i (f := fun d => { d.run with acc := acc })).updJob i
    (f := fun j => { j with checked := true, phase := .page, mapAnswer := none })
  split
  · exact hrun
  · split
    · exact hrun.beginSendPage i
    · exact hrun.updJob i
    · exact hrun.afterPart i
    · exact hrun.updJob i

theorem checkRejected {c : Cls} {named : Option Cls} : s₀.Upholds (s.checkRejected i c named) := by
  simp only [State.checkRejected]
  have hends := h.checkEnds i (c := c)
  split
  · exact hends
  · next j _ =>
    have hnext {t : State} (n : Cls) (ht : s₀.Upholds t) : s₀.Upholds (match j.dir with
        | some .send => t.announceCheck i n j.after
        | _ => (t.startCheck i n j.after).faxTell i (.verdict (some n))) := by
      split
      · exact ht.announceCheck i
      · exact (ht.startCheck i).faxTell i
    refine .ite (.ite (failJob ?_ i) (hnext _ (hends.updJob i))) (hnext _ (hends.stepDown i))
    split
    · exact hends.updJob i
    · exact (hends.updJob i).faxSend i

theorem faxCheckRead : s₀.Upholds (s.faxCheckRead i) := by
  simp only [State.faxCheckRead]
  split
  · exact h
  · exact .ite ((h.faxTell i).checkAccepted i) (h.checkRejected i)

theorem countResent {n : Nat} : s₀.Upholds (s.countResent i n) := by
  dsimp only [State.countResent]
  exact (h.updJob i).updCnt i

theorem sendBoundary {missing : List Nat} : s₀.Upholds (s.sendBoundary i missing) := by
  simp only [State.sendBoundary]
  split
  · exact (h.updJob i).announceCheck i
  · exact (h.updJob i).afterPart i

theorem receiveBoundary {missing : List Nat} : s₀.Upholds (s.receiveBoundary i missing) := by
  simp only [State.receiveBoundary]
  split
  · exact (((h.updJob i).startCheck i).updJob i).faxTell i
  · exact (((h.updJob i).updJob i).afterPart i).faxTell i

theorem receiveResend {missing : List Nat} : s₀.Upholds (s.receiveResend i missing) := by
  dsimp only [State.receiveResend]
  exact ((h.countResent i).updJob i).faxTell i

theorem receiveRetrain {missing : List Nat} {cur : Cls} : s₀.Upholds (s.receiveRetrain i missing cur) := by
  dsimp only [State.receiveRetrain]
  exact (((h.stepDown i).startCheck i).updJob i).faxTell i

theorem judgeRound {j : FaxJob} : s₀.Upholds (s.judgeRound i j) := by
  unfold State.judgeRound
  refine .ite (h.receiveBoundary i) (.ite (h.receiveResend i) ?_)
  split
  · exact h.receiveRetrain i
  · exact h.receiveBoundary i

theorem sendRetrain {missing : List Nat} {cur : Cls} {named : Option Cls} :
    s₀.Upholds (s.sendRetrain i missing cur named) := by
  dsimp only [State.sendRetrain]
  exact .ite (((h.stepDown i).updJob i).announceCheck i) (((h.stepDown i).updJob i).announceCheck i)

theorem followMap {j : FaxJob} {missing : List Nat} {a : MapAction} : s₀.Upholds (s.followMap i j missing a) := by
  simp only [State.followMap]
  split
  · exact h.sendBoundary i
  · exact h.sendRetrain i
  · refine .ite (((h.countResent i).updJob i).updFxc i) ?_
    split
    · exact h.sendRetrain i
    · exact h.sendBoundary i

theorem takePart {id p c : Nat} {last : Bool} : s₀.Upholds (s.takePart i id p c last) := by
  unfold State.takePart
  split
  · exact h.failJob i
  · next hcover => exact ((h.withStc ((Stc.Kept.cover hcover).trans (.zeroPart ..))).updJob i).senderWait i

theorem beginReceivePage {j : FaxJob} {c : Nat} {last : Bool} : s₀.Upholds (s.beginReceivePage i j c last) := by
  simp only [State.beginReceivePage]
  split
  case h_1 | h_2 => exact h.failJob i
  case h_3 halloc => exact ((h.allocSlot i halloc fun _ => ⟨rfl, rfl, rfl, rfl, rfl⟩).updJob i).takePart i

theorem takeHeader {j : FaxJob} {p c : Nat} {last : Bool} : s₀.Upholds (s.takeHeader i j p c last) := by
  unfold State.takeHeader
  split
  · exact .ite (h.beginReceivePage i) h
  · exact .ite ((h.updJob i).senderWait i) (.ite ((ite h (h.updJob i)).takePart i) h)

theorem storeFrame {j : FaxJob} {n : Nat} {b : List Byte} : s₀.Upholds (s.storeFrame i j n b) := by
  unfold State.storeFrame
  split
  · exact h
  · split
    · exact h
    · exact (h.withStc (.writeBytes ..)).updJob i

theorem completePage {j : FaxJob} {id : Nat} {more : Bool} : s₀.Upholds (s.completePage i j id more) := by
  dsimp only [State.completePage]
  exact ((((h.closePage i).setSlot i (by exact nofun)).updFxc i).updCnt i).raise.faxTell i

theorem readFrame {j : FaxJob} {n : Nat} : s₀.Upholds (s.readFrame i j n).1 := by
  simp only [State.readFrame]
  split
  · exact h
  · split
    · exact h
    · simp only [apply_ite Prod.fst]
      exact .ite ((h.withStc (.damage ..)).updCnt i) h

theorem answerAgain {j : FaxJob} {k : FaxKind} : s₀.Upholds (s.answerAgain i j k) := by
  simp only [State.answerAgain]
  split
  · exact .ite (h.faxTell i) (h.faxSend i)
  · exact h

theorem faxConnected : s₀.Upholds (s.faxConnected i) := .ite (h.startJob i) (h.updFxc i)

/-! ## Connection, voice operations and answer plans (chapters 2, 9 and 10) -/

theorem ccConnected : s₀.Upholds (s.ccConnected i) := by
  dsimp only [State.ccConnected]
  exact ((h.updCc i).updCnt i).raise

theorem planFaxStarts : s₀.Upholds (s.planFaxStarts i) := by
  dsimp only [State.planFaxStarts]
  exact ((h.planJob i).planOutcome i).updApc i

theorem connectedStarts : s₀.Upholds (s.connectedStarts i) := by
  simp only [State.connectedStarts]
  split
  · exact .ite ((((h.startTraining i).linkWaits i).planOutcome i).planInactive i) ((h.startTraining i).linkWaits i)
  · exact .ite ((h.startTraining i).planFaxStarts i) ((h.startTraining i).faxConnected i)
  · exact h

theorem enterConnected : s₀.Upholds (s.enterConnected i) := (h.ccConnected i).connectedStarts i

theorem askConnection : s₀.Upholds (s.askConnection i) := by
  simp only [State.askConnection]
  split
  · exact h
  · split
    · exact (h.request i _ _ _).enterConnected i
    · exact h.request i _ _ _

theorem planEnding {r : PlanResult} : s₀.Upholds (s.planEnding i r) := ((h.planOutcome i).updApc i).raiseCause i
theorem planNotRecorded : s₀.Upholds (s.planNotRecorded i) := h.planEnding i
theorem planRecorded : s₀.Upholds (s.planRecorded i) := (h.settleMessage i).planEnding i

theorem opGranted : s₀.Upholds (s.opGranted i) := by
  unfold State.opGranted
  split
  · exact h
  · exact .ite (.ite (h.finishOp i) (h.finishOp i).dropMessage) (h.updVc i)

theorem recordStep : s₀.Upholds (s.recordStep i) := by
  simp only [State.recordStep]
  split
  · exact h.planNotRecorded i
  · next id halloc =>
    have hasked := fun o => (((h.allocSlot i (slot := 1) halloc fun _ => ⟨rfl, rfl, rfl, rfl, rfl⟩).updApc i
      (f := fun a => { a with
        plan := .recording, message := some id, recordToneDue := some (s.now + 300), mailboxDue := none })).updVc i
      (f := fun v => { v with op := some o })).request i [.listener, .voicePlay] { acts := [.voiceRecord], pump := none }
      .planRecord
    split
    · exact (hasked _).opGranted i
    · exact hasked _

theorem chooseMailbox {m : Nat} : s₀.Upholds (s.chooseMailbox i m) := (h.updApc i).recordStep i

omit h i in
theorem headDigit_length {l r : List Dtmf} {d : Nat} (hhead : headDigit l = some (d, r)) : r.length ≤ l.length := by
  induction l with
  | nil => cases hhead
  | cons x l ih =>
    cases x with
    | num d =>
      obtain ⟨-, rfl⟩ := Prod.mk.inj (Option.some.inj hhead)
      exact Nat.le_succ _
    | star => exact Nat.le_succ_of_le (ih hhead)
    | hash => exact Nat.le_succ_of_le (ih hhead)

theorem mailboxLook : s₀.Upholds (s.mailboxLook i) := by
  unfold State.mailboxLook
  refine .ite ?_ h
  split
  · next hhead => exact (h.updTu i (by exact fun hle => (headDigit_length hhead).trans hle)).chooseMailbox i
  · exact h.emptyDigits i (by exact fun _ => rfl)

theorem mailboxStep : s₀.Upholds (s.mailboxStep i) := by
  dsimp only [State.mailboxStep]
  exact .ite (h.chooseMailbox i) ((h.updApc i).mailboxLook i)

theorem enterGreeting {id : Nat} : s₀.Upholds (s.enterGreeting i id) := by
  dsimp only [State.enterGreeting]
  exact (h.updApc i).updVc i

theorem greetingEnds {r : VoiceOutcome} : s₀.Upholds (s.greetingEnds i r) := by
  dsimp only [State.greetingEnds]
  exact (ite ((h.closeOp i).mailboxStep i) (h.closeOp i)).endActs i

theorem opEnds {r : VoiceOutcome} : s₀.Upholds (s.opEnds i r) := by
  unfold State.opEnds
  split
  · exact h
  · split
    · exact h.finishOp i
    · exact h.greetingEnds i
    · exact (h.finishOp i).planRecorded i

theorem enterAnswering {k : CallKind} {c : Option Conn} : s₀.Upholds (s.enterAnswering i k c) :=
  ((h.closeClid i).seize i).updCc i

theorem answerVoice {p : Profile} : s₀.Upholds (s.answerVoice i p) := by
  dsimp only [State.answerVoice]
  exact ((((h.updApc i).setSlot i (by
    intro id
    rw [Ne, Option.map_eq_some_iff]
    rintro ⟨x, -, hx⟩
    cases hx)).setSlot i (by exact nofun)).updCnt i).enterAnswering i

theorem answerModem {p : Profile} {st : PlanState} {k : CallKind} {c : Conn} : s₀.Upholds (s.answerModem i p st k c) :=
  (((h.updApc i).setSlot i (by exact nofun)).setSlot i (by exact nofun)).enterAnswering i

theorem answerOrder : s₀.Upholds (s.answerOrder i) := by
  simp only [State.answerOrder]
  split
  case h_1 => exact h
  case h_2 | h_3 => exact h.answerVoice i
  case h_4 | h_5 => exact h.answerModem i

theorem answerDecision : s₀.Upholds (s.answerDecision i) := by
  unfold State.answerDecision
  refine .ite ?_ h
  split
  · exact h.answerOrder i
  · exact h.updApc i
  · exact h

theorem planAnswered : s₀.Upholds (s.planAnswered i) := by
  simp only [State.planAnswered]
  split
  · exact (h.ccConnected i).enterGreeting i
  · exact (h.ccConnected i).mailboxStep i

theorem planAsks : s₀.Upholds (s.planAsks i) := by
  simp only [State.planAsks]
  split
  · exact (h.request i _ _ _).planAnswered i
  · exact h.request i _ _ _

theorem planFaxGranted : s₀.Upholds (s.planFaxGranted i) := (h.startTraining i).planFaxStarts i

theorem faxHandoff : s₀.Upholds (s.faxHandoff i) := by
  simp only [State.faxHandoff]
  split
  · exact (((h.closeOp i).updApc i).request i _ _ _).planFaxGranted i
  · exact ((h.closeOp i).updApc i).request i _ _ _

theorem planFaxFailed : s₀.Upholds (s.planFaxFailed i) := by
  simp only [State.planFaxFailed]
  split
  · exact ((h.updApc i).request i _ _ _).mailboxStep i
  · exact (h.updApc i).request i _ _ _

/-! ## The hand-out (R60 to R62) -/

theorem grantTo {r : Requester} : s₀.Upholds (s.grantTo i r) := by
  cases r
  case ccConnection => exact h.enterConnected i
  case vcHost | planRecord => exact h.opGranted i
  case planAnswer => exact h.planAnswered i
  case planFax => exact h.planFaxGranted i
  case planVoice => exact h.mailboxStep i

omit i in
theorem grant {p : Pending} {acts : List Activity} : s₀.Upholds (s.grant p acts) :=
  ((h.dropPending _).addActs _).grantTo _

theorem opFails : s₀.Upholds (s.opFails i) := by
  unfold State.opFails
  split
  · exact h.finishOp i
  · exact h

theorem planRecordFails : s₀.Upholds (s.planRecordFails i) := by
  unfold State.planRecordFails
  split
  · exact h
  · exact .ite ((h.opFails i).dropMessage.planNotRecorded i) (h.opFails i).dropMessage

theorem failTo {r : Requester} : s₀.Upholds (s.failTo i r) := by
  cases r
  case ccConnection => exact h.raiseCause i
  case vcHost => exact h.opFails i
  case planAnswer | planVoice => exact h.planNotRecorded i
  case planFax => exact h.planFaxFailed i
  case planRecord => exact h.planRecordFails i

omit i in
theorem handOutEnds : s₀.Upholds s.handOutEnds := by
  dsimp only [State.handOutEnds, State.settled]
  exact (ite h.considerReclaim.walkQueue h.considerReclaim).withBm (by exact .refl _)

end

theorem settleN (n : Nat) (h : s₀.Upholds s) : s₀.Upholds (Machine.settleN n s) := by
  induction n generalizing s with
  | zero => exact h.withBm (by exact .refl _)
  | succ n ih =>
    unfold Machine.settleN
    refine .ite ?_ (h.withBm (by exact .refl _))
    split
    · exact h.handOutEnds
    · split
      · exact h.handOutEnds
      · exact ih h.grant

theorem settle (h : s₀.Upholds s) : s₀.Upholds s.settle := h.settleN 32

/-! ## Rings, dialling, call progress, caller identification (chapters 1 and 2) -/

section
variable (h : s₀.Upholds s) (i : LineNo)
include h

theorem enterRinging : s₀.Upholds (s.enterRinging i) := by
  dsimp only [State.enterRinging]
  have hcounted := h.withCt (c := { s.ct with ordinal := (s.ct.ordinal + 1) % 4294967296 }) ⟨rfl, id⟩
  exact (((hcounted.updCc i).emptyDigits i (by exact fun _ => rfl)).updApc i).updCnt i

theorem ring : s₀.Upholds (s.ring i) := (ite (h.enterRinging i) h).raise.answerDecision i

theorem glare : s₀.Upholds (s.glare i) := .ite ((h.progressFails i).settle.glareReturn i) h

theorem abandoned : s₀.Upholds (s.abandoned i) :=
  .ite (((((h.closeClid i).updCc i).raise.updApc i).toIdle i).lineEvent i) h

theorem enterProgress : s₀.Upholds (s.enterProgress i) := by
  dsimp only [State.enterProgress]
  exact .ite h ((h.updCc i).updTu i (by exact id))

theorem beginElem (e : DialElem) : s₀.Upholds (s.beginElem i e).1 := by
  simp only [State.beginElem]
  split
  case h_1 | h_2 | h_3 =>
    dsimp only
    exact h.updCc i
  case h_4 =>
    simp only [apply_ite Prod.fst]
    exact .ite ((h.flashOrder i).updCc i) (h.flashOrder i)
  case h_5 =>
    split
    · simp only [apply_ite Prod.fst]
      exact .ite ((h.breakOrder i _).updCc i) (h.breakOrder i _)
    · exact h
    · dsimp only
      exact h.updCc i

theorem dialFrom (l : List DialElem) : s₀.Upholds (s.dialFrom i l) := by
  induction l generalizing s with
  | nil => exact h.enterProgress i
  | cons e r ih =>
    simp only [State.dialFrom]
    exact .ite (h.beginElem i e) (ih ((h.beginElem i e).updCc i))

theorem elemEnds : s₀.Upholds (s.elemEnds i) := (h.updCc i).dialFrom i _
theorem beginDialling : s₀.Upholds (s.beginDialling i) := ((h.updCc i).freeAssigned i).dialFrom i _
theorem progressConnects : s₀.Upholds (s.progressConnects i) := ((h.updCc i).updTu i (by exact id)).askConnection i
theorem noBusy : s₀.Upholds (s.noBusy i) := (h.updCc i).updVc i

theorem busyHangup : s₀.Upholds (s.busyHangup i) := by
  unfold State.busyHangup
  split
  · exact h
  · exact .ite h ((h.trim.updCc i).opEnds i)

theorem busyCycle : s₀.Upholds (s.busyCycle i) := by
  dsimp only [State.busyCycle]
  exact .ite (.ite (h.progressFails i) (h.updCc i)) (.ite (.ite (h.busyHangup i) (h.updCc i)) h)

theorem markBusyStart : s₀.Upholds (s.markBusyStart i) := by
  simp only [State.markBusyStart]
  split
  · exact .ite (h.updVc i) h
  · exact h

theorem toneStarts : s₀.Upholds (s.toneStarts i) := ((h.updTu i (by exact id)).updCc i).markBusyStart i
theorem toneEnded {cp : CpTone} : s₀.Upholds (s.toneEnded i cp) := (h.updTu i (by exact id)).updCc i

theorem ringback : s₀.Upholds (s.ringback i) := by
  dsimp only [State.ringback]
  exact .ite (((h.toneEnded i).noBusy i).updCc i) ((h.toneEnded i).noBusy i)

theorem callerKnown {c : Caller} : s₀.Upholds (s.callerKnown i c) := by
  have hkept : s.ct.Kept (match c.number with
      | some n => s.ct.lookup n
      | none => (s.ct, .unknown, false)).1 := by
    split
    · exact s.ct.lookup_kept _
    · exact .refl _
  dsimp only [State.callerKnown]
  exact (((((h.withCt hkept).withCnt).updCc i).updApc i).upd i
    (by exact fun _ => ⟨rfl, rfl, rfl⟩)).raise.answerDecision i

omit i in
theorem countClidBad : s₀.Upholds s.countClidBad := h.withCnt

theorem clidMessage {b : List Byte} : s₀.Upholds (s.clidMessage i b) := by
  simp only [State.clidMessage]
  split
  · exact h
  · split
    · exact (h.updTu i (by exact id)).countClidBad
    · exact h.updTu i (by exact id)
    · exact (h.updTu i (by exact id)).callerKnown i

theorem openClid : s₀.Upholds (s.openClid i) := .ite ((h.addActs i).updTu i (by exact id)) h

theorem flashDone : s₀.Upholds (s.flashDone i) := .ite ((h.updLif i).elemEnds i) (h.updLif i)
theorem breakDone : s₀.Upholds (s.breakDone i) := h.updLif i

theorem makeDone : s₀.Upholds (s.makeDone i) := by
  dsimp only [State.makeDone]
  exact .ite (h.updLif i) (.ite ((h.updLif i).updCc i) (h.updLif i))

theorem ringOnset : s₀.Upholds (s.ringOnset i) := by
  dsimp only [State.ringOnset]
  exact (h.updLif i).closeClid i

theorem burst : s₀.Upholds (s.burst i) := by
  dsimp only [State.burst]
  refine superviseLine ?_ i
  exact .ite (((h.updLif i).updLif i).ring i) (.ite (h.updLif i) ((h.updLif i).glare i))

theorem measure {volts : Nat} : s₀.Upholds (s.measure i volts) := h.superviseLine i

theorem candidateEnds {volts : Nat} : s₀.Upholds (s.candidateEnds i volts) :=
  .ite ((h.updLif i).measure i) (h.updLif i)

theorem burstEnds : s₀.Upholds (s.burstEnds i) := by
  dsimp only [State.burstEnds]
  exact .ite ((h.updLif i).openClid i) (h.updLif i)

theorem abandonExpires : s₀.Upholds (s.abandonExpires i) := (h.updLif i).abandoned i
theorem blankingDone {current : Bool} : s₀.Upholds (s.blankingDone i current) := h.updLif i
theorem loopLost : s₀.Upholds (s.loopLost i) := (h.updLif i).raiseCause i

theorem checkLine {volts : Nat} : s₀.Upholds (s.checkLine i volts) :=
  .ite ((h.updLif i).measure i) ((h.updLif i).updLif i)

theorem dialTone : s₀.Upholds (s.dialTone i) := by
  unfold State.dialTone
  split
  · exact h.beginDialling i
  · exact h.elemEnds i
  · exact h

theorem noDialTone : s₀.Upholds (s.noDialTone i) := (h.superviseLine i).progressFails i

theorem cpStart : s₀.Upholds (s.cpStart i) := by
  simp only [State.cpStart]
  split
  case h_1 => exact h.toneStarts i
  case h_2 =>
    exact .ite (((ite (h.busyCycle i) (h.noBusy i)).updTu i (by exact id)).toneStarts i)
      ((ite (h.busyCycle i) (h.noBusy i)).updTu i (by exact id))
  case h_3 | h_4 => exact h

theorem cpEnd : s₀.Upholds (s.cpEnd i) := by
  simp only [State.cpEnd]
  have hquiet := (h.toneEnded i (cp := .quiet)).noBusy i
  split
  case h_1 => exact .ite hquiet (.ite (h.toneEnded i) (.ite (h.ringback i) hquiet))
  case h_2 => exact h.toneEnded i
  case h_3 | h_4 => exact h

theorem cpSilent : s₀.Upholds (s.cpSilent i) := (h.updTu i (by exact id)).busyCycle i

theorem speechFrame {samples : List Int} : s₀.Upholds (s.speechFrame i samples) := by
  dsimp only [State.speechFrame]
  exact .ite (.ite (((h.updTu i (by exact id)).updCc i).progressConnects i) ((h.updTu i (by exact id)).updCc i))
    ((h.updTu i (by exact id)).updCc i)

theorem ringbackGone : s₀.Upholds (s.ringbackGone i) := .ite ((h.updCc i).progressConnects i) (h.updCc i)

theorem settleDone : s₀.Upholds (s.settleDone i) :=
  .ite (h.updCc i) (.ite ((h.updCc i).planAsks i) ((h.updCc i).askConnection i))

theorem queueDigit {d : Dtmf} : s₀.Upholds (s.queueDigit i d) := by
  unfold State.queueDigit
  split
  · next hroom =>
    exact ((h.updTu i (by
      intro _
      rw [List.length_append, List.length_singleton]
      exact hroom)).updCnt i).raise
  · exact h.updCnt i

theorem digitStops : s₀.Upholds (s.digitStops i) := by
  unfold State.digitStops
  split
  · exact h
  · refine .ite ?_ h
    split
    case h_1 | h_2 | h_3 => exact h.opEnds i
    case h_4 => exact h.updVc i
    case h_5 => exact h

theorem toneDigitDone : s₀.Upholds (s.toneDigitDone i) := h.updTu i (by exact id)

theorem guardDone : s₀.Upholds (s.guardDone i) :=
  .ite ((((h.updCc i).updLif i).toIdle i).lineEvent i) ((h.updCc i).updLif i)

theorem startDrain : s₀.Upholds (s.startDrain i) :=
  .ite (((h.joinCause i).updCc i).startClearing i) ((h.joinCause i).updCc i)

theorem entryExpires {k : Nat} {r : EntryRec} : s₀.Upholds (s.entryExpires k r) :=
  (h.leaveQueue (by exact nofun)).recordEvent

omit i in
theorem pendingFails {p : Pending} : s₀.Upholds (s.pendingFails p) := (h.reach.dropPending _).failTo _

/-! ## Data pump and block link (chapters 5 and 6) -/

theorem dataTrainingReading {q : Nat} : s₀.Upholds (s.dataTrainingReading i q) :=
  .ite (.ite ((h.updDp i).trainingRead i) (h.updDp i)) h

theorem faxTrainingReading {q : Nat} : s₀.Upholds (s.faxTrainingReading i q) :=
  .ite (.ite ((h.updDp i).faxCheckRead i) (h.updDp i)) h

theorem runningTests : s₀.Upholds (s.runningTests i) := by
  simp only [State.runningTests]
  refine .ite (h.enterRetraining i) (.ite ?_ (.ite ?_ h))
  · split
    · exact h.enterRateChange i
    · exact h
  · split
    · exact h.askForward i
    · exact h

theorem runningReading {q : Nat} : s₀.Upholds (s.runningReading i q) :=
  .ite (((h.updDp i).updDp i).runningTests i) (.ite (h.updDp i) (h.updDp i))

theorem takeOffer {c : Cls} : s₀.Upholds (s.takeOffer i c) :=
  .ite ((h.updDp i).completeTraining i) (h.updDp i)

theorem confirm {begun : Nat} : s₀.Upholds (s.confirm i begun) :=
  .ite ((h.updDp i).completeRateChange i) (h.updDp i)

theorem decline : s₀.Upholds (s.decline i) := h.updDp i

theorem remoteRate {c cur : Cls} : s₀.Upholds (s.remoteRate i c cur) := by
  dsimp only [State.remoteRate]
  exact .ite (h.enterRateChange i) (.ite (.ite (h.askForward i) ((h.askForward i).decline i)) (h.decline i))

/-- Setup ends in EC mode with an agreed window of at most 15 (R83). -/
theorem setupEc {window size : Nat} (hlink : (s.line i).blc.link = .setup) : s₀.Upholds (s.setupEc i window size) := by
  dsimp only [State.setupEc]
  have hown : s.ownWindow i ≤ 15 := by
    unfold State.ownWindow clamp
    omega
  refine startTx (raise (h.updBlc i (by
    intro hb
    have hempty := Blc.unacked_eq_nil hb (by rw [hlink]; exact nofun) (by rw [hlink]; exact nofun)
    have htx := Blc.tx_le hb
    have hrx := Blc.rx_le hb
    refine ⟨htx, hrx, ?_, (Nat.min_le_left ..).trans hown, Nat.zero_lt_succ _, ?_, fun _ _ => hempty,
      fun _ => rfl⟩
    · simp only [Blc.resetAdaptation, hempty]
      exact Nat.zero_le _
    · simp only [Blc.resetAdaptation, hempty]
      rfl))) i

theorem setupPlain : s₀.Upholds (s.setupPlain i) :=
  startTx (raise (h.updBlc i (by
    exact fun hb => Blc.inBounds_congr hb le_rfl le_rfl rfl rfl rfl (fun hne => absurd rfl hne)
      fun _ _ => rfl))) i

theorem transmitted : s₀.Upholds (s.transmitted i) := by
  simp only [State.transmitted]
  split
  · exact .ite ((h.updBlc i (by exact id)).beginExchange i) (h.updBlc i (by exact id))
  · exact (h.updBlc i (by exact id)).startTx i

theorem countBadCheck : s₀.Upholds (s.countBadCheck i) := by
  unfold State.countBadCheck
  exact h.updCnt i

theorem takeSup {kind : SupKind} {n : Nat} : s₀.Upholds (s.takeSup i kind n) := by
  dsimp only [State.takeSup]
  exact startTx (h.updBlc i (by exact fun hb => Blc.inBounds_bySup (Blc.inBounds_removeAcked hb n) kind n)) i

theorem retryExpires : s₀.Upholds (s.retryExpires i) := by
  simp only [State.retryExpires]
  split
  · exact h.updBlc i (by exact id)
  · next k r hlist =>
    have hretried := h.updBlc i (f := fun b => { b with
      unacked := { k with retries := k.retries + 1 } :: r, resend := some k.seq, retryDue := some (s.now + 1500) }) (by
        refine fun hb => Blc.inBounds_congr hb le_rfl le_rfl ?_ rfl rfl (fun hup hsusp => ⟨hup, hsusp⟩) id
        rw [hlist]
        rfl)
    exact .ite (hretried.raiseCause i) (hretried.startTx i)

theorem answerBlock {k : SupKind} : s₀.Upholds (s.answerBlock i k) :=
  startTx (h.updBlc i (by exact fun hb => Blc.inBounds_place hb _)) i

theorem appendBlock {p : List Byte} (hroom : (s.line i).blc.rx.length + p.length ≤ 2048) :
    s₀.Upholds (s.appendBlock i p) := by
  unfold State.appendBlock
  exact answerBlock (updCnt (h.updBlc i (by
    exact fun hb => Blc.inBounds_withRx hb ((List.length_append ..).trans_le hroom))) i) i

theorem takeBlock {seq : Nat} {p : List Byte} : s₀.Upholds (s.takeBlock i seq p) := by
  simp only [State.takeBlock]
  refine .ite (h.answerBlock i) (.ite ?_ (.ite (.ite h ((h.updBlc i (by exact id)).answerBlock i)) (h.answerBlock i)))
  split
  · next hroom => exact h.appendBlock i hroom
  · exact (h.updBlc i (by exact id)).answerBlock i

theorem plainByte {x : Byte} : s₀.Upholds (s.plainByte i x) := by
  unfold State.plainByte
  split
  · next hroom => exact h.updBlc i fun hb => Blc.inBounds_withRx hb ((List.length_append ..).trans_le hroom)
  · exact h.updCnt i

theorem takeData {bytes : List Byte} : s₀.Upholds (s.takeData i bytes) := by
  dsimp only [State.takeData]
  refine startTx (txRose (updCnt (h.updBlc i (by
    intro hb
    have htx := Blc.tx_le hb
    refine Blc.inBounds_withTx hb ?_
    simp only [List.length_append, List.length_take, Config.bufferSize]
    omega)) i) i) i

theorem notReadyTest : s₀.Upholds (s.notReadyTest i) := .ite ((h.updBlc i (by exact id)).answerBlock i) h
theorem formDataOut : s₀.Upholds (s.formDataOut i).1 :=
  notReadyTest (h.updBlc i (by
    exact fun hb => Blc.inBounds_withRx hb ((List.drop_sublist _ _).length_le.trans (Blc.rx_le hb)))) i

/-! ## Fax events (chapter 7) -/

theorem noJob : s₀.Upholds (s.noJob i) := (h.newJob i).failJob i

theorem answerMissing {m : FaxMsg} {tries : Nat} : s₀.Upholds (s.answerMissing i m tries) := by
  unfold State.answerMissing
  refine .ite (h.failJob i) ?_
  split
  · exact (h.updJob i).updFxc i
  · exact h.updFxc i

theorem senderMissing : s₀.Upholds (s.senderMissing i) := by
  unfold State.senderMissing
  split
  · exact .ite (h.doneJob i) (h.failJob i)
  · exact h

theorem atJob {d : FaxDir} {f : FaxJob → State} (hf : ∀ j, s₀.Upholds (f j)) : s₀.Upholds (s.atJob i d f) := by
  unfold State.atJob
  split
  · exact .ite (hf _) h
  · exact h

theorem unreadable : s₀.Upholds (s.unreadable i) := by
  unfold State.unreadable
  split
  · exact .ite (h.updJob i) h
  · exact h

theorem takeCapability {j : FaxJob} {highest : Cls} {fine : Bool} {widest reserve : Nat} :
    s₀.Upholds (s.takeCapability i j highest fine widest reserve) := by
  dsimp only [State.takeCapability]
  exact .ite (((h.updJob i).updFxc i).failJob i) ((((h.updJob i).updFxc i).updJob i).faxAsk i)

theorem takeChoice {c : Cls} {resolution width : Nat} : s₀.Upholds (s.takeChoice i c resolution width) := by
  simp only [State.takeChoice]
  split
  · exact ((h.updJob i).faxSend i).failJob i
  · exact .ite (((h.updJob i).faxSend i).failJob i) ((((h.updJob i).updJob i).startCheck i).faxTell i)

theorem takeConfirmation {j : FaxJob} {accepted : Bool} : s₀.Upholds (s.takeConfirmation i j accepted) := by
  dsimp only [State.takeConfirmation]
  exact .ite ((((h.updFxc i).updJob i).startCheck i).faxSend i) ((h.updFxc i).failJob i)

theorem takeAnnouncement {j : FaxJob} {c : Cls} : s₀.Upholds (s.takeAnnouncement i j c) := by
  simp only [State.takeAnnouncement]
  split
  case h_1 => exact ((h.updJob i).updDp i).senderWait i
  case h_2 | h_3 => exact (h.startCheck i).senderWait i
  case h_4 | h_5 | h_6 | h_7 => exact h

theorem burstSent {j : FaxJob} : s₀.Upholds (s.burstSent i j) := by
  unfold State.burstSent
  split
  · exact h.updFxc i
  · exact h

/-- At an accepted verdict the accumulator is eight times an entry threshold (R79). -/
theorem takeVerdict {rejected : Option Cls} : s₀.Upholds (s.takeVerdict i rejected) := by
  simp only [State.takeVerdict]
  split
  · exact (h.updFxc i).checkAccepted i
  · exact (h.updFxc i).checkRejected i

theorem takeFrame {j : FaxJob} {n : Nat} {b : List Byte} : s₀.Upholds (s.takeFrame i j n b) :=
  ((ite (h.storeFrame i) h).updJob i).senderWait i

theorem readRound {j : FaxJob} (l : List Nat) : s₀.Upholds (s.readRound i j l).1 := by
  induction l generalizing s with
  | nil => exact h
  | cons n r ih => exact ih (h.readFrame i)

theorem roundSent {j : FaxJob} : s₀.Upholds (s.roundSent i j) := ((h.readRound i _).updFxc i).faxAsk i

theorem takeRoundEnd {j : FaxJob} : s₀.Upholds (s.takeRoundEnd i j) := by
  unfold State.takeRoundEnd
  split
  · exact h.faxTell i
  · exact .ite (h.judgeRound i) h

theorem takeClose {j : FaxJob} {more : Bool} : s₀.Upholds (s.takeClose i j more) := by
  unfold State.takeClose
  split
  · exact .ite (h.completePage i) h
  · exact .ite (h.faxTell i) h

theorem pageConfirmed {j : FaxJob} : s₀.Upholds (s.pageConfirmed i j) := by
  dsimp only [State.pageConfirmed]
  have hcounted {u : State} (hu : s₀.Upholds u) : s₀.Upholds (((u.setSlot i 2 none).updCnt i
      fun k => { k with faxSent := satAdd k.faxSent 1 }).raise .faxp i) :=
    ((hu.setSlot i (by exact nofun)).updCnt i).raise
  exact .ite (((hcounted (h.updFxc i)).updJob i).beginSendPage i) (((hcounted (h.updFxc i)).updJob i).updFxc i)

theorem takeRelease {j : FaxJob} : s₀.Upholds (s.takeRelease i j) :=
  .ite ((ite (h.faxSend i) h).doneJob i) (h.failJob i)

end

/-! ## Compaction (R128, R129) -/

section
variable (h : s₀.Upholds s)
include h

/-- A change of the store that keeps its layout as the pack goes on. -/
theorem withPacking {u : Stc} (hsizes : u.dir.length = s.stc.dir.length)
    (hopens : ∀ {id e}, s.stc.entry id = some e → e.open_ = true → ∃ f, u.entry id = some f ∧ f.open_ = true)
    (hlayout : s₀.stc.Layout → s.stc.Layout → u.Layout) : s₀.Upholds { s with stc := u } where
  __ := h
  tables hs := by
    obtain ⟨hflags, hrecs, hdir, htable, hnotices⟩ := h.tables hs
    exact ⟨hflags, hrecs, hsizes.trans hdir, htable, hnotices⟩
  recorders hs := recordersOk_of_windows (s := s) (fun _ => rfl) (fun he ho => hopens he ho) (h.recorders hs)
  store hs := hlayout hs (h.store hs)

/-- The pack's record changes while no move is in flight. -/
theorem withPack {p : Pack} {r : Option PackResult} (hmove : s₀.stc.Layout → s.stc.move = none) :
    s₀.Upholds { s with stc := { s.stc with pack := p, packResult := r } } :=
  h.withPacking rfl (fun he ho => ⟨_, he, ho⟩) fun hs ht => ht.withPack fun _ => hmove hs

theorem packEnds {o : PackOutcome} (hmove : s₀.stc.Layout → s.stc.move = none) : s₀.Upholds (s.packEnds o) :=
  (h.withPack hmove).raisePart

theorem startMove {voice : Bool} {id new : Nat} (hwalk : s.stc.walkRegion voice = .move id new)
    (hbusy : s₀.stc.Layout → s.stc.pack.st ≠ .idle) :
    s₀.Upholds { s with stc := s.stc.startMove s.now id new } :=
  h.withPacking (List.length_modify ..) (Stc.opens_updEntry fun _ => rfl)
    fun hs ht => ht.startMove hwalk (hbusy hs)

theorem walkLast {voice : Bool}
    (hmove : s₀.stc.Layout → s.stc.move = none) (hbusy : s₀.stc.Layout → s.stc.pack.st ≠ .idle) :
    s₀.Upholds (s.walkLast voice) := by
  unfold State.walkLast
  split
  · next hwalk => exact h.startMove hwalk hbusy
  · exact h.packEnds hmove
  · exact h.packEnds hmove

theorem packWalk (hmove : s₀.stc.Layout → s.stc.move = none) (hbusy : s₀.stc.Layout → s.stc.pack.st ≠ .idle) :
    s₀.Upholds s.packWalk := by
  unfold State.packWalk
  split
  · exact h.walkLast hmove hbusy
  · split
    · next hwalk => exact h.startMove hwalk hbusy
    · exact (h.withPack hmove).walkLast hmove hbusy
    · exact (h.withPack hmove).walkLast hmove hbusy
  · exact h.walkLast hmove hbusy

/-- A move completes: the pack is not IDLE, since a move was in flight (R129). -/
theorem moveDone {m : Move} {e : Entry} (hmove : s.stc.move = some m) : s₀.Upholds (s.moveDone m e) := by
  dsimp only [State.moveDone]
  have hbusy : s₀.stc.Layout → s.stc.pack.st ≠ .idle := fun hs hidle =>
    absurd (((h.store hs).idle hidle).symm.trans hmove) nofun
  have hdone {p : Pack} := h.withPacking (u := { { (s.stc.updEntry m.id fun e => { e with
      base := m.new, moving := false }) with move := none } with pack := p })
    (List.length_modify ..) (fun he ho => Stc.opens_updEntry (t := s.stc) (id := m.id) (f := fun e => { e with
      base := m.new, moving := false }) (fun _ => rfl) he ho) fun _ ht => (ht.moveDone hmove).withPack fun _ => rfl
  exact .ite (hdone.packEnds fun _ => rfl) (hdone.packWalk (fun _ => rfl) hbusy)

/-- A cell of a move is copied, its entry damaged where the read meets a parity error (R129, R131). -/
theorem moveCell {m : Move} {e : Entry} (hmove : s.stc.move = some m) : s₀.Upholds (s.moveCell m e) := by
  simp only [State.moveCell]
  obtain ⟨mem, parity, hcopy⟩ := s.stc.copyCell_eq e (e.kind.cell m.old m.mark) (e.kind.cell m.new m.mark)
  rw [hcopy]
  have hcopied := h.withPacking (u := { s.stc with
      mem := mem, badParity := parity, move := some { m with mark := m.mark + 1, due := s.now + 1 } })
    rfl (fun he ho => ⟨_, he, ho⟩) fun _ ht => ht.advance rfl rfl rfl hmove rfl rfl rfl rfl
  by_cases hbad : s.stc.badIn (e.kind.cell m.old m.mark * Config.cellBytes) Config.cellBytes = true
  · simp only [if_pos hbad]
    have hdamaged := (hcopied.withStc (.damage _ m.id)).withCnt
      (c := { s.cnt with storeParity := satAdd s.cnt.storeParity 1 })
    exact .ite (hdamaged.moveDone rfl) hdamaged
  · simp only [if_neg hbad]
    exact .ite (hcopied.moveDone rfl) hcopied

end

/-! ## Voice operations (chapter 9) -/

section
variable (h : s₀.Upholds s) (i : LineNo)
include h

theorem voiceParity {id : Nat} : s₀.Upholds (s.voiceParity i id) := by
  unfold State.voiceParity
  exact (h.withStc (.damage ..)).updCnt i

theorem setOp {o : VoiceOp} : s₀.Upholds (s.setOp i o) := h.updVc i

theorem playStarts {o : VoiceOp} : s₀.Upholds (s.playStarts i o) := (h.updVc i).setOp i

theorem loadCoder {o : VoiceOp} {e : Entry} : s₀.Upholds (s.loadCoder i o e) := by
  dsimp only [State.loadCoder]
  exact .ite (h.updVc i) ((ite (h.voiceParity i) h).updVc i)

theorem playOut {o : VoiceOp} {n : Nat} : s₀.Upholds (s.playOut i o n) := (h.updVc i).setOp i

theorem playCell {o : VoiceOp} {e : Entry} : s₀.Upholds (s.playCell i o e) := by
  dsimp only [State.playCell]
  have hread : s₀.Upholds (if (s.stc.readCell o.id e o.cell e.used).bad then s.voiceParity i o.id else s) :=
    .ite (h.voiceParity i) h
  exact .ite ((hread.updVc i).setOp i) (hread.setOp i)

theorem nextRepeat {o : VoiceOp} : s₀.Upholds (s.nextRepeat i o) := (h.updVc i).setOp i

theorem repeatEnds {o : VoiceOp} : s₀.Upholds (s.repeatEnds i o) := .ite (h.opEnds i) (.ite (h.nextRepeat i) (h.setOp i))

theorem reachCell {o : VoiceOp} : s₀.Upholds (s.reachCell i o) := by
  simp only [State.reachCell]
  split
  · exact .ite ((h.playOut i).playCell i) ((h.playOut i).repeatEnds i)
  · exact (h.playOut i).repeatEnds i
  · exact h.playOut i

theorem gapEnds {o : VoiceOp} : s₀.Upholds (s.gapEnds i o) := (h.updVc i).nextRepeat i

theorem frameBoundary : s₀.Upholds (s.frameBoundary i) := by
  unfold State.frameBoundary
  split
  · exact h
  · split
    case h_1 | h_2 | h_3 => exact .ite (h.setOp i) h
    case h_4 | h_5 => exact h

theorem silentOut {o : VoiceOp} : s₀.Upholds (s.silentOut i o) := (h.updVc i).setOp i
theorem frameStarts : s₀.Upholds (s.frameStarts i) := h.updVc i

theorem playFrame {o : VoiceOp} : s₀.Upholds (s.playFrame i o) := by
  unfold State.playFrame
  split
  case h_1 => exact ((h.playOut i).frameStarts i).frameBoundary i
  case h_2 | h_3 => exact ((h.silentOut i).frameStarts i).frameBoundary i
  case h_4 | h_5 => exact h

theorem recordStarts {o : VoiceOp} {e : Entry} : s₀.Upholds (s.recordStarts i o e) := by
  dsimp only [State.recordStarts]
  exact .ite (((((h.loadCoder i).updCc i).updVc i).setOp i).opEnds i) ((((h.loadCoder i).updCc i).updVc i).setOp i)

/-- The samples encoded fill the segment up to its bound (R142, R143). -/
theorem recSamples {o : VoiceOp} {l : List Int} : s₀.Upholds (s.recSamples i o l).1 := by
  dsimp only [State.recSamples]
  have hsound : (RecRun.mk s.stc (s.line i).vc.coder (s.line i).vc.code (s.atBound o)).sound o := fun hfull e he => by
    simp only [State.atBound, he] at hfull
    exact not_le.1 (of_decide_eq_false hfull)
  exact (h.withStc (recSamples_kept l hsound)).updVc i

theorem digitEnd {o : VoiceOp} : s₀.Upholds (s.digitEnd i o) := h.digitTrim.opEnds i
theorem judgeSilence {o : VoiceOp} {n : Nat} : s₀.Upholds (s.judgeSilence i o n) := .ite (h.trim.opEnds i) (h.setOp i)

theorem recordFrame {o : VoiceOp} {l : List Int} : s₀.Upholds (s.recordFrame i o l) := by
  dsimp only [State.recordFrame]
  exact .ite ((h.recSamples i).digitEnd i) (.ite ((h.recSamples i).opEnds i) ((h.recSamples i).judgeSilence i))

theorem limitReached {o : VoiceOp} {l : List Int} : s₀.Upholds (s.limitReached i o l) := by
  dsimp only [State.limitReached]
  exact .ite ((h.recSamples i).opEnds i) ((h.recSamples i).setOp i)

theorem startOp {o : VoiceOp} {a : Activity} : s₀.Upholds (s.startOp i o a) := by
  simp only [State.startOp]
  split
  · exact ((h.setOp i).request i _ _ _).opGranted i
  · exact (h.setOp i).request i _ _ _

theorem stopWaiting {o : VoiceOp} : s₀.Upholds (s.stopWaiting i o) := by
  dsimp only [State.stopWaiting]
  exact .ite (.ite (h.finishOp i) (h.finishOp i).dropMessage) (h.setOp i)

/-! ## Answer plans (chapter 10) -/

theorem callingBurst : s₀.Upholds (s.callingBurst i) := by
  dsimp only [State.callingBurst]
  exact .ite ((h.updApc i).faxHandoff i) (h.updApc i)

theorem takeOp : s₀.Upholds (s.takeOp i).1 := by
  unfold State.takeOp
  split
  · exact h
  · split
    · exact h.finishOp i
    · exact h.stopWaiting i
    · exact (h.finishOp i).settleMessage i

theorem planTaken : s₀.Upholds (s.planTaken i) := (((h.takeOp i).endActs i).planOutcome i).planInactive i

end

/-! ## Settings, resets and start-up (chapter 12) -/

section
variable (h : s₀.Upholds s)
include h

theorem settingTakes (code : Nat) (old : Settings) : s₀.Upholds (s.settingTakes code old) := by
  unfold State.settingTakes
  split
  · exact foldl (fun i hu => hu.lineEvent i) _ h.recomputeGroups
  · exact h.withCt (.foldl Ct.placeStatic_kept _ _)
  · exact h

theorem softCheck (i : LineNo) : s₀.Upholds (s.softCheck i) :=
  .ite ((h.applyResult i).same rfl rfl rfl rfl rfl rfl rfl rfl rfl) h

theorem softLif (i : LineNo) : s₀.Upholds (s.softLif i) := by
  dsimp only [State.softLif]
  exact (h.release i).updLif i

theorem softCc (i : LineNo) : s₀.Upholds (s.softCc i) := by
  dsimp only [State.softCc]
  exact ((ite ((h.closeClid i).ccClears i)
    (ite (((h.closeClid i).updCc i).toIdle i) (h.closeClid i))).updCc i).emptyDigits i (by exact fun _ => rfl)

/-- The coder starts anew, the pump has no readings, the bytes discarded are counted (R66, R81, R97, R147). -/
theorem softBlocks (i : LineNo) : s₀.Upholds (s.softBlocks i) := by
  dsimp only [State.softBlocks]
  refine h.updLine i _ (fun _ hs => ⟨hs.1, ?_⟩) fun _ hs => ?_
  · exact Blc.inBounds_fresh rfl (Nat.zero_le _) rfl (Nat.zero_le _) (Nat.zero_lt_succ _) fun _ => rfl
  · exact State.recordersOk_upd_emptied hs fun _ => rfl

theorem softLine (i : LineNo) : s₀.Upholds (s.softLine i) := (((h.softCheck i).softLif i).softCc i).softBlocks i
theorem softLines : s₀.Upholds s.softLines := foldl (fun i hu => hu.softLine i) _ h

/-- A soft reset empties the windows, closes the entries, and leaves no queue (R48, R132, R169, R172). -/
theorem softReset : s₀.Upholds s.softReset := by
  have hsoft := h.softLines
  have hwindows := s.softLines_windows
  dsimp only [State.softReset]
  generalize s.softLines = u at hsoft hwindows ⊢
  refine raisePart (s := { u with
    cause := .hostSoft, gd := u.gd.soft, bm := {}, stc := u.stc.soft, lp := u.lp.soft, nu := {} }) ?_
  exact {
    phase := hsoft.phase
    queues := fun _ => ⟨Nat.zero_le _, Nat.zero_le _⟩
    events := fun _ => Nat.zero_le _
    lines := hsoft.lines
    callQueue := fun _ => Gd.queueOk_reset rfl rfl
    pending := fun _ => List.nodup_nil
    tables := fun hs => by
      obtain ⟨-, -, hdir, htable, hnotices⟩ := hsoft.tables hs
      exact ⟨rfl, rfl, (List.length_map ..).trans hdir, htable, hnotices⟩
    callers := hsoft.callers
    recorders := fun _ => State.recordersOk_of_emptied fun j => congrFun hwindows j
    store := fun hs => (hsoft.store hs).soft }

end

/-! ## The requests, as they are taken (R166) -/

section
variable (h : s₀.Upholds s)
include h

omit h in
theorem answerIte {c : Prop} [Decidable c] {a b : Answer} (ha : s₀.Upholds a.state) (hb : s₀.Upholds b.state) :
    s₀.Upholds (if c then a else b).state := by
  split
  · exact ha
  · exact hb

theorem okWith {f : List Byte} : s₀.Upholds (Machine.okWith s f).state := h

theorem onLine {line : Nat} {f : LineNo → Answer} (hf : ∀ i, s₀.Upholds (f i).state) :
    s₀.Upholds (Machine.onLine s line f).state := by
  unfold Machine.onLine
  split
  · exact hf _
  · exact h

theorem onPart {line : Nat} {a : Answer} (ha : s₀.Upholds a.state) : s₀.Upholds (Machine.onPart s line a).state :=
  answerIte ha h

theorem onEntry {id : Nat} {f : Entry → Answer} (hf : ∀ e, s.stc.entry id = some e → s₀.Upholds (f e).state) :
    s₀.Upholds (Machine.onEntry s id f).state := by
  unfold Machine.onEntry
  refine answerIte h ?_
  split
  · next he => exact hf _ he
  · exact h

/-! ### Calls, groups, the caller table and the budget (chapters 2 to 4) -/

theorem takeCall {line kind maxc floor : Nat} {dial : List (Nat × Nat)} :
    s₀.Upholds (takeCall s line kind maxc floor dial).state :=
  h.onLine fun i => by
    dsimp only
    split
    · exact answerIte h (answerIte h (answerIte h (h.enterSeized i)))
    · exact h

theorem takeAnsr {line kind maxc floor : Nat} : s₀.Upholds (takeAnsr s line kind maxc floor).state :=
  h.onLine fun i => by
    split
    · exact h
    · exact answerIte ((h.updApc i).enterAnswering i) h

theorem takeDigr {line : Nat} : s₀.Upholds (takeDigr s line).state :=
  h.onLine fun i => (h.emptyDigits i (by exact fun _ => rfl)).okWith

theorem takeTone {line : Nat} {digits : List Byte} : s₀.Upholds (takeTone s line digits).state :=
  h.onLine fun i => by
    split
    · exact h
    · exact answerIte h (answerIte h (answerIte h (h.updTu i (by exact id)).okWith))

theorem rels (i : LineNo) {drain : Bool} : s₀.Upholds (s.rels i drain).state := by
  simp only [State.rels]
  split
  case h_1 | h_2 => exact h
  case h_3 => exact ((h.updCc i).updApc i).okWith
  case h_4 | h_5 | h_6 | h_7 => exact h.raiseCause i
  case h_8 => exact answerIte (ite h (h.startDrain i)) (h.raiseCause i)

theorem takeRels {line drain : Nat} : s₀.Upholds (takeRels s line drain).state :=
  h.onLine fun i => by
    split
    · exact h.rels i
    · exact h

theorem dispatchNew {c : GroupCall} (i : LineNo) : s₀.Upholds (s.dispatchNew c i).state := by
  simp only [State.dispatchNew]
  split
  · next k hk =>
    obtain ⟨-, hout⟩ := Gd.not_isQueued_of_findIdx hk (by exact nofun)
    exact (h.setRec hout (by exact nofun)).dispatchTo i _ _
  · exact h.dispatchTo i _ _

theorem queueCall {c : GroupCall} {k : Nat} (hk : s.freeRec = some k) : s₀.Upholds (s.queueCall c k).state := by
  obtain ⟨hlt, hout⟩ := Gd.not_isQueued_of_findIdx hk (by exact nofun)
  exact h.joinQueue (List.perm_append_singleton ..) hlt hout rfl

theorem groupCall {c : GroupCall} : s₀.Upholds (s.groupCall c).state := by
  unfold State.groupCall
  refine answerIte h ?_
  split
  · exact h.dispatchNew _
  · refine answerIte h ?_
    split
    · next hk => exact h.queueCall hk
    · exact h

theorem takeCallGroup {line group kind maxc floor wait hostTag : Nat} {dial : List (Nat × Nat)} :
    s₀.Upholds (takeCallGroup s line group kind maxc floor wait hostTag dial).state :=
  h.onPart <| by
    split
    · exact h.groupCall
    · exact h

theorem takeCncl {line entry : Nat} : s₀.Upholds (takeCncl s line entry).state :=
  h.onPart <| answerIte h <| by
    split
    · exact h.leaveQueue (by exact nofun)
    · exact h

theorem takeCtad {line cls : Nat} {number label : List Byte} : s₀.Upholds (takeCtad s line number cls label).state :=
  h.onPart <| by
    split
    · refine answerIte ?_ h
      split
      · next hentry => exact h.withCt (Ct.addEntry_kept hentry)
      · exact h
    · exact h

theorem takeCtdl {line position : Nat} : s₀.Upholds (takeCtdl s line position).state :=
  h.onPart <| answerIte h <| by
    split
    · exact h.withCt (Ct.put_none_kept ..)
    · exact h

theorem takeCtrd {line start : Nat} : s₀.Upholds (takeCtrd s line start).state := h.onPart (answerIte h h)
theorem takeBudg {line : Nat} : s₀.Upholds (takeBudg s line).state := h.onPart h

/-! ### The block link and the fax transfer (chapters 6 and 7) -/

theorem takeFlow {line value : Nat} : s₀.Upholds (takeFlow s line value).state :=
  h.onLine fun i => by
    split
    · exact (h.updBlc i (by exact id)).okWith
    · exact h

theorem acceptJob (i : LineNo) {j : FaxJob} : s₀.Upholds (s.acceptJob i j).state :=
  ite ((h.newJob i).startJob i) (h.newJob i)

theorem takeFaxs {line resolution width policy : Nat} {pages : List Nat} :
    s₀.Upholds (takeFaxs s line pages resolution width policy).state :=
  h.onLine fun i => by
    split
    · refine answerIte h ?_
      split
      · exact h
      · exact h
      · exact h.acceptJob i
    · exact h

theorem takeFaxr {line policy : Nat} : s₀.Upholds (takeFaxr s line policy).state :=
  h.onLine fun i => by
    split
    · split
      · exact h
      · exact h.acceptJob i
    · exact h

theorem takeFxst {line : Nat} : s₀.Upholds (takeFxst s line).state :=
  h.onLine fun i => by split <;> exact h

theorem takeFxab {line : Nat} : s₀.Upholds (takeFxab s line).state :=
  h.onLine fun i => answerIte (((ite (h.faxSend i) h).endJob i).raiseCause i) h

/-! ### The message store and compaction (chapter 8) -/

theorem takeScrt {line kind extent mailbox : Nat} : s₀.Upholds (takeScrt s line kind extent mailbox).state :=
  h.onPart <| by
    split
    · exact h
    · split
      · exact h
      · next halloc => exact h.withStc (Stc.Kept.alloc (by exact fun _ => ⟨rfl, rfl, rfl, rfl, rfl⟩) halloc).1

theorem takeScls {line id : Nat} : s₀.Upholds (takeScls s line id).state :=
  h.onPart <| h.onEntry fun _ _ => answerIte h (answerIte h h.closeEntry)

theorem takeSdel {line id : Nat} : s₀.Upholds (takeSdel s line id).state :=
  h.onPart <| h.onEntry fun _ he => by
    split
    · exact h
    · next hdelete =>
      obtain ⟨hclosed, hstill⟩ := State.deleteRefusal_eq_none hdelete
      exact h.freeEntry he hclosed hstill

/-- RECORD is given where the entry is OPEN and no other slot has it (R123). -/
theorem takeAtch {line slot id right : Nat} : s₀.Upholds (takeAtch s line slot id right).state :=
  h.onLine fun i => by
    split
    · next k r _ _ =>
      refine answerIte h (answerIte h ?_)
      split
      · exact h
      · next he =>
        split
        · next hright =>
          cases r with
          | play => exact h.setSlot i (by exact nofun)
          | record =>
            obtain ⟨hopen, hother⟩ := hright.resolve_left nofun
            refine h.setRecordSlot i he hopen fun j l hjl => ?_
            have hthis := List.any_eq_false.1 (Bool.eq_false_iff.2 (List.any_eq_false.1 hother j (mem_lineNos j))) l
              (mem_lineNos l)
            have hheld : (s.line j).window.get l = some { id := id, right := .record } := hjl
            simpa [hheld] using hthis
        · exact h
    · exact h

theorem takeDtch {line slot : Nat} : s₀.Upholds (takeDtch s line slot).state :=
  h.onLine fun i => by
    split
    · exact h
    · exact answerIte h (answerIte h (h.setSlot i (by exact nofun)))

theorem takeSwrt {line id : Nat} {bytes : List Byte} : s₀.Upholds (takeSwrt s line id bytes).state :=
  h.onPart <| answerIte h <| h.onEntry fun _ he => answerIte h (answerIte h
    (h.withStc (.appendBytes _ _ he (List.length_take_le ..))))

/-- A parity error met at a host read is counted (R125, R131). -/
theorem takeSred {line id offset count : Nat} : s₀.Upholds (takeSred s line id offset count).state :=
  h.onPart <| h.onEntry fun _ _ => answerIte (h.withStc (.damage ..)).withCnt h

theorem takeSlst {line start : Nat} : s₀.Upholds (takeSlst s line start).state := h.onPart (answerIte h h)
theorem takeSsta {line : Nat} : s₀.Upholds (takeSsta s line).state := h.onPart h

theorem takePackStart {line region : Nat} : s₀.Upholds (takePackStart s line region).state :=
  h.onPart <| by
    split
    · exact h
    · simp only
      split
      · exact h
      · next hidle =>
        have hmove : s₀.stc.Layout → s.stc.move = none := fun hs => (h.store hs).idle (not_not.1 hidle)
        exact (h.withPack hmove).packWalk hmove fun _ => nofun

theorem takePackStop {line : Nat} : s₀.Upholds (takePackStop s line).state :=
  h.onPart <| by
    split
    · exact h
    · exact h.withPacking rfl (fun he ho => ⟨_, he, ho⟩) fun _ ht => ht.withPack nofun
    · exact h

theorem takePack {line action region : Nat} : s₀.Upholds (takePack s line action region).state := by
  unfold Machine.takePack
  split
  · exact h.takePackStart
  · exact h.takePackStop
  · exact h

/-! ### Voice operations, answer plans, settings and counters (chapters 9 to 12) -/

theorem voiceCheck {line slot flag : Nat} {right : Right} {f : LineNo → LineNo → Bool → Nat → Entry → Answer}
    (hf : ∀ i k b id e, s₀.Upholds (f i k b id e).state) : s₀.Upholds (voiceCheck s line slot flag right f).state :=
  h.onLine fun i => by
    split
    · refine answerIte h (answerIte h ?_)
      split
      · exact h
      · refine answerIte h ?_
        split
        · exact answerIte (hf _ _ _ _ _) h
        · exact h
    · exact h

theorem takePlay {line slot startCell repeats gap stop : Nat} :
    s₀.Upholds (takePlay s line slot startCell repeats gap stop).state := h.voiceCheck fun i _ _ _ _ => h.startOp i

theorem takeRecd {line slot limit silence threshold stop : Nat} :
    s₀.Upholds (takeRecd s line slot limit silence threshold stop).state := h.voiceCheck fun i _ _ _ _ => h.startOp i

theorem takePaus {line value : Nat} : s₀.Upholds (takePaus s line value).state :=
  h.onLine fun i => by
    split
    · exact h
    · refine answerIte h ?_
      split
      · exact h.setOp i
      · exact h

theorem takeVstp {line : Nat} : s₀.Upholds (takeVstp s line).state :=
  h.onLine fun i => answerIte h <| by
    split
    · exact h
    · exact ite (h.stopWaiting i) (h.stopOp i)

theorem takeTake {line : Nat} : s₀.Upholds (takeTake s line).state :=
  h.onLine fun i => by
    split
    case h_1 | h_2 | h_3 => exact h.planTaken i
    case h_4 | h_5 | h_6 | h_7 | h_8 | h_9 => exact h

theorem takeNmsk {line : Nat} {settings : List (List Byte × Nat × Nat × Nat)} :
    s₀.Upholds (takeNmsk s line settings).state :=
  h.onPart <| answerIte h <| by
    split
    · exact h
    · exact h.withSl fun hl => (MaskSetting.foldl_apply_length ..).trans hl

theorem takeGetp {line sec sline : Nat} : s₀.Upholds (takeGetp s line sec sline).state :=
  h.onPart <| by
    split
    case h_2 => split <;> exact h
    all_goals exact h

theorem takeSetp {line sec : Nat} {contents : List Byte} : s₀.Upholds (takeSetp s line sec contents).state :=
  answerIte h <| h.onPart <| answerIte ((h.withSl fun hl => Settings.apply_notices_length _ _ hl).settingTakes _ _) h

theorem takeSave {line : Nat} : s₀.Upholds (takeSave s line).state :=
  h.onPart <| answerIte h (answerIte h (h.withSl (by exact id)))

theorem takeRset {line kind : Nat} : s₀.Upholds (takeRset s line kind).state := by
  unfold Machine.takeRset
  split
  · exact h.onPart (h.withLp (by exact id))
  · exact h.onPart h.softReset
  · exact h

/-- Counters are read, and set to 0 where the request asks it (R179). -/
theorem takeCntr {line selector clear : Nat} : s₀.Upholds (takeCntr s line selector clear).state :=
  h.onPart <| by
    split
    · exact h
    · refine answerIte (ite h.withCnt h) ?_
      split
      · exact ite (h.updCnt _) h
      · exact h

theorem answerRequest (line : Nat) (r : Request) : s₀.Upholds (answerRequest s line r).state := by
  cases r
  case call => exact h.takeCall
  case callGroup => exact h.takeCallGroup
  case ansr => exact h.takeAnsr
  case rels => exact h.takeRels
  case digr => exact h.takeDigr
  case tone => exact h.takeTone
  case cncl => exact h.takeCncl
  case ctad => exact h.takeCtad
  case ctdl => exact h.takeCtdl
  case ctrd => exact h.takeCtrd
  case budg => exact h.takeBudg
  case flow => exact h.takeFlow
  case faxs => exact h.takeFaxs
  case faxr => exact h.takeFaxr
  case fxst => exact h.takeFxst
  case fxab => exact h.takeFxab
  case scrt => exact h.takeScrt
  case scls => exact h.takeScls
  case sdel => exact h.takeSdel
  case atch => exact h.takeAtch
  case dtch => exact h.takeDtch
  case swrt => exact h.takeSwrt
  case sred => exact h.takeSred
  case slst => exact h.takeSlst
  case ssta => exact h.takeSsta
  case pack => exact h.takePack
  case play => exact h.takePlay
  case recd => exact h.takeRecd
  case paus => exact h.takePaus
  case vstp => exact h.takeVstp
  case take => exact h.takeTake
  case nmsk => exact h.takeNmsk
  case getp => exact h.takeGetp
  case setp => exact h.takeSetp
  case save => exact h.takeSave
  case rset => exact h.takeRset
  case cntr => exact h.takeCntr
  case malformed | unknown => exact h

end

/-! ## The Link Port and the Notice Unit (chapter 11) -/

/-- A request's answer adds nothing to the queues of the host link (R165): a soft reset empties them, any other
leaves them (R172). -/
theorem answerRequest_noMore (s : State) (line : Nat) (r : Request) :
    s.lp.NoMore (Machine.answerRequest s line r).state.lp := by
  unfold Machine.answerRequest
  cases r
  case malformed | unknown => exact .refl _
  case nmsk settings =>
    refine onPart_noMore ?_
    split
    · exact .refl _
    · split <;> exact .refl _
  case getp sec sline =>
    refine onPart_noMore ?_
    split
    case h_2 => split <;> exact .refl _
    all_goals exact .refl _
  case setp sec contents =>
    dsimp only [Machine.takeSetp]
    split
    · exact .refl _
    · refine onPart_noMore ?_
      split
      · exact State.noMore_of_outer (s := s.withLive (s.sl.live.apply sec contents)) (State.settingTakes_outer ..)
      · exact .refl _
  case save =>
    refine onPart_noMore ?_
    split
    · exact .refl _
    · split <;> exact .refl _
  case rset kind =>
    dsimp only [Machine.takeRset]
    split
    · exact onPart_noMore ⟨le_rfl, le_rfl⟩
    · exact onPart_noMore ⟨Nat.zero_le _, Nat.zero_le _⟩
    · exact .refl _
  case cntr selector clear =>
    refine onPart_noMore ?_
    split
    · exact .refl _
    · split
      · split <;> exact .refl _
      · split
        · split <;> exact .refl _
        · exact .refl _
  all_goals exact State.noMore_of_outer (by simp)

section
variable (h : s₀.Upholds s)
include h

/-- A link error is counted, and LERR raised (R171). -/
theorem linkError {f : PartCounters → PartCounters} : s₀.Upholds (s.linkError f) := .ite h h.withCnt.raisePart

theorem badRecord : s₀.Upholds s.badRecord := h.linkError

/-- A reply joins a reply queue that has room (R167). -/
theorem addReply {r : Reply} (hroom : s.lp.replies.length < 8) : s₀.Upholds (s.addReply r) :=
  h.withLp fun hs => ⟨hs.1, by rw [List.length_append, List.length_singleton]; exact hroom⟩

theorem hunt : s₀.Upholds s.hunt := h.withLp (by exact id)

/-- A record joins an inbound buffer that has room (R164). -/
theorem offer {r : Inbound} : s₀.Upholds (s.offer r) := by
  unfold State.offer
  split
  · next hroom => exact h.withLp fun hs => ⟨by rw [List.length_append, List.length_singleton]; exact hroom, hs.2⟩
  · exact h.linkError

theorem takeDataIn {line : Nat} {bytes : List Byte} : s₀.Upholds (s.takeDataIn line bytes) := by
  unfold State.takeDataIn
  split
  · exact .ite (h.takeData _) h.linkError
  · exact h.linkError

theorem takeRequest {line tag : Nat} {r : Request} (hroom : s.lp.replies.length < 8) :
    s₀.Upholds (s.takeRequest line tag r) :=
  (h.answerRequest line r).addReply ((answerRequest_noMore s line r).2.trans_lt hroom)

/-- A record at the head is taken where it can be: a request with room for its reply (R165). -/
theorem takeRecord {r : Inbound} (hcan : s.lp.canTake r = true) : s₀.Upholds (s.takeRecord r) := by
  unfold State.takeRecord
  unfold Lp.canTake at hcan
  split
  · exact h.takeDataIn
  · next hbody =>
    simp only [hbody, Bool.and_eq_true, decide_eq_true_eq] at hcan
    exact h.takeRequest hcan.2

omit h in
theorem drainN (n : Nat) (h : s₀.Upholds s) : s₀.Upholds (Machine.drainN n s) := by
  induction n generalizing s with
  | zero => exact h
  | succ n ih =>
    unfold Machine.drainN
    split
    · exact h
    · next r rest hinbound =>
      split
      · next hcan =>
        have hleft := h.withLp (p := { s.lp with inbound := rest }) fun hs => by
          obtain ⟨hle, hreplies⟩ := hs
          rw [hinbound, List.length_cons] at hle
          exact ⟨Nat.le_of_succ_le hle, hreplies⟩
        exact ih (hleft.takeRecord hcan).settle
      · exact h

theorem drain : s₀.Upholds s.drain := h.drainN _

theorem judgeRecord {b : List Byte} : s₀.Upholds (s.judgeRecord b) := by
  unfold State.judgeRecord
  split
  · exact h.offer.drain
  · exact h.badRecord

theorem receiveByte (x : Byte) : s₀.Upholds (s.receiveByte x) := by
  simp only [State.receiveByte]
  split
  · exact .ite (h.withLp (by exact id)) h
  · exact .ite h.hunt.badRecord (.ite h.hunt.judgeRecord (h.withLp (by exact id)))

theorem receiveBytes {l : List Byte} : s₀.Upholds (s.receiveBytes l) := foldl (fun x hu => hu.receiveByte x) l h

theorem formNotice {k : Notice} {i : LineNo} : s₀.Upholds (s.formNotice k i).1 :=
  .ite (h.setFlag.withEvents fun _ => Nat.zero_le _) h.setFlag

theorem sendOther {r : OutRec} {waits : Bool} : s₀.Upholds (s.sendOther r waits) := h.withLp (by exact id)
theorem sendData {i : LineNo} : s₀.Upholds (s.sendData i) := (h.formDataOut i).withLp (by exact id)

theorem chooseOther : s₀.Upholds s.chooseOther := by
  simp only [State.chooseOther]
  split
  · next r rest hreplies =>
    refine sendOther (h.withLp fun hs => ?_)
    obtain ⟨hinbound, hle⟩ := hs
    rw [hreplies, List.length_cons] at hle
    exact ⟨hinbound, Nat.le_of_succ_le hle⟩
  · refine .ite h ?_
    split
    · exact h.formNotice.sendOther
    · split
      · exact h.sendData
      · exact h

theorem chooseRecord : s₀.Upholds s.chooseRecord := by
  unfold State.chooseRecord
  split
  · exact .ite h.sendData h.chooseOther
  · exact h.chooseOther

/-- A record ends with the part running on, or with the hard reset (R165, R177). -/
theorem sendEnds {r : OutRec} : s₀.Upholds (s.sendEnds r) ∨ ∃ u c, u.sl = s.sl ∧ s.sendEnds r = State.hardReset u c := by
  simp only [State.sendEnds]
  split
  · exact .inl (h.withLp (by exact id))
  · split
    · exact .inr ⟨_, _, rfl, rfl⟩
    · exact .inl (h.withLp (by exact id))
  · exact .inl (h.withLp (by exact id))

theorem chooseNext (hrunning : s.phase = .running) :
    s₀.Upholds (if s.phase = .running then s.chooseRecord.drain else s) := by
  rw [if_pos hrunning]
  exact h.chooseRecord.drain

end

/-! ## Every command -/

theorem onExpiry {due : Option Nat} {f : State → State} (h : s₀.Upholds s)
    (hf : ∀ {u : State}, s₀.Upholds u → s₀.Upholds (f u)) : s₀.Upholds (Machine.onExpiry due s f) := by
  cases due with
  | none => exact h
  | some d => exact hf h.reach

end State.Upholds

/-- From `s` to `t`, resets included, no queue, buffer or table leaves its bounds, and the store stays laid out. -/
structure State.Retains (s t : State) : Prop where
  queues : s.queuesBounded → t.queuesBounded
  buffers : s.buffersBounded → t.buffersBounded
  callQueue : s.gd.queueOk → t.gd.queueOk
  pending : s.pendingOnce → t.pendingOnce
  tables : s.shaped → t.shaped
  callers : s.ct.numbersDiffer → t.ct.numbersDiffer
  recorders : s.recordersOk → t.recordersOk
  store : s.storeLaidOut → t.storeLaidOut

namespace State.Retains

variable {s t : State}

theorem refl (s : State) : s.Retains s := ⟨id, id, id, id, id, id, id, id⟩

/-- What a running part does without a reset. -/
theorem of (h : s.Upholds t) (hrunning : s.phase = .running) : s.Retains t where
  queues := h.queues
  buffers hs := by
    obtain ⟨hevents, hlines⟩ := hs
    exact ⟨h.events hevents, h.lines hlines⟩
  callQueue := h.callQueue
  pending := h.pending
  tables := h.tables
  callers := h.callers
  recorders := h.recorders
  store hs := by
    obtain ⟨hlaid, -⟩ := hs
    exact ⟨Stc.laidOut_iff.2 (h.store (Stc.laidOut_iff.1 hlaid)), fun hne => absurd (h.phase.trans hrunning) hne⟩

/-- A hard reset leaves every queue, buffer, table and the store empty, and the live settings (R177). -/
theorem hardReset {u : State} (c : ResetCause) (hsl : u.sl.live = s.sl.live) : s.Retains (u.hardReset c) := by
  have hline : ∀ j, (u.hardReset c).line j = {} := fun j => Four.get_all _ j
  have hused : (u.hardReset c).stc.used = [] := rfl
  exact {
    queues := fun _ => ⟨Nat.zero_le _, Nat.zero_le _⟩
    buffers := fun _ => ⟨Nat.zero_le _, fun j => by
      rw [hline]
      exact ⟨Nat.zero_le _, Blc.inBounds_fresh rfl (Nat.zero_le _) rfl (Nat.zero_le _) (Nat.zero_lt_succ _) fun _ => rfl⟩⟩
    callQueue := fun _ => Gd.queueOk_reset rfl rfl
    pending := fun _ => List.nodup_nil
    tables := fun hs => by
      obtain ⟨-, -, -, -, hnotices⟩ := hs
      exact ⟨rfl, rfl, rfl, rfl, (congrArg (fun l => l.notices.length) hsl).trans hnotices⟩
    callers := fun _ => List.nodup_nil
    recorders := fun _ => State.recordersOk_of_emptied fun j => congrArg Line.window (hline j)
    store := fun _ => ⟨Stc.laidOut_iff.2 (Stc.Layout.of_empty hused rfl), fun _ => ⟨hused, rfl⟩⟩ }

/-- Start-up fills the tables anew over an empty store (R133, R174, R178). -/
theorem startUpEnds {read : Option (List Byte)} (hloading : s.phase = .loading) : s.Retains (s.startUpEnds read) := by
  have hct : ({} : Ct).Kept (s.startUpEnds read).ct := .foldl Ct.rebuild_kept _ _
  have hline : ∀ j, ((s.startUpEnds read).line j).window = (s.line j).window
      ∧ ((s.startUpEnds read).line j).tu = (s.line j).tu ∧ ((s.startUpEnds read).line j).blc = (s.line j).blc :=
    fun j => by
      have hget : (s.startUpEnds read).line j = _ := Four.get_map _ s.lines j
      rw [hget]
      exact ⟨rfl, rfl, rfl⟩
  exact {
    queues := id
    buffers := fun ⟨hevents, hlines⟩ => ⟨hevents, fun j => by
      obtain ⟨-, htu, hblc⟩ := hline j
      rw [htu, hblc]
      exact hlines j⟩
    callQueue := id
    pending := id
    tables := fun ⟨hflags, hrecs, hdir, _, _⟩ => ⟨(List.length_modify ..).trans hflags, hrecs, hdir, hct.sizes.trans rfl,
      judgeImage_notices_length _ _⟩
    callers := fun _ => hct.differ List.nodup_nil
    recorders := State.Upholds.recordersOk_of_windows (fun j => (hline j).1) fun he ho => ⟨_, he, ho⟩
    store := fun ⟨_, hempty⟩ => by
      obtain ⟨hused, hmove⟩ := hempty (by rw [hloading]; exact nofun)
      exact ⟨Stc.laidOut_iff.2 (Stc.Layout.of_empty hused hmove), fun hne => absurd rfl hne⟩ }

section
variable {c : Instr}

/-- An event whose act upholds the bounds does so with the hand-out that follows; on a part that does not run it does
nothing. -/
theorem event {f : State → State} (hevent : ∀ u, exec c u = react u f) (hf : ∀ {u : State}, s.Upholds u → s.Upholds (f u))
    (h : exec c s = .next t) : s.Retains t := by
  rw [hevent] at h
  by_cases hrunning : s.phase = .running
  · rw [react_running hrunning] at h
    cases h
    exact of (hf (.refl s)).settle hrunning
  · rw [react_held hrunning] at h
    cases h
    exact refl s

/-- The expiry of a timer. -/
theorem expiry {due : State → Option Nat} {f : State → State}
    (hevent : ∀ u, exec c u = react u fun x => Machine.onExpiry (due x) x f)
    (hf : ∀ {u : State}, s.Upholds u → s.Upholds (f u)) (h : exec c s = .next t) : s.Retains t :=
  event hevent (fun hu => hu.onExpiry hf) h

/-- An event at a running fax job. -/
theorem jobEvent {i : LineNo} {d : FaxDir} {f : State → FaxJob → State}
    (hevent : ∀ u, exec c u = react u fun x => x.atJob i d (f x))
    (hf : ∀ {u : State}, s.Upholds u → ∀ j, s.Upholds (f u j))
    (h : exec c s = .next t) : s.Retains t :=
  event hevent (fun hu => hu.atJob i (hf hu)) h

/-- A record of the host that arrives whole. -/
theorem hostRecord {line tag : Nat} {b : InBody} (hrecord : ∀ u, exec c u = Machine.hostRecord u line tag b)
    (h : exec c s = .next t) : s.Retains t :=
  event hrecord (fun hu => hu.offer.drain) h

end

section
variable {i : LineNo}

/-! ### Line interface, call progress, queue and budget (chapters 1 to 4) -/

theorem ofRingVoltageEnd {volts : Nat} (h : exec (.ringVoltageEnd i volts) s = .next t) : s.Retains t :=
  event (fun _ => rfl) (fun hu => by
    split
    · exact hu
    · exact hu.candidateEnds i
    · exact hu.burstEnds i) h

theorem ofRingAbandoned (h : exec (.ringAbandoned i) s = .next t) : s.Retains t :=
  event (fun _ => rfl) (fun hu => by
    split
    · exact hu.reach.abandonExpires i
    · exact hu
    · exact hu) h

theorem ofQueueEntryExpiry {entry : Fin 8} (h : exec (.queueEntryExpiry entry) s = .next t) : s.Retains t :=
  event (fun _ => rfl) (fun hu => by
    split
    · exact hu.reach.entryExpires
    · exact hu) h

theorem ofPendingTimerExpiry (h : exec (.pendingTimerExpiry i) s = .next t) : s.Retains t :=
  event (fun _ => rfl) (fun hu => by
    split
    · exact hu.pendingFails
    · exact hu) h

/-! ### Data pump and block link (chapters 5 and 6) -/

theorem ofQualityReading {q : Int} (h : exec (.qualityReading i q) s = .next t) : s.Retains t :=
  event (fun _ => rfl) (fun hu => by
    split
    case h_1 | h_2 => exact hu.dataTrainingReading i
    case h_3 | h_4 => exact hu.faxTrainingReading i
    case h_5 => exact hu.runningReading i
    case h_6 => exact hu) h

theorem ofRateChangeConfirmation (h : exec (.rateChangeConfirmation i) s = .next t) : s.Retains t :=
  event (fun _ => rfl) (fun hu => by
    split
    · exact hu.confirm i
    · exact hu) h

theorem ofRemoteRateRequest {c : Cls} (h : exec (.remoteRateRequest i c) s = .next t) : s.Retains t :=
  event (fun _ => rfl) (fun hu => by
    dsimp only
    split
    · exact hu.remoteRate i
    · exact hu.decline i
    · exact hu) h

theorem ofSetupMessageReceived {window size : Nat} (h : exec (.setupMessageReceived i window size) s = .next t) :
    s.Retains t :=
  event (fun _ => rfl) (fun hu => by
    split
    · next hlink => exact hu.setupEc i hlink
    · exact (hu.updBlc i (by exact id)).startTx i
    · exact hu.updBlc i (by exact id)
    · exact hu) h

/-! ### The fax transfer and the message store (chapters 7 and 8) -/

theorem ofFaxAnswerWaitExpiry (h : exec (.faxAnswerWaitExpiry i) s = .next t) : s.Retains t :=
  event (fun _ => rfl) (fun hu => by
    split
    case h_1 => exact hu.reach.answerMissing i
    case h_2 | h_3 | h_4 | h_5 => exact hu) h

theorem ofFaxSenderWaitExpiry (h : exec (.faxSenderWaitExpiry i) s = .next t) : s.Retains t :=
  event (fun _ => rfl) (fun hu => by
    split
    case h_1 => exact hu.reach.failJob i
    case h_2 => exact hu.reach.senderMissing i
    case h_3 | h_4 | h_5 => exact hu) h

theorem ofReleaseWaitExpiry (h : exec (.releaseWaitExpiry i) s = .next t) : s.Retains t :=
  event (fun _ => rfl) (fun hu => by
    split
    case h_1 => exact hu.reach.doneJob i
    case h_2 | h_3 | h_4 | h_5 => exact hu) h

theorem ofBadFaxMessageReceived {m : StrayFax} (h : exec (.badFaxMessageReceived i m) s = .next t) : s.Retains t :=
  event (fun _ => rfl) (fun hu => by
    split
    · exact hu.unreadable i
    · split
      · exact hu.answerAgain i
      · exact hu) h

theorem ofReleaseReceived (h : exec (.releaseReceived i) s = .next t) : s.Retains t :=
  event (fun _ => rfl) (fun hu => by
    split
    · exact hu.takeRelease i
    · exact hu) h

theorem ofMoveCellCopy (h : exec .moveCellCopy s = .next t) : s.Retains t :=
  event (fun _ => rfl) (fun hu => by
    split
    · exact hu
    · next hmove =>
      split
      · exact hu.reach.moveCell hmove
      · exact hu) h

/-! ### Voice operations, answer plans and settings (chapters 9 to 12) -/

theorem ofVoiceOperationStart (h : exec (.voiceOperationStart i) s = .next t) : s.Retains t :=
  event (fun _ => rfl) (fun hu => by
    split
    · exact hu
    · refine .ite ?_ hu
      split
      · exact hu.playStarts i
      · split
        · exact .ite (hu.recordStarts i) hu
        · exact hu) h

theorem ofPlayCellReached (h : exec (.playCellReached i) s = .next t) : s.Retains t :=
  event (fun _ => rfl) (fun hu => by
    split
    · exact .ite (hu.reachCell i) hu
    · exact hu) h

theorem ofGapEnd (h : exec (.gapEnd i) s = .next t) : s.Retains t :=
  expiry (fun _ => rfl) (fun hu => by
    split
    · exact hu.gapEnds i
    · exact hu) h

theorem ofVoiceFrameEnd {samples : List Int} (h : exec (.voiceFrameEnd i samples) s = .next t) : s.Retains t :=
  event (fun _ => rfl) (fun hu => by
    split
    · exact hu
    · exact .ite (hu.recordFrame i) (hu.playFrame i)) h

theorem ofRecordingLimitReached {samples : List Int} (h : exec (.recordingLimitReached i samples) s = .next t) :
    s.Retains t :=
  event (fun _ => rfl) (fun hu => by
    split
    · exact hu
    · exact .ite (hu.limitReached i) hu) h

theorem ofCallingToneBurst (h : exec (.callingToneBurst i) s = .next t) : s.Retains t :=
  event (fun _ => rfl) (fun hu => by
    split
    · exact .ite (hu.callingBurst i) hu
    · exact .ite (hu.callingBurst i) hu
    · exact hu) h

theorem ofSaveEnd {result : SaveEnd} (h : exec (.saveEnd result) s = .next t) : s.Retains t :=
  event (fun _ => rfl) (fun hu => by
    split
    · exact (State.Upholds.ite hu.reach hu).withSl (by exact fun hl => by rw [Sl.saved_live]; exact hl)
    · exact hu) h

/-- A try timed in SETUP alone is followed by the next, or by PLAIN mode (R83). -/
theorem ofSetupTryExpiry (h : exec (.setupTryExpiry i) s = .next t) : s.Retains t :=
  event (fun _ => rfl) (fun {u} hu => by
    unfold Machine.onExpiry
    split
    · exact hu
    · next d htry =>
      refine .ite (hu.reach.startTry i fun hb => ?_) (hu.reach.setupPlain i)
      have hsetup : (u.line i).blc.link = .setup := Blc.setup_of_tryDue hb htry
      exact ⟨fun hup => absurd (hsetup.symm.trans hup) nofun, fun hsusp => absurd (hsetup.symm.trans hsusp) nofun⟩) h

/-- The record being sent ends, by itself or with the hard reset, and the next is chosen (R165, R168, R177). -/
theorem ofRecordSent (h : exec .recordSent s = .next t) : s.Retains t := by
  by_cases hrunning : s.phase = .running
  swap
  · rw [show exec .recordSent s = _ from react_held hrunning _] at h
    cases h
    exact refl s
  rw [show exec .recordSent s = _ from react_running hrunning _] at h
  cases h
  unfold State.recordSent
  dsimp only
  split
  · next r _ =>
    obtain hends | ⟨u, c, hsl, hreset⟩ := (State.Upholds.refl s).sendEnds (r := r)
    · have hdrained := hends.drain
      exact of (hdrained.chooseNext (hdrained.phase.trans hrunning)).settle hrunning
    · rw [hreset]
      exact hardReset c (congrArg _ hsl)
  · exact of ((State.Upholds.refl s).chooseNext hrunning).settle hrunning

end

/-- Loading begins in a part that is held, and that holds no entry (R178). -/
theorem ofStartUp (s : State) : s.Retains (if s.phase = .held then { s with phase := .loading } else s) := by
  split
  · next hheld =>
    exact { refl s with
      store := fun ⟨hlaid, hempty⟩ => ⟨hlaid, fun _ => hempty (by rw [hheld]; exact nofun)⟩ }
  · exact refl s

theorem ofSettingsLoaded (s : State) {read : Option (List Byte)} :
    s.Retains (if s.phase = .loading then s.startUpEnds read else s) := by
  split
  · next hloading => exact startUpEnds hloading
  · exact refl s

/-- Every command keeps the bounds: resets and start-up outright, the commands of the host link by what taking a request
does, the events by what each of them does. -/
theorem ofExec {c : Instr} (h : exec c s = .next t) : s.Retains t := by
  cases c
  case powerOn | resetPin | clockLoss => cases h; exact hardReset _ rfl
  case startUp => cases h; exact ofStartUp s
  case settingsLoaded => cases h; exact ofSettingsLoaded s
  case call | callGroup | ansr | digr | tone | rels | cncl | ctad | ctdl | ctrd | budg | dataIn | flow | faxs | faxr
      | fxst | fxab | scrt | scls | sdel | atch | dtch | swrt | sred | slst | ssta | packStart | packStop | play | recd
      | paus | vstp | take | unknownRequest | nmsk | getp | setp | save | rsetSoft | rsetHard | cntr =>
    exact hostRecord (fun _ => rfl) h
  case recordReceived => exact event (fun _ => rfl) (fun hu => hu.receiveBytes) h
  case hostLinkByteReceived => exact event (fun _ => rfl) (fun hu => hu.receiveByte _) h
  case inboundGapExpiry => exact expiry (fun _ => rfl) (fun hu => hu.hunt.badRecord) h
  case recordSent => exact ofRecordSent h
  case flashComplete i => exact expiry (fun _ => rfl) (fun hu => hu.flashDone i) h
  case breakEnd i => exact expiry (fun _ => rfl) (fun hu => hu.breakDone i) h
  case makeEnd i => exact expiry (fun _ => rfl) (fun hu => hu.makeDone i) h
  case ringVoltageOnset i => exact event (fun _ => rfl) (fun hu => .ite (hu.ringOnset i) hu) h
  case burstQualified i => exact expiry (fun _ => rfl) (fun hu => hu.burst i) h
  case ringVoltageEnd => exact ofRingVoltageEnd h
  case ringAbandoned => exact ofRingAbandoned h
  case blankingEnd i _ => exact expiry (fun _ => rfl) (fun hu => hu.blankingDone i) h
  case loopCurrentAbsent i | loopCurrentReturn i => exact event (fun _ => rfl) (fun hu => .ite (hu.updLif i) hu) h
  case loopLost i => exact expiry (fun _ => rfl) (fun hu => hu.loopLost i) h
  case supervisionCheck i _ => exact expiry (fun _ => rfl) (fun hu => hu.checkLine i) h
  case dialToneQualified i => exact event (fun _ => rfl) (fun hu => hu.dialTone i) h
  case dialToneWaitExpiry i => exact expiry (fun _ => rfl) (fun hu => hu.noDialTone i) h
  case awaitToneExpiry i | answerWaitExpiry i => exact expiry (fun _ => rfl) (fun hu => hu.progressFails i) h
  case dtmfDigitSent i | interDigitPauseEnd i | pauseEnd i => exact expiry (fun _ => rfl) (fun hu => hu.elemEnds i) h
  case cpToneStart i => exact event (fun _ => rfl) (fun hu => .ite (hu.cpStart i) hu) h
  case cpToneEnd i => exact event (fun _ => rfl) (fun hu => .ite (hu.cpEnd i) hu) h
  case cpSilenceLimit i =>
    exact event (fun _ => rfl) (fun hu => .ite (hu.onExpiry fun hv => hv.cpSilent i) hu) h
  case cpToneLimit i =>
    exact event (fun _ => rfl) (fun hu => .ite (hu.onExpiry fun hv => (hv.updTu i (by exact id)).noBusy i) hu) h
  case progressFrameLevel i _ => exact event (fun _ => rfl) (fun hu => .ite (hu.speechFrame i) hu) h
  case answerToneDetected i _ => exact event (fun _ => rfl) (fun hu => .ite (hu.progressConnects i) hu) h
  case ringbackAbsenceExpiry i => exact expiry (fun _ => rfl) (fun hu => hu.ringbackGone i) h
  case settleEnd i => exact expiry (fun _ => rfl) (fun hu => hu.settleDone i) h
  case clidWindowTimeout i => exact expiry (fun _ => rfl) (fun hu => hu.closeClid i) h
  case callerIdByteReceived i => exact event (fun _ => rfl) (fun hu => hu.updTu i (by exact id)) h
  case callerMessageReceived i _ => exact event (fun _ => rfl) (fun hu => hu.clidMessage i) h
  case dtmfDigitDeclared i _ =>
    exact event (fun _ => rfl) (fun hu => .ite (((hu.queueDigit i).digitStops i).mailboxLook i) hu) h
  case toneDigitEnd i => exact expiry (fun _ => rfl) (fun hu => hu.toneDigitDone i) h
  case drainEnd i => exact event (fun _ => rfl) (fun hu => .ite (hu.startClearing i) hu) h
  case drainWaitExpiry i => exact expiry (fun _ => rfl) (fun hu => hu.startClearing i) h
  case guardExpiry i => exact expiry (fun _ => rfl) (fun hu => hu.guardDone i) h
  case queueEntryExpiry => exact ofQueueEntryExpiry h
  case pendingTimerExpiry => exact ofPendingTimerExpiry h
  case qualityReading => exact ofQualityReading h
  case remoteOfferReceived i _ => exact event (fun _ => rfl) (fun hu => .ite (hu.takeOffer i) hu) h
  case offerWaitExpiry i => exact expiry (fun _ => rfl) (fun hu => hu.trainingFails i) h
  case rateChangeConfirmation => exact ofRateChangeConfirmation h
  case rateChangeResyncEnd i => exact expiry (fun _ => rfl) (fun hu => .ite (hu.completeRateChange i) hu) h
  case rateChangeConfirmationTimeout i =>
    exact event (fun _ => rfl) (fun hu => .ite hu (hu.onExpiry fun hv => hv.enterRetraining i)) h
  case remoteRateRequest => exact ofRemoteRateRequest h
  case remoteRetrainRequest i => exact event (fun _ => rfl) (fun hu => .ite (hu.enterRetraining i) hu) h
  case setupMessageReceived => exact ofSetupMessageReceived h
  case setupTryExpiry => exact ofSetupTryExpiry h
  case messageTransmitted i => exact event (fun _ => rfl) (fun hu => .ite (hu.transmitted i) hu) h
  case badMessageReceived i => exact event (fun _ => rfl) (fun hu => .ite (hu.countBadCheck i) hu) h
  case supervisoryMessageReceived i _ _ => exact event (fun _ => rfl) (fun hu => .ite (hu.takeSup i) hu) h
  case retryTimerExpiry i => exact expiry (fun _ => rfl) (fun hu => hu.retryExpires i) h
  case dataBlockReceived i _ _ =>
    exact event (fun _ => rfl)
      (fun hu => .ite (.ite (hu.countBadCheck i) (.ite (hu.takeBlock i) hu)) hu) h
  case plainByteReceived i _ => exact event (fun _ => rfl) (fun hu => .ite (hu.plainByte i) hu) h
  case faxJobWaitExpiry i => exact expiry (fun _ => rfl) (fun hu => hu.noJob i) h
  case faxAnswerWaitExpiry => exact ofFaxAnswerWaitExpiry h
  case faxSenderWaitExpiry => exact ofFaxSenderWaitExpiry h
  case releaseWaitExpiry => exact ofReleaseWaitExpiry h
  case badFaxMessageReceived => exact ofBadFaxMessageReceived h
  case capabilityReceived i _ _ _ _ =>
    exact jobEvent (fun _ => rfl) (fun hu _ => .ite (hu.takeCapability i) (hu.answerAgain i)) h
  case choiceReceived i _ _ _ =>
    exact jobEvent (fun _ => rfl) (fun hu _ => .ite (hu.takeChoice i) (hu.answerAgain i)) h
  case confirmationReceived i _ =>
    exact jobEvent (fun _ => rfl) (fun hu _ => .ite (hu.takeConfirmation i) hu) h
  case retrainAnnouncementReceived i _ => exact jobEvent (fun _ => rfl) (fun hu _ => hu.takeAnnouncement i) h
  case trainingBurstSent i => exact jobEvent (fun _ => rfl) (fun hu _ => .ite (hu.burstSent i) hu) h
  case verdictReceived i _ => exact jobEvent (fun _ => rfl) (fun hu _ => .ite (hu.takeVerdict i) hu) h
  case partialPageHeaderReceived i _ _ _ _ =>
    exact jobEvent (fun _ => rfl)
      (fun hu _ => .ite hu (.ite (hu.failJob i) (.ite hu (hu.takeHeader i)))) h
  case frameReceived i _ _ => exact jobEvent (fun _ => rfl) (fun hu _ => .ite (hu.takeFrame i) hu) h
  case roundSent i => exact jobEvent (fun _ => rfl) (fun hu _ => .ite (hu.roundSent i) hu) h
  case roundEndReceived i => exact jobEvent (fun _ => rfl) (fun hu _ => hu.takeRoundEnd i) h
  case frameMapReceived i _ _ => exact jobEvent (fun _ => rfl) (fun hu _ => .ite (hu.followMap i) hu) h
  case pageCloseReceived i _ => exact jobEvent (fun _ => rfl) (fun hu _ => hu.takeClose i) h
  case pageConfirmationReceived i =>
    exact jobEvent (fun _ => rfl) (fun hu _ => .ite (hu.pageConfirmed i) hu) h
  case releaseReceived => exact ofReleaseReceived h
  case moveCellCopy => exact ofMoveCellCopy h
  case voiceOperationStart => exact ofVoiceOperationStart h
  case playCellReached => exact ofPlayCellReached h
  case gapEnd => exact ofGapEnd h
  case voiceFrameEnd => exact ofVoiceFrameEnd h
  case recordingLimitReached => exact ofRecordingLimitReached h
  case recordToneEnd i | callingToneReset i => exact expiry (fun _ => rfl) (fun hu => hu.updApc i) h
  case mailboxWaitExpiry i => exact expiry (fun _ => rfl) (fun hu => .ite (hu.chooseMailbox i) hu) h
  case callingToneBurst => exact ofCallingToneBurst h
  case saveEnd => exact ofSaveEnd h

/-- Every step keeps the bounds: a millisecond that passes changes nothing but the clock. -/
theorem ofStep (h : step s = .next t) : s.Retains t := by
  unfold step at h
  split at h
  · cases h
    exact { refl s with }
  · have hexec := ofExec h
    exact { hexec with }

end State.Retains

/-- Settles O6, by the walk over every operation in `State.Upholds`. -/
theorem hostLinkQueuesStayBounded : Obligations.HostLinkQueuesStayBounded := by
  unfold Obligations.HostLinkQueuesStayBounded
  exact ⟨fun _ _ hs h => (State.Retains.ofStep h).queues hs, fun _ _ hs h => (State.Retains.ofStep h).buffers hs,
    fun _ _ hs h => (State.Retains.ofStep h).callQueue hs, fun _ _ hs h => (State.Retains.ofStep h).pending hs⟩

/-- Settles O9, by the walk over every operation in `State.Upholds`, the store by `Stc.Layout`. -/
theorem tablesKeepTheirSizes : Obligations.TablesKeepTheirSizes := by
  unfold Obligations.TablesKeepTheirSizes
  exact ⟨fun _ _ hs h => (State.Retains.ofStep h).tables hs, fun _ _ hs h => (State.Retains.ofStep h).callers hs,
    fun _ _ hs h => (State.Retains.ofStep h).recorders hs, fun _ _ hs h => (State.Retains.ofStep h).store hs⟩

end Sys2Proof.Machine
end

section
/-! PROOFS. Raising a notice (R169): O14. -/

namespace Sys2Proof.Machine

open Sys2Proof

theorem Notice.idx_lt (k : Notice) : k.idx < 19 := by cases k <;> decide

/-- A flag's own kind on another line reads as before. -/
theorem State.flag_setFlag_of_line_ne (s : State) (k : Notice) {i j : LineNo} (b : Bool) (h : j ≠ i) :
    (s.setFlag k i b).flag k j = s.flag k j := by
  simp only [State.flag, State.setFlag, List.getElem?_modify_eq]
  cases s.nu.flags[k.idx]? with
  | none => rfl
  | some f => exact Four.get_set_ne f b h

/-- Every flag but the one set reads as before. -/
theorem State.flag_setFlag_of_pair_ne (s : State) {k k' : Notice} {i j : LineNo} (b : Bool) (h : (k', j) ≠ (k, i)) :
    (s.setFlag k i b).flag k' j = s.flag k' j := by
  by_cases hk : k' = k
  · subst hk
    exact s.flag_setFlag_of_line_ne k' b fun hj => h (by rw [hj])
  · exact s.flag_setFlag_of_ne i j b hk

/-- Settles O14, by the two places of a flag: its kind in the table, its line in the kind. -/
theorem raisingSetsOneFlag : Obligations.RaisingSetsOneFlag := by
  unfold Obligations.RaisingSetsOneFlag
  intro s k i hsize
  exact ⟨s.flag_setFlag_self k i true (hsize ▸ k.idx_lt), fun _ _ hne => s.flag_setFlag_of_pair_ne true hne, rfl⟩

end Sys2Proof.Machine
end

section
/-! PROOFS. Records of the host, byte by byte (R162, R163): O51. The numbers in a record's bytes, then the collecting of a
record that arrives whole. -/

namespace Sys2Proof.Machine

open Sys2Proof

/-! ## Numbers in bytes (R162) -/

theorem toNat_ofNat_of_lt {n : Nat} (h : n < 256) : (BitVec.ofNat 8 n).toNat = n := by
  rw [BitVec.toNat_ofNat]
  exact Nat.mod_eq_of_lt h

theorem toNat_ofNat_pair {n : Nat} (h : n < 65536) :
    (BitVec.ofNat 8 (n / 256)).toNat * 256 + (BitVec.ofNat 8 n).toNat = n := by
  simp only [BitVec.toNat_ofNat]
  omega

theorem at1_append {l : List Byte} {k : Nat} (h : k < l.length) (r : List Byte) : at1 (l ++ r) k = at1 l k := by
  rw [at1, at1, List.getD_append _ _ _ _ h]

theorem at2_append {l : List Byte} {k : Nat} (h : k + 1 < l.length) (r : List Byte) : at2 (l ++ r) k = at2 l k := by
  rw [at2, at2, at1_append (Nat.lt_of_succ_lt h), at1_append h]

theorem byteSum_append (a b : List Byte) : byteSum (a ++ b) = byteSum a + byteSum b := by
  simp only [byteSum, List.map_append, List.sum_append]

/-! ## The receiver (R163) -/

theorem State.receiveByte_of_lead {s : State} (h : s.lp.receiver = .hunt) : s.receiveByte 165 = s.collect [] := by
  simp only [State.receiveByte, h]
  rfl

theorem State.receiveByte_of_passed {s : State} {x : Byte} (h : s.lp.receiver = .hunt) (hx : x ≠ 165) :
    s.receiveByte x = s := by
  simp only [State.receiveByte, h]
  exact if_neg fun heq => hx (BitVec.eq_of_toNat_eq heq)

theorem State.receiveByte_of_collect {s : State} {l : List Byte} (h : s.lp.receiver = .collect l) (x : Byte) :
    s.receiveByte x =
      if (l ++ [x]).length = 5 ∧ 1100 < at2 (l ++ [x]) 3 then s.hunt.badRecord
      else if 6 ≤ (l ++ [x]).length ∧ (l ++ [x]).length = at2 (l ++ [x]) 3 + 6 then s.hunt.judgeRecord (l ++ [x])
      else s.collect (l ++ [x]) := by
  simp only [State.receiveByte, h]

/-- A receiver that hunts with no gap timer is as it is left after a record. -/
theorem State.hunt_eq {s : State} (hhunt : s.lp.receiver = .hunt) (hgap : s.lp.gapDue = none) : s.hunt = s := by
  rw [State.hunt, ← hhunt, ← hgap]

/-- The bytes of a record, collected to the last, are judged (R163). -/
theorem State.receiveBytes_of_collect (rest : List Byte) {s : State} {l : List Byte} (h : s.lp.receiver = .collect l)
    (hrest : rest ≠ []) (hlen : (l ++ rest).length = at2 (l ++ rest) 3 + 6) (hmax : at2 (l ++ rest) 3 ≤ 1100) :
    s.receiveBytes rest = s.hunt.judgeRecord (l ++ rest) := by
  induction rest generalizing s l with
  | nil => exact absurd rfl hrest
  | cons x rest ih =>
    have hstep : s.receiveBytes (x :: rest) = (s.receiveByte x).receiveBytes rest := rfl
    have hbytes : l ++ x :: rest = (l ++ [x]) ++ rest := by rw [List.append_assoc, List.singleton_append]
    rw [hbytes] at hlen hmax ⊢
    rw [hstep, State.receiveByte_of_collect h]
    cases rest with
    | nil =>
      rw [List.append_nil] at hlen hmax ⊢
      rw [if_neg (fun hfive => absurd hfive.2 (Nat.not_lt.2 hmax)), if_pos ⟨by omega, hlen⟩]
      rfl
    | cons y rest =>
      have hat : 5 ≤ (l ++ [x]).length → at2 (l ++ [x]) 3 = at2 ((l ++ [x]) ++ y :: rest) 3 :=
        fun hfive => (at2_append hfive _).symm
      rw [List.length_append, List.length_cons] at hlen
      rw [if_neg fun hfive => ?_, if_neg fun hlast => ?_, ih (s := s.collect (l ++ [x])) rfl nofun ?_ hmax]
      · rfl
      · rw [List.length_append, List.length_cons, hlen]
      · obtain ⟨hsix, hlast⟩ := hlast
        rw [hat (Nat.le_of_succ_le hsix)] at hlast
        omega
      · obtain ⟨hfive, hlong⟩ := hfive
        rw [hat hfive.ge] at hlong
        exact absurd hlong (Nat.not_lt.2 hmax)

/-- A record that arrives whole in HUNT with no gap timer is judged (R163, log 66). -/
theorem State.receiveBytes_of_whole {s : State} {bytes : List Byte} (hhunt : s.lp.receiver = .hunt)
    (hgap : s.lp.gapDue = none) (hlen : bytes.length = at2 bytes 3 + 6) (hmax : at2 bytes 3 ≤ 1100) :
    s.receiveBytes (165 :: bytes) = s.judgeRecord bytes := by
  have hlead : s.receiveBytes (165 :: bytes) = (s.receiveByte 165).receiveBytes bytes := rfl
  have hbytes : bytes ≠ [] := by
    rintro rfl
    cases hlen
  rw [hlead, State.receiveByte_of_lead hhunt,
    State.receiveBytes_of_collect bytes (s := s.collect []) (l := []) rfl hbytes hlen hmax]
  exact congrArg (fun u : State => u.judgeRecord bytes) (State.hunt_eq hhunt hgap)

/-- Settles O51, by the receiver's states: HUNT, COLLECT, the gap's end, a whole record. -/
theorem recordBytesAreCollected : Obligations.RecordBytesAreCollected := by
  unfold Obligations.RecordBytesAreCollected
  intro s hrun
  have hbyte : ∀ x, exec (.hostLinkByteReceived x) s = .next (s.receiveByte x).settle :=
    fun x => react_running hrun fun s => s.receiveByte x
  refine ⟨fun hhunt => ⟨?lead, fun x hx => ?passed⟩, fun l x hcollect => ?collected, fun d hgap => ?gap,
    fun bytes hhunt hgap hlen hmax => ?whole⟩
  case lead => rw [hbyte, State.receiveByte_of_lead hhunt]; rfl
  case passed => rw [hbyte, State.receiveByte_of_passed hhunt hx]
  case collected => rw [hbyte, State.receiveByte_of_collect hcollect]; rfl
  case gap => exact react_onExpiry (fun s => s.lp.gapDue) (fun s => s.hunt.badRecord) hrun hgap
  case whole =>
    have hwhole : exec (.recordReceived bytes) s = .next (s.receiveBytes (165 :: bytes)).settle :=
      react_running hrun fun s => s.receiveBytes (165 :: bytes)
    rw [hwhole, State.receiveBytes_of_whole hhunt hgap hlen hmax]
    rfl

end Sys2Proof.Machine
end

section
/-! PROOFS. Requests as their records spell them (R162, R166): O52, O53. What a reader takes of a payload, field by field,
then the request behind each name. -/

namespace Sys2Proof.Machine

open Sys2Proof

/-! ## What a reader takes (R162, R166) -/

/-- A reader takes the bytes `l` as the request `r`, and neither more bytes nor fewer. -/
structure Reads (f : Reader) (l : List Byte) (r : Request) : Prop where
  whole : f l = some r
  more : ∀ extra, extra ≠ [] → f (l ++ extra) = none
  fewer : ∀ n, n < l.length → f (l.take n) = none

namespace Reads

variable {l : List Byte} {r : Request}

theorem pEnd (r : Request) : Reads (pEnd r) [] r where
  whole := rfl
  more _ hextra := if_neg fun hempty => hextra (List.isEmpty_iff.1 hempty)
  fewer _ hn := absurd hn (Nat.not_lt_zero _)

theorem p1 {k : Nat → Reader} {n : Nat} (hn : n < 256) (h : Reads (k n) l r) : Reads (p1 k) (be1 n ++ l) r := by
  have hread : ∀ b, Machine.p1 k (be1 n ++ b) = k n b := fun b => by
    show k (BitVec.ofNat 8 n).toNat b = k n b
    rw [toNat_ofNat_of_lt hn]
  refine ⟨(hread l).trans h.whole, fun extra hextra => ?_, fun m hm => ?_⟩
  · rw [List.append_assoc, hread]
    exact h.more extra hextra
  · cases m with
    | zero => rfl
    | succ m => exact (hread (l.take m)).trans (h.fewer m (Nat.lt_of_succ_lt_succ hm))

theorem p2 {k : Nat → Reader} {n : Nat} (hn : n < 65536) (h : Reads (k n) l r) : Reads (p2 k) (be2 n ++ l) r := by
  have hread : ∀ b, Machine.p2 k (be2 n ++ b) = k n b := fun b => by
    show k ((BitVec.ofNat 8 (n / 256)).toNat * 256 + (BitVec.ofNat 8 n).toNat) b = k n b
    rw [toNat_ofNat_pair hn]
  refine ⟨(hread l).trans h.whole, fun extra hextra => ?_, fun m hm => ?_⟩
  · rw [List.append_assoc, hread]
    exact h.more extra hextra
  · match m with
    | 0 | 1 => rfl
    | m + 2 => exact (hread (l.take m)).trans (h.fewer m (Nat.lt_of_succ_lt_succ (Nat.lt_of_succ_lt_succ hm)))

theorem p4 {k : Nat → Reader} {n : Nat} (hn : n < 4294967296) (h : Reads (k n) l r) : Reads (p4 k) (be4 n ++ l) r := by
  have hvalue : (((BitVec.ofNat 8 (n / 16777216)).toNat * 256 + (BitVec.ofNat 8 (n / 65536)).toNat) * 256
      + (BitVec.ofNat 8 (n / 256)).toNat) * 256 + (BitVec.ofNat 8 n).toNat = n := by
    simp only [BitVec.toNat_ofNat]
    omega
  have hread : ∀ b, Machine.p4 k (be4 n ++ b) = k n b := fun b => congrArg (fun x => k x b) hvalue
  refine ⟨(hread l).trans h.whole, fun extra hextra => ?_, fun m hm => ?_⟩
  · rw [List.append_assoc, hread]
    exact h.more extra hextra
  · match m with
    | 0 | 1 | 2 | 3 => rfl
    | m + 4 =>
      have hlen : (be4 n ++ l).length = l.length + 4 := rfl
      exact (hread (l.take m)).trans (h.fewer m (by omega))

theorem pN {k : List Byte → Reader} {b : List Byte} {n : Nat} (hn : b.length = n) (h : Reads (k b) l r) :
    Reads (pN n k) (b ++ l) r := by
  subst hn
  have hread : ∀ c, Machine.pN b.length k (b ++ c) = k b c := fun c => by
    simp [Machine.pN, rdN]
  refine ⟨(hread l).trans h.whole, fun extra hextra => ?_, fun m hm => ?_⟩
  · rw [List.append_assoc, hread]
    exact h.more extra hextra
  · by_cases hshort : m < b.length
    · have hfew : ¬ b.length ≤ ((b ++ l).take m).length := by
        rw [List.length_take]
        omega
      simp only [Machine.pN, rdN, if_neg hfew]
    · rw [List.take_append, List.take_of_length_le (Nat.le_of_not_lt hshort), hread]
      exact h.fewer _ (by rw [List.length_append] at hm; omega)

theorem pStr {k : List Byte → Reader} {b : List Byte} (hb : b.length < 256) (h : Reads (k b) l r) :
    Reads (pStr k) (be1 b.length ++ (b ++ l)) r := p1 hb (pN rfl h)

end Reads

/-! ## Lists of numbers in bytes (R162) -/

/-- The bytes of a dial list's elements. -/
def dialBytes (d : List (Nat × Nat)) : List Byte := d.flatMap fun x => be1 x.1 ++ be1 x.2

theorem length_dialBytes (d : List (Nat × Nat)) : (dialBytes d).length = 2 * d.length := by
  induction d with
  | nil => rfl
  | cons x d ih =>
    rw [dialBytes, List.flatMap_cons, List.length_append, List.length_cons]
    rw [dialBytes] at ih
    rw [ih]
    simp only [be1, List.length_append, List.length_cons, List.length_nil]
    omega

theorem pairsOf_dialBytes {d : List (Nat × Nat)} (h : ∀ x ∈ d, x.1 < 256 ∧ x.2 < 256) :
    pairsOf (dialBytes d) = d := by
  induction d with
  | nil => rfl
  | cons x d ih =>
    obtain ⟨hfirst, hsecond⟩ := h x (List.mem_cons_self ..)
    have hrest := ih fun y hy => h y (List.mem_cons_of_mem _ hy)
    show ((BitVec.ofNat 8 x.1).toNat, (BitVec.ofNat 8 x.2).toNat) :: pairsOf (dialBytes d) = x :: d
    rw [toNat_ofNat_of_lt hfirst, toNat_ofNat_of_lt hsecond, hrest]

theorem map_toNat_be1 {p : List Nat} (h : ∀ x ∈ p, x < 256) : (p.flatMap be1).map BitVec.toNat = p := by
  induction p with
  | nil => rfl
  | cons x p ih =>
    show (BitVec.ofNat 8 x).toNat :: (p.flatMap be1).map BitVec.toNat = x :: p
    rw [toNat_ofNat_of_lt (h x (List.mem_cons_self ..)), ih fun y hy => h y (List.mem_cons_of_mem _ hy)]

theorem length_flatMap_be1 (p : List Nat) : (p.flatMap be1).length = p.length := by
  induction p with
  | nil => rfl
  | cons x p ih => exact congrArg Nat.succ ih

/-- The bytes of one setting of NMSK. -/
def maskBytes (x : List Byte × Nat × Nat × Nat) : List Byte := x.1 ++ be1 x.2.1 ++ be1 x.2.2.1 ++ be1 x.2.2.2

/-- A setting of NMSK that its seven bytes can carry. -/
def MaskFits (x : List Byte × Nat × Nat × Nat) : Prop :=
  x.1.length = 4 ∧ x.2.1 < 256 ∧ x.2.2.1 < 256 ∧ x.2.2.2 < 256

theorem length_maskBytes {l : List (List Byte × Nat × Nat × Nat)} (h : ∀ x ∈ l, MaskFits x) :
    (l.flatMap maskBytes).length = 7 * l.length := by
  induction l with
  | nil => rfl
  | cons x l ih =>
    obtain ⟨hname, -⟩ := h x (List.mem_cons_self ..)
    rw [List.flatMap_cons, List.length_append, ih fun y hy => h y (List.mem_cons_of_mem _ hy)]
    simp only [maskBytes, be1, List.length_append, List.length_cons, List.length_nil, hname]
    omega

theorem maskFields_maskBytes {l : List (List Byte × Nat × Nat × Nat)} (h : ∀ x ∈ l, MaskFits x) :
    maskFields l.length (l.flatMap maskBytes) = l := by
  induction l with
  | nil => rfl
  | cons x l ih =>
    obtain ⟨⟨name, line, mask, level⟩, l⟩ := x, l
    obtain ⟨hname, hline, hmask, hlevel⟩ := h _ (List.mem_cons_self ..)
    dsimp only at hname hline hmask hlevel
    obtain ⟨a, b, c, d, rfl⟩ := List.length_eq_four.1 hname
    have hrest := ih fun y hy => h y (List.mem_cons_of_mem _ hy)
    show (_, (BitVec.ofNat 8 line).toNat, (BitVec.ofNat 8 mask).toNat, (BitVec.ofNat 8 level).toNat)
      :: maskFields l.length (l.flatMap maskBytes) = _
    rw [toNat_ofNat_of_lt hline, toNat_ofNat_of_lt hmask, toNat_ofNat_of_lt hlevel, hrest]
    rfl

/-- A dial list is taken with the fields behind it. -/
theorem Reads.pDial {k : List (Nat × Nat) → Reader} {d : List (Nat × Nat)} {l : List Byte} {r : Request}
    (hlen : d.length < 256) (hd : ∀ x ∈ d, x.1 < 256 ∧ x.2 < 256) (h : Reads (k d) l r) :
    Reads (pDial k) (be1 d.length ++ (dialBytes d ++ l)) r := by
  refine .p1 hlen (.pN (length_dialBytes d) ?_)
  rwa [pairsOf_dialBytes hd]

/-! ## The request behind a name (R166) -/

/-- The values of a request fit the bytes that its record gives them (R162). -/
def Request.fits (line : Nat) : Request → Bool
  | .call k m f d => line != 15 && fits1 k && fits1 m && fits1 f && fitsDial d
  | .callGroup g k m f w t d =>
    line == 15 && fits1 g && fits1 k && fits1 m && fits1 f && fits2 w && fits2 t && fitsDial d
  | .ansr k m f => fits1 k && fits1 m && fits1 f
  | .rels n | .cncl n | .ctdl n | .ctrd n | .flow n | .faxr n | .scls n | .sdel n | .dtch n | .slst n | .paus n
  | .rset n => fits1 n
  | .digr | .budg | .fxst | .fxab | .ssta | .vstp | .take | .save => true
  | .tone d => fitsList d
  | .ctad n c b => fitsList n && fits1 c && fitsList b
  | .faxs p r w q => fitsPages p && fits1 r && fits1 w && fits1 q
  | .scrt k e m => fits1 k && fits2 e && fits1 m
  | .atch k i r => fits1 k && fits1 i && fits1 r
  | .swrt i b => fits1 i && decide (b.length + 7 ≤ maxPayload)
  | .sred i o n => fits1 i && fits4 o && fits2 n
  | .pack a r => fits1 a && fits1 r
  | .play k c r g d => fits1 k && fits2 c && fits1 r && fits2 g && fits1 d
  | .recd k l q t d => fits1 k && fits2 l && fits1 q && fits2 t && fits1 d
  | .nmsk l => fitsMasks l
  | .getp c i => fits1 c && fits1 i
  | .setp c b => fits1 c && decide (b.length + 5 ≤ maxPayload)
  | .cntr c f => fits1 c && fits1 f
  | .malformed _ => false
  | .unknown p => unknownPayload p

/-- A well-formed command carries a request that fits, with a line byte and a tag that do. -/
theorem fits_of_carried {c : Instr} {line tag : Nat} {r : Request} (hc : c.wellFormed = true)
    (h : carried c = some (line, tag, r)) : line < 256 ∧ tag < 256 ∧ r.fits line = true := by
  cases c
  all_goals cases h
  all_goals simp_all [Instr.wellFormed, Request.fits, fitsHead, fits1, and_assoc]

theorem requestOf_of_find {line : Nat} {name b : List Byte} {f : Reader} (hname : name.length = 4)
    (h : (readers line).find? (fun x => x.1 == name) = some (name, f)) :
    requestOf line (name ++ b) = (f b).getD (.malformed name) := by
  have htake : (name ++ b).take 4 = name := by rw [← hname, List.take_left]
  have hdrop : (name ++ b).drop 4 = b := by rw [← hname, List.drop_left]
  have hlong : ¬ (name ++ b).length < 4 := by
    rw [List.length_append]
    omega
  rw [requestOf, if_neg hlong, htake, hdrop, h]
  dsimp only
  cases f b <;> rfl

/-- The part knows the name of `r`, and the reader of that name takes its fields as `r`. -/
def Request.Spelled (line : Nat) (r : Request) : Prop :=
  ∃ f, (readers line).find? (fun x => x.1 == r.name) = some (r.name, f) ∧ Reads f r.fields r

theorem Reads.of_eq {f : Reader} {l b : List Byte} {r : Request} (h : Reads f l r) (hb : b = l) : Reads f b r := hb ▸ h

theorem fitsDial_iff {d : List (Nat × Nat)} :
    fitsDial d = true ↔ d.length < 256 ∧ ∀ x ∈ d, x.1 < 256 ∧ x.2 < 256 := by
  simp only [fitsDial, fitsList, fits1, Bool.and_eq_true, decide_eq_true_eq, List.all_eq_true]

theorem fitsPages_iff {p : List Nat} : fitsPages p = true ↔ p.length < 256 ∧ ∀ x ∈ p, x < 256 := by
  simp only [fitsPages, fitsList, fits1, Bool.and_eq_true, decide_eq_true_eq, List.all_eq_true]

theorem fitsMasks_iff {l : List (List Byte × Nat × Nat × Nat)} :
    fitsMasks l = true ↔ l.length ≤ 156 ∧ ∀ x ∈ l, MaskFits x := by
  simp only [fitsMasks, fits1, Bool.and_eq_true, decide_eq_true_eq, List.all_eq_true, beq_iff_eq, MaskFits, and_assoc]

/-- Every request that fits is spelled by its name and fields, SETP and an unknown name apart (table of R162). -/
theorem Request.spelled_of_fits {line : Nat} {r : Request} (h : r.fits line = true) (hknown : ∀ p, r ≠ .unknown p)
    (hsetp : ∀ n b, r ≠ .setp n b) : r.Spelled line := by
  cases r
  case unknown p => exact absurd rfl (hknown p)
  case setp n b => exact absurd rfl (hsetp n b)
  case malformed => cases h
  all_goals simp only [Request.fits, fits1, fits2, fits4, fitsList, fitsDial_iff, fitsPages_iff, fitsMasks_iff,
    Bool.and_eq_true, decide_eq_true_eq, bne_iff_ne, beq_iff_eq, and_assoc] at h
  case call k m f d =>
    obtain ⟨hline, hk, hm, hf, hlen, hd⟩ := h
    refine ⟨pCall line, rfl, ?_⟩
    rw [pCall, if_neg hline]
    exact (Reads.p1 hk (.p1 hm (.p1 hf (.pDial hlen hd (.pEnd _))))).of_eq (by simp [Request.fields, dialBytes])
  case callGroup g k m f w t d =>
    obtain ⟨hline, hg, hk, hm, hf, hw, ht, hlen, hd⟩ := h
    refine ⟨pCall line, rfl, ?_⟩
    rw [pCall, if_pos hline]
    exact (Reads.p1 hg (.p1 hk (.p1 hm (.p1 hf (.p2 hw (.p2 ht (.pDial hlen hd (.pEnd _)))))))).of_eq
      (by simp [Request.fields, dialBytes])
  case digr | budg | fxst | fxab | ssta | vstp | take | save => exact ⟨_, rfl, .pEnd _⟩
  case rels | cncl | ctdl | ctrd | flow | faxr | scls | sdel | dtch | slst | paus | rset =>
    exact ⟨_, rfl, .p1 h (.pEnd _)⟩
  case pack | getp | cntr =>
    obtain ⟨ha, hb⟩ := h
    exact ⟨_, rfl, .p1 ha (.p1 hb (.pEnd _))⟩
  case ansr | atch =>
    obtain ⟨ha, hb, hc⟩ := h
    exact ⟨_, rfl, .p1 ha (.p1 hb (.p1 hc (.pEnd _)))⟩
  case tone d => exact ⟨_, rfl, (Reads.pStr h (.pEnd _)).of_eq (by simp [Request.fields, beStr])⟩
  case ctad n c b =>
    obtain ⟨hn, hc, hb⟩ := h
    exact ⟨_, rfl, (Reads.pStr hn (.p1 hc (.pStr hb (.pEnd _)))).of_eq (by simp [Request.fields, beStr])⟩
  case faxs p r w q =>
    obtain ⟨hlen, hp, hr, hw, hq⟩ := h
    refine ⟨_, rfl, (Reads.p1 hlen (.pN (l := be1 r ++ (be1 w ++ be1 q)) (length_flatMap_be1 p) ?_)).of_eq
      (by simp [Request.fields])⟩
    rw [map_toNat_be1 hp]
    exact .p1 hr (.p1 hw (.p1 hq (.pEnd _)))
  case scrt k e m =>
    obtain ⟨hk, he, hm⟩ := h
    exact ⟨_, rfl, .p1 hk (.p2 he (.p1 hm (.pEnd _)))⟩
  case swrt i b =>
    obtain ⟨hi, hb⟩ := h
    exact ⟨_, rfl, (Reads.p1 hi (.p2 (by unfold maxPayload at hb; omega) (.pN rfl (.pEnd _)))).of_eq
      (by simp [Request.fields])⟩
  case sred i o n =>
    obtain ⟨hi, ho, hn⟩ := h
    exact ⟨_, rfl, .p1 hi (.p4 ho (.p2 hn (.pEnd _)))⟩
  case play k c r g d =>
    obtain ⟨hk, hc, hr, hg, hd⟩ := h
    exact ⟨_, rfl, .p1 hk (.p2 hc (.p1 hr (.p2 hg (.p1 hd (.pEnd _)))))⟩
  case recd k l q t d =>
    obtain ⟨hk, hl, hq, ht, hd⟩ := h
    exact ⟨_, rfl, .p1 hk (.p2 hl (.p1 hq (.p2 ht (.p1 hd (.pEnd _)))))⟩
  case nmsk l =>
    obtain ⟨hlen, hl⟩ := h
    refine ⟨_, rfl, (Reads.p1 (by omega) (.pN (l := []) (length_maskBytes hl) ?_)).of_eq
      (by rw [List.append_nil]; rfl)⟩
    rw [maskFields_maskBytes hl]
    exact .pEnd _

theorem Request.name_length (r : Request) (hknown : ∀ p, r ≠ .unknown p) (hbad : ∀ n, r ≠ .malformed n) :
    r.name.length = 4 := by
  cases r
  case unknown p => exact absurd rfl (hknown p)
  case malformed n => exact absurd rfl (hbad n)
  all_goals rfl

/-- The names by which a payload is read are the names of the table of R162. -/
theorem readers_names (line : Nat) : (readers line).map Prod.fst = requestNames := rfl

theorem requestOf_unknown {line : Nat} {p : List Byte} (h : unknownPayload p = true) : requestOf line p = .unknown p := by
  unfold requestOf
  split
  · rfl
  · next hlong =>
    have hname : p.length ≤ maxPayload ∧ p.take 4 ∉ requestNames := by simpa [unknownPayload, hlong] using h
    have hnone : (readers line).find? (fun x => x.1 == p.take 4) = none := by
      refine List.find?_eq_none.2 fun x hx heq => hname.2 ?_
      rw [← beq_iff_eq.1 heq, ← readers_names line]
      exact List.mem_map_of_mem hx
    rw [hnone]

theorem requestOf_setp {line n : Nat} {b : List Byte} (hn : n < 256) :
    requestOf line (Request.setp n b).payload = .setp n b := by
  have hread : requestOf line (chars 'S' 'E' 'T' 'P' ++ (be1 n ++ b)) = .setp (BitVec.ofNat 8 n).toNat b :=
    requestOf_of_find (f := Machine.p1 fun c b => some (.setp c b)) rfl rfl
  rwa [toNat_ofNat_of_lt hn] at hread

theorem Request.payload_eq {r : Request} (hknown : ∀ p, r ≠ .unknown p) : r.payload = r.name ++ r.fields := by
  cases r
  case unknown p => exact absurd rfl (hknown p)
  all_goals rfl

namespace Request.Spelled

variable {line : Nat} {r : Request}

theorem requestOf_whole (h : r.Spelled line) (hname : r.name.length = 4) : requestOf line (r.name ++ r.fields) = r := by
  obtain ⟨f, hfind, hreads⟩ := h
  rw [requestOf_of_find hname hfind, hreads.whole]
  rfl

theorem requestOf_more (h : r.Spelled line) (hname : r.name.length = 4) {extra : List Byte} (hextra : extra ≠ []) :
    requestOf line (r.name ++ r.fields ++ extra) = .malformed r.name := by
  obtain ⟨f, hfind, hreads⟩ := h
  rw [List.append_assoc, requestOf_of_find hname hfind, hreads.more extra hextra]
  rfl

theorem requestOf_fewer (h : r.Spelled line) (hname : r.name.length = 4) {n : Nat} (hlow : 4 ≤ n)
    (hn : n < (r.name ++ r.fields).length) : requestOf line ((r.name ++ r.fields).take n) = .malformed r.name := by
  obtain ⟨f, hfind, hreads⟩ := h
  rw [List.length_append, hname] at hn
  rw [List.take_append, hname, List.take_of_length_le (hname ▸ hlow), requestOf_of_find hname hfind,
    hreads.fewer _ (by omega)]
  rfl

end Request.Spelled

/-- Settles O52, by the readers of the fields, name by name. -/
theorem requestReadsBackFromItsRecord : Obligations.RequestReadsBackFromItsRecord := by
  unfold Obligations.RequestReadsBackFromItsRecord
  intro c line tag r hc hr
  obtain ⟨-, -, hfits⟩ := fits_of_carried hc hr
  by_cases hunknown : ∃ p, r = .unknown p
  · obtain ⟨p, rfl⟩ := hunknown
    exact requestOf_unknown hfits
  by_cases hsetp : ∃ n b, r = .setp n b
  · obtain ⟨n, b, rfl⟩ := hsetp
    simp only [Request.fits, fits1, Bool.and_eq_true, decide_eq_true_eq] at hfits
    exact requestOf_setp hfits.1
  have hknown : ∀ p, r ≠ .unknown p := fun p heq => hunknown ⟨p, heq⟩
  have hspelled := Request.spelled_of_fits hfits hknown fun n b heq => hsetp ⟨n, b, heq⟩
  have hname := r.name_length hknown (by rintro n rfl; cases hfits)
  rw [Request.payload_eq hknown]
  exact hspelled.requestOf_whole hname

/-! ## A record that carries a request (R162, R163) -/

theorem byteSum_checkByte (b : List Byte) : byteSum (b ++ [checkByte b]) % 256 = 0 := by
  have hcheck : byteSum [checkByte b] = (256 - byteSum b % 256) % 256 := by
    simp [byteSum, checkByte]
  rw [byteSum_append, hcheck]
  omega

theorem recordBytes_length (kind line tag : Nat) (p : List Byte) :
    (recordBytes kind line tag p).length = p.length + 6 := by
  simp only [recordBytes, be1, be2, List.length_append, List.length_cons, List.length_nil]
  omega

/-- The length field of a record. -/
theorem at2_recordBytes (kind line tag : Nat) {p : List Byte} (h : p.length < 65536) :
    at2 (recordBytes kind line tag p) 3 = p.length := toNat_ofNat_pair h

theorem recordOf_recordBytes {line tag : Nat} {p : List Byte} (hline : line < 256) (htag : tag < 256)
    (hlen : p.length < 65536) : recordOf (recordBytes 1 line tag p) =
      some { line := line, tag := tag, body := .request (requestOf line p) } := by
  have hsum : byteSum (recordBytes 1 line tag p) % 256 = 0 := byteSum_checkByte _
  have hkind : at1 (recordBytes 1 line tag p) 0 = 1 := rfl
  have hat1 : at1 (recordBytes 1 line tag p) 1 = line := toNat_ofNat_of_lt hline
  have hat2 : at1 (recordBytes 1 line tag p) 2 = tag := toNat_ofNat_of_lt htag
  have hpayload : ((recordBytes 1 line tag p).drop 5).take p.length = p := List.take_left
  simp only [recordOf, hsum, hkind, hat1, hat2, at2_recordBytes 1 line tag hlen, hpayload, ne_eq, not_true_eq_false,
    if_false, if_true]

/-- The command that carries a request offers it to the inbound buffer (log 5). -/
theorem exec_of_carried {c : Instr} {line tag : Nat} {r : Request} (h : carried c = some (line, tag, r)) (s : State) :
    exec c s = hostRecord s line tag (.request r) := by
  cases c
  all_goals cases h
  all_goals rfl

/-- The record of a payload, arriving whole in HUNT, offers the request that the payload spells (R163, log 66). -/
theorem exec_recordReceived_recordBytes {s : State} {line tag : Nat} {p : List Byte} (hhunt : s.lp.receiver = .hunt)
    (hgap : s.lp.gapDue = none) (hline : line < 256) (htag : tag < 256) (hlen : p.length ≤ 1100) :
    exec (.recordReceived (recordBytes 1 line tag p)) s = hostRecord s line tag (.request (requestOf line p)) := by
  have hsize : at2 (recordBytes 1 line tag p) 3 = p.length := at2_recordBytes 1 line tag (by omega)
  have hwhole : s.receiveBytes (165 :: recordBytes 1 line tag p) = s.judgeRecord (recordBytes 1 line tag p) :=
    State.receiveBytes_of_whole hhunt hgap (by rw [hsize, recordBytes_length]) (hsize ▸ hlen)
  show react s (fun s => s.receiveBytes (165 :: recordBytes 1 line tag p)) = _
  by_cases hrun : s.phase = .running
  · rw [react_running hrun, hwhole, State.judgeRecord, recordOf_recordBytes hline htag (by omega), hostRecord,
      react_running hrun]
  · rw [react_held hrun, hostRecord, react_held hrun]

theorem length_be1 (n : Nat) : (be1 n).length = 1 := rfl
theorem length_be2 (n : Nat) : (be2 n).length = 2 := rfl
theorem length_be4 (n : Nat) : (be4 n).length = 4 := rfl
theorem length_chars (a b c d : Char) : (chars a b c d).length = 4 := rfl

/-- A request that fits is spelled in at most 1100 bytes (R162). -/
theorem Request.payload_length_le {line : Nat} {r : Request} (h : r.fits line = true) : r.payload.length ≤ 1100 := by
  cases r
  all_goals simp only [Request.fits, fits1, fits2, fits4, fitsList, fitsDial_iff, fitsPages_iff, fitsMasks_iff,
    Bool.and_eq_true, decide_eq_true_eq, bne_iff_ne, beq_iff_eq, and_assoc] at h
  case malformed => cases h
  case unknown p =>
    simp only [unknownPayload, Bool.and_eq_true, decide_eq_true_eq] at h
    exact h.1
  all_goals simp only [Request.payload, Request.fields, Request.name, length_chars, length_be1, length_be2, length_be4,
    beStr, List.length_append, List.length_nil]
  case call k m f d =>
    obtain ⟨-, -, -, -, hlen, -⟩ := h
    have hd : (d.flatMap fun x => be1 x.1 ++ be1 x.2).length = 2 * d.length := length_dialBytes d
    omega
  case callGroup g k m f w t d =>
    obtain ⟨-, -, -, -, -, -, -, hlen, -⟩ := h
    have hd : (d.flatMap fun x => be1 x.1 ++ be1 x.2).length = 2 * d.length := length_dialBytes d
    omega
  case faxs p r w q =>
    rw [length_flatMap_be1]
    omega
  case swrt i b =>
    unfold maxPayload at h
    omega
  case setp n b =>
    unfold maxPayload at h
    omega
  case nmsk l =>
    obtain ⟨hlen, hl⟩ := h
    have hmasks : (l.flatMap fun x => x.1 ++ be1 x.2.1 ++ be1 x.2.2.1 ++ be1 x.2.2.2).length = 7 * l.length :=
      length_maskBytes hl
    omega
  all_goals omega

/-- Settles O53, by the record's bytes collected to a record that is the request read back. -/
theorem recordDoesWhatItsCommandDoes : Obligations.RecordDoesWhatItsCommandDoes := by
  unfold Obligations.RecordDoesWhatItsCommandDoes
  intro c line tag r s hc hr hhunt hgap
  obtain ⟨hline, htag, hfits⟩ := fits_of_carried hc hr
  rw [exec_recordReceived_recordBytes hhunt hgap hline htag (Request.payload_length_le hfits),
    requestReadsBackFromItsRecord c line tag r hc hr, exec_of_carried hr]

end Sys2Proof.Machine
end

section
/-! PROOFS. Requests that are not carried out (R164 to R166, R171): O54. When the buffer's head can be taken, what a
record that cannot be taken does, and the checks ahead of a request's own. -/

namespace Sys2Proof.Machine

open Sys2Proof

/-! ## Taking from the inbound buffer (R165) -/

theorem Lp.canTake_request {p : Lp} {line tag : Nat} {r : Request} :
    p.canTake { line := line, tag := tag, body := .request r } = true ↔
      p.open_ = true ∧ p.hardPending = false ∧ p.replies.length < 8 := by
  simp [Lp.canTake, and_assoc]

theorem Lp.canTake_iff {p : Lp} {r : Inbound} :
    p.canTake r = true ↔ p.open_ = true ∧ p.hardPending = false ∧ ((∃ b, r.body = .data b) ∨ p.replies.length < 8) := by
  obtain ⟨line, tag, body⟩ := r
  cases body with
  | data b => simp [Lp.canTake]
  | request q => simp [Lp.canTake, and_assoc]

theorem drainN_of_empty (n : Nat) {s : State} (h : s.lp.inbound = []) : drainN n s = s := by
  cases n with
  | zero => rfl
  | succ n => rw [drainN, h]

theorem drainN_of_untaken (n : Nat) {s : State} {r : Inbound} {rest : List Inbound} (h : s.lp.inbound = r :: rest)
    (hno : s.lp.canTake r = false) : drainN n s = s := by
  cases n with
  | zero => rfl
  | succ n =>
    rw [drainN, h]
    exact if_neg (Bool.not_eq_true _ ▸ hno)

theorem State.drain_of_empty {s : State} (h : s.lp.inbound = []) : s.drain = s := drainN_of_empty _ h

theorem State.drain_of_untaken {s : State} {r : Inbound} {rest : List Inbound} (h : s.lp.inbound = r :: rest)
    (hno : s.lp.canTake r = false) : s.drain = s := drainN_of_untaken _ h hno

/-! ## A record that waits, or is lost (R164, R171) -/

theorem State.offer_of_room {s : State} (h : s.lp.inbound.length < 4) (r : Inbound) :
    s.offer r = { s with lp := { s.lp with inbound := s.lp.inbound ++ [r] } } := if_pos h

/-- A record whose buffer's head cannot be taken does what its offer does. -/
theorem hostRecord_of_untaken {s : State} {line tag : Nat} {b : InBody} {r : Inbound} {rest : List Inbound}
    (hrun : s.phase = .running)
    (hhead : (s.offer { line := line, tag := tag, body := b }).lp.inbound = r :: rest)
    (hno : (s.offer { line := line, tag := tag, body := b }).lp.canTake r = false)
    (hbm : (s.offer { line := line, tag := tag, body := b }).handedOut) :
    hostRecord s line tag b = .next (s.offer { line := line, tag := tag, body := b }) := by
  rw [hostRecord, react_running hrun, State.drain_of_untaken hhead hno, State.settle_eq hbm]

/-- A request joins the tail of a buffer that has room, where the head then cannot be taken. -/
theorem hostRecord_joins {s : State} {line tag : Nat} {r : Request} (hrun : s.phase = .running) (hbm : s.handedOut)
    (hroom : s.lp.inbound.length < 4)
    (hno : ∀ x rest, s.lp.inbound ++ [{ line := line, tag := tag, body := .request r }] = x :: rest →
      s.lp.canTake x = false) :
    hostRecord s line tag (.request r) = .next { s with lp := { s.lp with
      inbound := s.lp.inbound ++ [{ line := line, tag := tag, body := .request r }] } } := by
  obtain ⟨x, rest, hhead⟩ := List.exists_cons_of_ne_nil
    (List.append_ne_nil_of_right_ne_nil s.lp.inbound
      (List.cons_ne_nil ({ line := line, tag := tag, body := .request r } : Inbound) []))
  have hoffer := State.offer_of_room hroom { line := line, tag := tag, body := .request r }
  rw [hostRecord_of_untaken (r := x) (rest := rest) hrun (by rw [hoffer]; exact hhead)
    (by rw [hoffer]; exact hno x rest hhead) (by rw [hoffer]; exact hbm), hoffer]

/-- With four records waiting the record is lost, counted as overrun (R164, R171). -/
theorem State.offer_of_full {s : State} (h : s.lp.inbound.length = 4) (hcount : s.cnt.overrun < 4294967295)
    (r : Inbound) :
    s.offer r = ({ s with cnt := { s.cnt with overrun := s.cnt.overrun + 1 } } : State).raisePart .lerr := by
  have hnext : satAdd s.cnt.overrun 1 = s.cnt.overrun + 1 := Nat.min_eq_right (Nat.succ_le_of_lt hcount)
  have hchanged : ({ s.cnt with overrun := satAdd s.cnt.overrun 1 } : PartCounters) ≠ s.cnt := fun heq => by
    have hsame := congrArg PartCounters.overrun heq
    dsimp only at hsame
    omega
  rw [State.offer, if_neg (by omega), State.linkError, if_neg hchanged, hnext]

/-! ## The checks ahead of a request's own (R166) -/

theorem onPart_of_otherLine (s : State) {line : Nat} (a : Answer) (h : line ≠ 15) :
    onPart s line a = refuse s .badArgument := if_neg h

/-- A part-wide request with another line byte is refused, SETP once its contents fit. -/
theorem answerRequest_of_forPart (s : State) {line : Nat} {r : Request} (hr : r.forPart = true) (hline : line ≠ 15)
    (hsetp : ∀ n b, r = .setp n b → 1 ≤ n → n ≤ 5 → sectionFits n b = true) :
    answerRequest s line r = refuse s .badArgument := by
  cases r
  case setp n b =>
    have hfits : ¬ (1 ≤ n ∧ n ≤ 5 ∧ sectionFits n b = false) := fun ⟨hlow, hhigh, hno⟩ =>
      absurd (hsetp n b rfl hlow hhigh) (Bool.not_eq_true _ ▸ hno)
    exact (if_neg hfits).trans (onPart_of_otherLine s _ hline)
  case pack action region =>
    show takePack s line action region = _
    unfold takePack
    split
    · exact onPart_of_otherLine s _ hline
    · exact onPart_of_otherLine s _ hline
    · rfl
  case rset kind =>
    show takeRset s line kind = _
    unfold takeRset
    split
    · exact onPart_of_otherLine s _ hline
    · exact onPart_of_otherLine s _ hline
    · rfl
  case cncl | ctad | ctdl | ctrd | budg | scrt | scls | sdel | swrt | sred | slst | ssta | nmsk | getp | save | cntr =>
    exact onPart_of_otherLine s _ hline
  all_goals cases hr

/-- A request that names a line is refused where there is none of that number. -/
theorem answerRequest_of_forLine (s : State) {line : Nat} {r : Request} (hr : r.forLine = true) (hline : 4 ≤ line) :
    answerRequest s line r = refuse s .badArgument := by
  cases r
  case call | ansr | rels | digr | tone | flow | faxs | faxr | fxst | fxab | atch | dtch | play | recd | paus | vstp
      | take =>
    exact onLine_of_noLine s _ hline
  all_goals cases hr

/-- Settles O54: the readers for MALFORMED, the two line checks, the head of the buffer for what waits. -/
theorem unknownAndUntakenRequests : Obligations.UnknownAndUntakenRequests := by
  unfold Obligations.UnknownAndUntakenRequests
  refine ⟨fun s line tag p hs => ?unknown, fun c line tag r hc hr hknown hsetp => ?spelling,
    fun s line tag p n hs hhunt hgap hline htag hlen hbad => ?malformed, fun s c line tag r hs hr hwrong => ?line,
    fun s c line tag r hrun hr hbm => ?untaken⟩
  case unknown => exact hostRecord_refuses hs rfl
  case spelling =>
    obtain ⟨-, -, hfits⟩ := fits_of_carried hc hr
    have hspelled := Request.spelled_of_fits hfits hknown hsetp
    have hname := r.name_length hknown (by rintro n rfl; cases hfits)
    rw [Request.payload_eq hknown]
    exact ⟨fun extra hextra => hspelled.requestOf_more hname hextra,
      fun n hlow hn => hspelled.requestOf_fewer hname hlow hn⟩
  case malformed =>
    rw [exec_recordReceived_recordBytes hhunt hgap hline htag hlen, hbad]
    exact hostRecord_refuses hs rfl
  case line =>
    rw [exec_of_carried hr]
    rcases hwrong with ⟨hpart, hother, hsetp⟩ | ⟨hforLine, hno⟩
    · exact hostRecord_refuses hs (answerRequest_of_forPart s hpart hother hsetp)
    · exact hostRecord_refuses hs (answerRequest_of_forLine s hforLine hno)
  case untaken =>
    rw [exec_of_carried hr]
    refine ⟨fun hclosed hroom => ?_, fun hfull hempty => ?_, fun hclosed hfull hcount => ?_⟩
    · exact hostRecord_joins hrun hbm hroom fun x rest _ => by simp [Lp.canTake, hclosed]
    · have hjoins := hostRecord_joins (line := line) (tag := tag) (r := r) hrun hbm
        (by rw [hempty]; exact Nat.zero_lt_succ _) fun x rest hhead => by
          rw [hempty] at hhead
          cases hhead
          refine Bool.eq_false_iff.2 fun htake => ?_
          obtain ⟨-, -, hroom⟩ := Lp.canTake_request.1 htake
          exact absurd hroom (Nat.not_lt.2 hfull)
      rwa [hempty] at hjoins
    · have hoffer := State.offer_of_full hfull hcount { line := line, tag := tag, body := .request r }
      obtain ⟨x, rest, hhead⟩ := List.exists_cons_of_length_pos (l := s.lp.inbound) (by omega)
      rw [hostRecord_of_untaken (r := x) (rest := rest) hrun (by rw [hoffer]; exact hhead)
        (by rw [hoffer]; simp [Lp.canTake, State.raisePart, State.setFlag, hclosed]) (by rw [hoffer]; exact hbm), hoffer]

end Sys2Proof.Machine
end

section
/-! PROOFS. Records of the part (R162, R165, R168, R169): O55. The end of a record and the taking behind it, the arbiter's
choice with the notice it falls on, the bytes on the wire. -/

namespace Sys2Proof.Machine

open Sys2Proof

/-! ## Taking, record after record (R165) -/

theorem State.linkError_lp (s : State) (f : PartCounters → PartCounters) : (s.linkError f).lp = s.lp := by
  unfold State.linkError
  split <;> rfl

/-- Taking a record lets none join the inbound buffer. -/
theorem State.takeRecord_inbound_le (s : State) (r : Inbound) :
    (s.takeRecord r).lp.inbound.length ≤ s.lp.inbound.length := by
  unfold State.takeRecord
  split
  · unfold State.takeDataIn
    split
    · split
      · exact (State.noMore_of_outer (State.takeData_outer ..)).1
      · rw [State.linkError_lp]
    · rw [State.linkError_lp]
  · exact (State.Upholds.answerRequest_noMore s r.line _).1

/-- The state once the head of the inbound buffer is taken, its units handed out. -/
def State.takenHead (s : State) (r : Inbound) (rest : List Inbound) : State :=
  (({ s with lp := { s.lp with inbound := rest } } : State).takeRecord r).settle

theorem State.takenHead_inbound_le (s : State) (r : Inbound) (rest : List Inbound) :
    (s.takenHead r rest).lp.inbound.length ≤ rest.length :=
  (State.noMore_of_outer (State.settle_outer _)).1.trans (State.takeRecord_inbound_le _ r)

theorem drainN_of_taken (n : Nat) {s : State} {r : Inbound} {rest : List Inbound} (h : s.lp.inbound = r :: rest)
    (hcan : s.lp.canTake r = true) : drainN (n + 1) s = drainN n (s.takenHead r rest) := by
  rw [drainN, h]
  exact if_pos hcan

/-- No more records are taken than the buffer holds. -/
theorem drainN_succ (n : Nat) {s : State} (h : s.lp.inbound.length ≤ n) : drainN (n + 1) s = drainN n s := by
  induction n generalizing s with
  | zero =>
    have hempty := List.length_eq_zero_iff.1 (Nat.le_zero.1 h)
    rw [drainN_of_empty _ hempty, drainN_of_empty _ hempty]
  | succ n ih =>
    cases hinbound : s.lp.inbound with
    | nil => rw [drainN_of_empty _ hinbound, drainN_of_empty _ hinbound]
    | cons r rest =>
      cases hcan : s.lp.canTake r with
      | false => rw [drainN_of_untaken _ hinbound hcan, drainN_of_untaken _ hinbound hcan]
      | true =>
        rw [hinbound, List.length_cons] at h
        rw [drainN_of_taken _ hinbound hcan, drainN_of_taken _ hinbound hcan]
        exact ih ((s.takenHead_inbound_le r rest).trans (Nat.le_of_succ_le_succ h))

theorem drainN_eq_drain {n : Nat} {s : State} (h : s.lp.inbound.length ≤ n) : drainN n s = s.drain := by
  induction n, h using Nat.le_induction with
  | base => rfl
  | succ n hn ih => rw [drainN_succ n hn, ih]

/-- A head that can be taken is taken, and then what follows it (R165). -/
theorem State.drain_of_taken {s : State} {r : Inbound} {rest : List Inbound} (h : s.lp.inbound = r :: rest)
    (hcan : s.lp.canTake r = true) : s.drain = (s.takenHead r rest).drain := by
  rw [State.drain, h, List.length_cons, drainN_of_taken _ h hcan, drainN_eq_drain (s.takenHead_inbound_le r rest)]

theorem State.drain_phase (s : State) : s.drain.phase = s.phase := (State.Upholds.refl s).drain.phase

/-! ## The end of a record (R165, R177) -/

/-- The state behind a record that ends without the hard reset: STRT opens the taking. -/
def State.ended (s : State) (r : OutRec) : State :=
  { s with lp := { s.lp with
    sending := none
    open_ := match r with
      | .notice .strt _ _ => true
      | _ => s.lp.open_ } }

theorem State.sendEnds_of_noReset {s : State} {r : OutRec}
    (h : (∀ q, r ≠ .reply q) ∨ s.lp.hardPending = false ∨ s.lp.replies ≠ []) : s.sendEnds r = s.ended r := by
  cases r with
  | reply q =>
    refine if_neg fun ⟨hpending, hempty⟩ => ?_
    rcases h with hreply | hnot | hsome
    · exact hreply q rfl
    · exact absurd (hpending.symm.trans hnot) nofun
    · exact hsome (List.isEmpty_iff.1 hempty)
  | notice k line content => cases k <;> rfl
  | dataOut i bytes => rfl

theorem State.recordSent_of_idle {s : State} (hrun : s.phase = .running) (h : s.lp.sending = none) :
    s.recordSent = s.chooseRecord.drain := by
  unfold State.recordSent
  rw [h]
  exact if_pos hrun

theorem State.recordSent_of_noReset {s : State} {r : OutRec} (hrun : s.phase = .running) (h : s.lp.sending = some r)
    (hends : (∀ q, r ≠ .reply q) ∨ s.lp.hardPending = false ∨ s.lp.replies ≠ []) :
    s.recordSent = (s.ended r).drain.chooseRecord.drain := by
  unfold State.recordSent
  simp only [h]
  rw [State.sendEnds_of_noReset hends]
  exact if_pos ((s.ended r).drain_phase.trans hrun)

theorem State.recordSent_of_reset {s : State} {q : Reply} (h : s.lp.sending = some (.reply q))
    (hpending : s.lp.hardPending = true) (hlast : s.lp.replies = []) : s.recordSent = s.hardReset .hostHard := by
  have hreset : s.sendEnds (.reply q) = s.hardReset .hostHard := if_pos ⟨hpending, List.isEmpty_iff.2 hlast⟩
  unfold State.recordSent
  simp only [h]
  rw [hreset, State.drain_of_empty rfl]
  exact if_neg nofun

/-! ## The notice chosen (R169) -/

/-- The choice among flags: the first of those of the lowest level. -/
def lowest {α : Type} (level : α → Nat) (best : Option α) (x : α) : Option α :=
  match best with
  | none => some x
  | some b => if level x < level b then some x else some b

section
variable {α : Type} {level : α → Nat} {m : α}

theorem foldl_lowest_above {l : List α} (h : ∀ y ∈ l, level m < level y) {best : Option α}
    (hbest : ∀ y ∈ best, level m < level y) : ∀ y ∈ l.foldl (lowest level) best, level m < level y := by
  induction l generalizing best with
  | nil => exact hbest
  | cons x l ih =>
    refine ih (fun y hy => h y (List.mem_cons_of_mem _ hy)) fun y hy => ?_
    have hx := h x (List.mem_cons_self ..)
    cases best with
    | none => exact Option.some.inj hy ▸ hx
    | some b =>
      unfold lowest at hy
      dsimp only at hy
      split at hy
      · exact Option.some.inj hy ▸ hx
      · exact Option.some.inj hy ▸ hbest b rfl

theorem foldl_lowest_stays {l : List α} (h : ∀ y ∈ l, level m ≤ level y) : l.foldl (lowest level) (some m) = some m := by
  induction l with
  | nil => rfl
  | cons x l ih =>
    have hx : lowest level (some m) x = some m := if_neg (Nat.not_lt.2 (h x (List.mem_cons_self ..)))
    rw [List.foldl_cons, hx, ih fun y hy => h y (List.mem_cons_of_mem _ hy)]

/-- The choice falls on the one before which all are higher, and behind which none is lower. -/
theorem foldl_lowest_eq {a b : List α} (ha : ∀ y ∈ a, level m < level y) (hb : ∀ y ∈ b, level m ≤ level y) :
    (a ++ m :: b).foldl (lowest level) none = some m := by
  have hm : lowest level (a.foldl (lowest level) none) m = some m := by
    have habove := foldl_lowest_above ha (best := none) nofun
    cases hbest : a.foldl (lowest level) none with
    | none => rfl
    | some y => exact if_pos (habove y hbest)
  rw [List.foldl_append, List.foldl_cons, hm, foldl_lowest_stays hb]

end

theorem mem_noticeKinds (k : Notice) : k ∈ noticeKinds := List.mem_of_getElem? (noticeKinds_idx k)

theorem State.mem_noticeList {s : State} {k : Notice} {i : LineNo} :
    (k, i) ∈ s.noticeList ↔ s.eligibleNotice k i = true ∧ (k.partWide = true → i = 0) := by
  have hlines : i ∈ (if k.partWide then [0] else lineNos) ↔ (k.partWide = true → i = 0) := by
    cases k.partWide <;> simp [mem_lineNos]
  simp only [State.noticeList, List.mem_flatMap, List.mem_map, List.mem_filter, Prod.mk.injEq]
  constructor
  · rintro ⟨k', -, i', ⟨hi, helig⟩, rfl, rfl⟩
    exact ⟨helig, hlines.1 hi⟩
  · rintro ⟨helig, hi⟩
    exact ⟨k, mem_noticeKinds k, i, ⟨hlines.2 hi, helig⟩, rfl, rfl⟩

/-- The eligible flags stand in the order of the table, those of a kind in that of the lines. -/
theorem State.noticeList_pairwise (s : State) :
    s.noticeList.Pairwise fun x y => x.1.idx < y.1.idx ∨ (x.1 = y.1 ∧ x.2 < y.2) := by
  refine List.pairwise_flatMap.2 ⟨fun k _ => ?_, ?_⟩
  · have hlines : (if k.partWide then [0] else lineNos).Pairwise (· < ·) := by
      cases k.partWide <;> decide
    exact List.pairwise_map.2 ((hlines.filter _).imp fun hlt => .inr ⟨rfl, hlt⟩)
  · have hkinds : noticeKinds.Pairwise fun a b => a.idx < b.idx := by decide
    refine hkinds.imp fun {a b} hlt x hx y hy => .inl ?_
    obtain ⟨_, -, rfl⟩ := List.mem_map.1 hx
    obtain ⟨_, -, rfl⟩ := List.mem_map.1 hy
    exact hlt

theorem State.chooseNotice_eq_foldl (s : State) :
    s.chooseNotice = s.noticeList.foldl (lowest fun x => s.level x.1) none := by
  unfold State.chooseNotice
  congr
  funext best x
  cases best <;> rfl

/-- The flag chosen is the eligible one of the lowest level, among those the first by the table and by line (R169). -/
theorem State.chooseNotice_eq {s : State} {k : Notice} {i : LineNo} (helig : s.eligibleNotice k i = true)
    (hpart : k.partWide = true → i = 0)
    (hfirst : ∀ k' i', s.eligibleNotice k' i' = true → (k'.partWide = true → i' = 0) →
      s.level k < s.level k' ∨ (s.level k = s.level k' ∧ (k.idx < k'.idx ∨ (k = k' ∧ i ≤ i')))) :
    s.chooseNotice = some (k, i) := by
  obtain ⟨a, b, hlist⟩ := List.append_of_mem (State.mem_noticeList.2 ⟨helig, hpart⟩)
  have hbound : ∀ y ∈ s.noticeList, s.level k < s.level y.1 ∨
      (s.level k = s.level y.1 ∧ (k.idx < y.1.idx ∨ (k = y.1 ∧ i ≤ y.2))) := fun y hy => by
    obtain ⟨hy, hyPart⟩ := State.mem_noticeList.1 hy
    exact hfirst y.1 y.2 hy hyPart
  have hsorted := s.noticeList_pairwise
  rw [hlist] at hbound hsorted
  rw [State.chooseNotice_eq_foldl, hlist]
  refine foldl_lowest_eq (fun y hy => ?_) fun y hy => ?_
  · have hbefore := (List.pairwise_append.1 hsorted).2.2 y hy (k, i) (List.mem_cons_self ..)
    rcases hbound y (List.mem_append_left _ hy) with hlt | ⟨-, hlt | ⟨rfl, hle⟩⟩
    · exact hlt
    · rcases hbefore with hidx | ⟨hkind, -⟩
      · exact absurd hidx (Nat.lt_asymm hlt)
      · exact absurd (hkind ▸ hlt) (Nat.lt_irrefl _)
    · rcases hbefore with hidx | ⟨-, hline⟩
      · exact absurd hidx (Nat.lt_irrefl _)
      · exact absurd hline (Fin.not_lt.2 hle)
  · rcases hbound y (List.mem_append_right _ (List.mem_cons_of_mem _ hy)) with hlt | ⟨heq, -⟩
    · exact hlt.le
    · exact heq.le

theorem State.chooseNotice_none {s : State} (h : ∀ k i, (k.partWide = true → i = 0) → s.eligibleNotice k i = false) :
    s.chooseNotice = none := by
  have hempty : s.noticeList = [] := List.eq_nil_iff_forall_not_mem.2 fun ⟨k, i⟩ hki => by
    obtain ⟨helig, hpart⟩ := State.mem_noticeList.1 hki
    exact absurd (helig.symm.trans (h k i hpart)) nofun
  rw [State.chooseNotice, hempty]
  rfl

/-! ## The arbiter's choice (R168) -/

/-- The non-data run behind a reply or a notice. -/
def State.nextRun (s : State) : Nat := if s.nextData.isSome then min 8 (s.lp.nonDataRun + 1) else 0

theorem State.chooseRecord_of_due {s : State} {i : LineNo} (h : s.nextData = some i) (hrun : s.lp.nonDataRun = 8)
    (hpending : s.lp.hardPending = false) : s.chooseRecord = s.sendData i := by
  unfold State.chooseRecord
  rw [h]
  exact if_pos ⟨hrun, hpending⟩

theorem State.chooseRecord_of_notDue {s : State}
    (h : s.nextData = none ∨ s.lp.nonDataRun ≠ 8 ∨ s.lp.hardPending = true) : s.chooseRecord = s.chooseOther := by
  unfold State.chooseRecord
  split
  · next i hdata =>
    refine if_neg fun ⟨hrun, hpending⟩ => ?_
    rcases h with hnone | hother | hhard
    · exact absurd (hdata.symm.trans hnone) nofun
    · exact hother hrun
    · exact absurd (hhard.symm.trans hpending) nofun
  · rfl

theorem State.chooseOther_of_reply {s : State} {q : Reply} {rest : List Reply} (h : s.lp.replies = q :: rest) :
    s.chooseOther =
      { s with lp := { s.lp with replies := rest, sending := some (.reply q), nonDataRun := s.nextRun } } := by
  unfold State.chooseOther
  simp only [h]
  rfl

theorem State.chooseOther_of_hardPending {s : State} (h : s.lp.replies = []) (hpending : s.lp.hardPending = true) :
    s.chooseOther = s := by
  unfold State.chooseOther
  simp only [h]
  exact if_pos hpending

section
variable {s : State} (h : s.lp.replies = []) (hpending : s.lp.hardPending = false)
include h hpending

theorem State.chooseOther_of_notice {k : Notice} {i : LineNo} (hnotice : s.chooseNotice = some (k, i)) :
    s.chooseOther = (s.formNotice k i).1.sendOther (s.formNotice k i).2 s.nextData.isSome := by
  unfold State.chooseOther
  simp only [h, hpending, hnotice]
  rfl

theorem State.chooseOther_of_data {i : LineNo} (hnotice : s.chooseNotice = none) (hdata : s.nextData = some i) :
    s.chooseOther = s.sendData i := by
  unfold State.chooseOther
  simp only [h, hpending, hnotice, hdata]
  rfl

theorem State.chooseOther_of_nothing (hnotice : s.chooseNotice = none) (hdata : s.nextData = none) :
    s.chooseOther = s := by
  unfold State.chooseOther
  simp only [h, hpending, hnotice, hdata]
  rfl

end

/-- A notice is sent: its flag is cleared, and CQUE empties the queue-event list (R47, R169). -/
theorem State.formNotice_sendOther (s : State) (k : Notice) (i : LineNo) :
    (s.formNotice k i).1.sendOther (s.formNotice k i).2 s.nextData.isSome =
      { s.setFlag k i false with
        lp := { s.lp with
          sending := some (.notice k (if k.partWide then 15 else i.val) (s.notice k i)), nonDataRun := s.nextRun }
        nu := { (s.setFlag k i false).nu with queueEvents := if k = .cque then [] else s.nu.queueEvents } } := by
  unfold State.formNotice
  by_cases hk : k = .cque
  · simp only [if_pos hk]
    rfl
  · simp only [if_neg hk]
    rfl

theorem State.sendData_eq (s : State) (i : LineNo) :
    s.sendData i =
      { (s.updBlc i fun b => { b with rx := b.rx.drop 256 }).notReadyTest i with
        lp := { s.lp with
          sending := some (.dataOut i ((s.line i).blc.rx.take 256)), nonDataRun := 0, dataPointer := i } } := by
  have hlp : ((s.updBlc i fun b => { b with rx := b.rx.drop 256 }).notReadyTest i).lp = s.lp := by
    obtain ⟨-, -, hlp, -⟩ := State.outer_eq ((State.notReadyTest_outer ..).trans (State.updBlc_outer ..))
    exact hlp
  unfold State.sendData State.formDataOut
  dsimp only
  rw [hlp]

/-! ## Notices and frames (R162, R169) -/

theorem State.eligibleNotice_iff {s : State} {k : Notice} {i : LineNo} {c : NoticeCfg}
    (h : s.sl.live.notices[k.idx]? = some c) :
    s.eligibleNotice k i = true ↔ s.flag k i = true ∧ c.masked.get i = false := by
  simp [State.eligibleNotice, h]

theorem State.level_eq {s : State} {k : Notice} {c : NoticeCfg} (h : s.sl.live.notices[k.idx]? = some c) :
    s.level k = c.level := by
  simp only [State.level, h]

/-- The bytes of a record as it goes out: a lead, and a frame whose sum is 0. -/
theorem recordBytes_framed (kind line tag : Nat) (payload : List Byte) : ∃ c : Byte,
    165 :: recordBytes kind line tag payload
      = 165 :: (be1 kind ++ be1 line ++ be1 tag ++ be2 payload.length ++ payload ++ [c])
    ∧ byteSum (165 :: recordBytes kind line tag payload).tail % 256 = 0 :=
  ⟨_, rfl, byteSum_checkByte _⟩

/-- Settles O55: the end of a record, the taking, the choice by its order, and the bytes. -/
theorem recordSentLetsTheNextBegin : Obligations.RecordSentLetsTheNextBegin := by
  unfold Obligations.RecordSentLetsTheNextBegin
  refine ⟨fun s hrun => ?ends, fun s h => State.drain_of_empty h, fun s r rest h => ?takes, fun s => ?choice,
    fun i line tag name fields bytes st k => ?wire⟩
  case ends =>
    have hsent : exec .recordSent s = .next s.recordSent.settle := react_running hrun State.recordSent
    refine ⟨fun h => ?_, fun r h hends => ?_, fun q h hpending hlast => ?_⟩
    · rw [hsent, State.recordSent_of_idle hrun h]
    · rw [hsent, State.recordSent_of_noReset hrun h hends]
      rfl
    · rw [hsent, State.recordSent_of_reset h hpending hlast, State.settle_eq (State.hardReset_handedOut s _)]
  case takes => exact ⟨State.drain_of_taken h, State.drain_of_untaken h, Lp.canTake_iff⟩
  case choice =>
    refine ⟨rfl, fun i => State.chooseRecord_of_due, fun hnotDue => ?_,
      fun k i c h => ⟨State.eligibleNotice_iff h, State.level_eq h⟩, s.sendData_eq, fun i => ?contents⟩
    case contents =>
      refine ⟨rfl, rfl, ?_, rfl, fun j h => ?_, rfl, rfl, fun c h => ?_, rfl, fun v e h he => ?_, fun f h => ?_,
        fun m h => ?_, rfl, rfl, rfl, rfl, rfl, rfl, rfl⟩
      · simp only [State.notice, Line.notice, Cc.shownKind, apply_ite (Option.map CallKind.code), Option.map_none]
      · simp only [State.notice, Line.notice, h, Option.bind_some]
      · simp only [State.notice, Line.notice, Line.shownClass, h, Option.bind_some]
      · simp only [State.notice, Line.notice, h, he, Option.bind_some]
        rfl
      · simp only [State.notice, Line.notice, h]
        rfl
      · simp only [State.notice, Line.notice, h]
        rfl
    rw [State.chooseRecord_of_notDue hnotDue]
    refine ⟨fun q rest h => State.chooseOther_of_reply h, State.chooseOther_of_hardPending, fun h hpending => ⟨?_, ?_⟩⟩
    · intro k i helig hpart hfirst
      rw [State.chooseOther_of_notice h hpending (State.chooseNotice_eq helig hpart hfirst), State.formNotice_sendOther]
      rfl
    · intro hnone
      exact ⟨fun i => State.chooseOther_of_data h hpending (State.chooseNotice_none hnone),
        State.chooseOther_of_nothing h hpending (State.chooseNotice_none hnone)⟩
  case wire =>
    refine ⟨?_, recordBytes_framed 3 line 0 (k.name ++ bytes), recordBytes_framed 5 i.val 0 bytes⟩
    exact recordBytes_framed 2 line tag (name ++ be1 st.code ++ fields)

end Sys2Proof.Machine
end

section
/-! PROOFS. Notice settings, sections and counters (R170, R175, R179): O56. What NMSK, GETP, SETP and CNTR are answered. -/

namespace Sys2Proof.Machine

open Sys2Proof

/-! ## NMSK (R170) -/

/-- A setting whose name, mask or selector is not defined is not read. -/
theorem maskSetting_eq_none {x : List Byte × Nat × Nat × Nat}
    (h : Notice.ofName x.1 = none ∨ 2 ≤ x.2.2.1
      ∨ (x.2.1 ≠ 15 ∧ (4 ≤ x.2.1 ∨ ∃ k, Notice.ofName x.1 = some k ∧ k.partWide = true))) :
    maskSetting x = none := by
  unfold maskSetting
  split
  · next k unmasked hname hmask =>
    rcases h with hnone | hhigh | ⟨hsel, hrefused⟩
    · exact absurd (hname.symm.trans hnone) nofun
    · exact absurd (hmask.symm.trans (flagOf_eq_none hhigh)) nofun
    · rw [if_neg hsel]
      rcases hrefused with hline | ⟨k', hk', hpart⟩
      · split
        · rfl
        · rw [lineOf_eq_none hline]
          rfl
      · obtain rfl : k = k' := Option.some.inj (hname.symm.trans hk')
        exact if_pos hpart
  · rfl

theorem maskSettings_eq_none {l : List (List Byte × Nat × Nat × Nat)} (h : ∃ x ∈ l, maskSetting x = none) :
    maskSettings l = none := by
  obtain ⟨x, hx, hnone⟩ := h
  induction l with
  | nil => cases hx
  | cons y l ih =>
    unfold maskSettings
    rcases List.mem_cons.1 hx with rfl | hx
    · rw [hnone]
    · rw [ih hx]
      cases maskSetting y <;> rfl

section
variable (s : State)

theorem takeNmsk_of_read {settings : List (List Byte × Nat × Nat × Nat)} {l : List MaskSetting}
    (h : maskSettings settings = some l) (hlow : 1 ≤ settings.length) (hhigh : settings.length ≤ 19) :
    takeNmsk s 15 settings =
      okWith (s.withLive { s.sl.live with notices := l.foldl (fun n m => m.apply n) s.sl.live.notices })
        (be1 l.length ++ l.flatMap fun m => be1 m.level) := by
  have hsize : ¬ (settings.isEmpty = true ∨ 19 < settings.length) := by
    rw [List.isEmpty_iff_length_eq_zero]
    omega
  unfold takeNmsk onPart
  rw [if_pos rfl, if_neg hsize, h]

theorem takeNmsk_of_unread {settings : List (List Byte × Nat × Nat × Nat)}
    (h : settings = [] ∨ 19 < settings.length ∨ maskSettings settings = none) :
    takeNmsk s 15 settings = refuse s .badArgument := by
  unfold takeNmsk onPart
  rw [if_pos rfl]
  split
  · rfl
  · next hsize =>
    rcases h with rfl | hlong | hnone
    · exact absurd (.inl rfl) hsize
    · exact absurd (.inr hlong) hsize
    · rw [hnone]

/-! ## GETP and SETP (R175) -/

theorem takeGetp_line (i : LineNo) : takeGetp s 15 2 i.val = okWith s ((s.sl.live.lines.get i).bytes i) := by
  unfold takeGetp onPart
  rw [if_pos rfl]
  simp only [lineOf_val]
  rfl

theorem takeGetp_of_bad {code n : Nat} (h : code = 0 ∨ 7 ≤ code ∨ (code = 2 ∧ 4 ≤ n)) :
    takeGetp s 15 code n = refuse s .badArgument := by
  rcases h with rfl | hhigh | ⟨rfl, hline⟩
  · rfl
  · match code, hhigh with
    | code + 7, _ => rfl
  · unfold takeGetp onPart
    rw [if_pos rfl]
    simp only [lineOf_eq_none hline]

theorem takeSetp_of_good {code : Nat} {contents : List Byte} (hfits : sectionFits code contents = true)
    (htaken : sectionTaken code contents = true) :
    takeSetp s 15 code contents =
      okWith ((s.withLive (s.sl.live.apply code contents)).settingTakes code s.sl.live)
        ((s.sl.live.apply code contents).contents code ((lineOf (at1 contents 0)).getD 0)) := by
  have hplace : ¬ (1 ≤ code ∧ code ≤ 5 ∧ sectionFits code contents = false) := fun ⟨_, _, hunfit⟩ =>
    absurd (hunfit.symm.trans hfits) nofun
  unfold takeSetp onPart
  rw [if_neg hplace, if_pos rfl, if_pos htaken]
  rfl

theorem takeSetp_of_bad {code : Nat} {contents : List Byte}
    (hplace : ¬ (1 ≤ code ∧ code ≤ 5 ∧ sectionFits code contents = false)) (htaken : sectionTaken code contents = false) :
    takeSetp s 15 code contents = refuse s .badArgument := by
  unfold takeSetp onPart
  rw [if_neg hplace, if_pos rfl, if_neg (Bool.not_eq_true _ ▸ htaken)]

theorem sectionTaken_of_unknown {code : Nat} (h : code = 0 ∨ 6 ≤ code) (contents : List Byte) :
    sectionTaken code contents = false := by
  rcases h with rfl | hhigh
  · rfl
  · match code, hhigh with
    | code + 6, _ => rfl

/-! ## CNTR (R179) -/

theorem takeCntr_line (i : LineNo) {clear : Nat} {b : Bool} (hclear : flagOf clear = some b) :
    takeCntr s 15 i.val clear =
      okWith (if b then s.updCnt i fun _ => {} else s) ((s.line i).cnt.list.flatMap be4) := by
  have hsel : i.val ≠ 15 := by omega
  unfold takeCntr onPart
  rw [if_pos rfl, hclear]
  simp only [if_neg hsel, lineOf_val]

theorem takeCntr_of_bad {selector clear : Nat} (h : 2 ≤ clear ∨ (selector ≠ 15 ∧ 4 ≤ selector)) :
    takeCntr s 15 selector clear = refuse s .badArgument := by
  unfold takeCntr onPart
  rw [if_pos rfl]
  split
  · rfl
  · next hclear =>
    rcases h with hhigh | ⟨hsel, hline⟩
    · exact absurd (hclear.symm.trans (flagOf_eq_none hhigh)) nofun
    · simp only [if_neg hsel, lineOf_eq_none hline]

end

/-- Settles O56, request by request: carried out, then refused. -/
theorem settingsRequestsAreTaken : Obligations.SettingsRequestsAreTaken := by
  unfold Obligations.SettingsRequestsAreTaken
  intro s tag hs
  refine ⟨fun settings l h hlow hhigh => hostRecord_answers hs (takeNmsk_of_read s h hlow hhigh),
    fun n => hostRecord_answers hs rfl, fun i => hostRecord_answers hs (takeGetp_line s i),
    fun n => hostRecord_answers hs rfl, fun n => hostRecord_answers hs rfl, fun n => hostRecord_answers hs rfl,
    fun n => hostRecord_answers hs rfl, fun code contents _ _ hfits htaken => ?setp, hostRecord_answers hs rfl,
    hostRecord_answers hs rfl, fun i => ⟨hostRecord_answers hs (takeCntr_line s i (clear := 0) (b := false) rfl),
      hostRecord_answers hs (takeCntr_line s i (clear := 1) (b := true) rfl)⟩, fun settings hbad => ?nmskRefused,
    fun code n hbad => hostRecord_refuses hs (takeGetp_of_bad s hbad), fun code contents => ⟨fun hbad => ?setpRefused,
      fun hlow hhigh hunfit => ?setpMalformed⟩,
    fun selector clear hbad => hostRecord_refuses hs (takeCntr_of_bad s hbad)⟩
  case setp => exact hostRecord_answers hs (takeSetp_of_good s hfits htaken)
  case nmskRefused =>
    refine hostRecord_refuses hs (takeNmsk_of_unread s ?_)
    rcases hbad with hempty | hlong | ⟨x, hx, hundefined⟩
    · exact .inl hempty
    · exact .inr (.inl hlong)
    · exact .inr (.inr (maskSettings_eq_none ⟨x, hx, maskSetting_eq_none hundefined⟩))
  case setpRefused =>
    refine hostRecord_refuses hs ?_
    rcases hbad with hzero | hhigh | ⟨hfits, htaken⟩
    · exact takeSetp_of_bad s (by omega) (sectionTaken_of_unknown (.inl hzero) contents)
    · exact takeSetp_of_bad s (by omega) (sectionTaken_of_unknown (.inr hhigh) contents)
    · exact takeSetp_of_bad s (fun ⟨_, _, hunfit⟩ => absurd (hunfit.symm.trans hfits) nofun) htaken
  case setpMalformed => exact hostRecord_refuses hs (if_pos ⟨hlow, hhigh, hunfit⟩)

end Sys2Proof.Machine
end

section
/-! PROOFS. One step, a part that does not run, a timer that does not run (logs 1 to 3): O1, O2, O3. -/

namespace Sys2Proof.Machine

open Sys2Proof

/-! ## One step (log 1) -/

theorem step_of_empty {s : State} (h : s.pending = []) : step s = .next s.tick := by
  rw [step, h]

theorem step_of_cons {c : Instr} {rest : List Instr} {s : State} (h : s.pending = c :: rest) :
    step s = exec c { s with pending := rest } := by
  rw [step, h]

/-- Settles O1: both clauses are the two branches of `step`. -/
theorem stepRunsFrontCommand : Obligations.StepRunsFrontCommand :=
  ⟨fun _ _ _ => step_of_cons, fun _ => step_of_empty⟩

/-! ## A part that does not run (log 3) -/

/-- Settles O2: every other command is an event, and an event finds no running part. -/
theorem heldPartIgnoresCommands : Obligations.HeldPartIgnoresCommands := by
  intro c s hphase hc
  obtain ⟨f, hf⟩ := exec_eq_react hc
  rw [hf, react_held hphase]

/-! ## A stopped timer (log 2) -/

/-- The expiry of a timer that does not run leaves only the hand-out of a step (log 2, log 16). -/
theorem exec_of_stopped {c : Instr} {s : State} {due : State → Option Nat} {f : State → State}
    (hevent : ∀ u, exec c u = react u fun x => onExpiry (due x) x f) (htimer : ∀ u : State, u.timer c = some (due u))
    (hp : s.phase = .running) (h : s.timer c = some none) : exec c s = .next s.settle := by
  have hdue : due s = none := Option.some.inj ((htimer s).symm.trans h)
  rw [hevent, react_running hp, hdue, onExpiry]

/-- The abandonment timer does not run while it is stopped, nor while it is held (R7). -/
theorem exec_ringAbandoned_of_stopped {s : State} {i : LineNo} (hp : s.phase = .running)
    (h : (s.line i).lif.abandon.due = none) : exec (.ringAbandoned i) s = .next s.settle := by
  rw [exec_ringAbandoned, execRingAbandoned, react_running hp]
  split
  · next d hrun =>
    rw [hrun] at h
    cases h
  · rfl
  · rfl

/-- Settles O3: the abandonment timer, which may also be held, by its state; every other timer as `exec_of_stopped`. -/
theorem stoppedTimerExpiresToNothing : Obligations.StoppedTimerExpiresToNothing := by
  intro c s hp h
  cases c
  case ringAbandoned => exact exec_ringAbandoned_of_stopped hp (Option.some.inj h)
  case flashComplete | breakEnd | makeEnd | burstQualified | blankingEnd | loopLost | supervisionCheck
      | dialToneWaitExpiry | awaitToneExpiry | dtmfDigitSent | interDigitPauseEnd | pauseEnd | answerWaitExpiry
      | ringbackAbsenceExpiry | settleEnd | clidWindowTimeout | toneDigitEnd | drainWaitExpiry | guardExpiry
      | offerWaitExpiry | setupTryExpiry | retryTimerExpiry | faxJobWaitExpiry | gapEnd | recordToneEnd
      | mailboxWaitExpiry | callingToneReset | inboundGapExpiry =>
    exact exec_of_stopped (fun _ => rfl) (fun _ => rfl) hp h
  all_goals cases h

end Sys2Proof.Machine
end

section
/-! PROOFS. The soft reset (R177, with R15, R18, R48, R66, R132, R172): O58. What it leaves of the queue of commands, the
phase, the Link Port and the settings, what it does on one line and leaves of the others, then the obligation. -/

namespace Sys2Proof.Machine

open Sys2Proof

/-! ## What it does to the whole part -/

/-- What a soft reset does to the part once every line has had its own (R177). -/
def State.softPart (s : State) : State :=
  ({ s with
    cause := .hostSoft, gd := s.gd.soft, bm := {}, stc := s.stc.soft, lp := s.lp.soft, nu := {} }).raisePart .strt

theorem State.softReset_eq (s : State) : s.softReset = s.softLines.softPart := rfl

@[simp] theorem State.softPart_pending (s : State) : s.softPart.pending = s.pending := rfl
@[simp] theorem State.softPart_line (s : State) (i : LineNo) : s.softPart.line i = s.line i := rfl

theorem State.flag_of_clear {s : State} (h : s.nu = {}) (k : Notice) (i : LineNo) : s.flag k i = false := by
  have hkind : ({} : Nu).flags[k.idx]? = some (Four.all false) := List.getElem?_replicate_of_lt k.idx_lt
  rw [State.flag, h, hkind]
  exact Four.get_all false i

/-- Of all flags STRT alone is set (R169, R177). -/
theorem State.softPart_flag (s : State) (k : Notice) (i : LineNo) : s.softPart.flag k i = true ↔ k = .strt ∧ i = 0 := by
  by_cases h : (k, i) = (.strt, 0)
  · obtain ⟨rfl, rfl⟩ := Prod.mk.inj h
    exact iff_of_true (State.flag_setFlag_self _ _ _ _ (Notice.idx_lt .strt)) ⟨rfl, rfl⟩
  · have hclear : s.softPart.flag k i = false :=
      (State.flag_setFlag_of_pair_ne _ true h).trans (State.flag_of_clear rfl k i)
    rw [hclear]
    exact iff_of_false nofun fun ⟨hk, hi⟩ => h (by rw [hk, hi])

/-- No entry stays OPEN or is moved (R132). -/
theorem Stc.soft_used {t : Stc} {e : Entry} (h : e ∈ t.soft.used) : e.open_ = false ∧ e.moving = false := by
  obtain ⟨x, hx, rfl⟩ := List.mem_filterMap.1 h
  obtain ⟨_ | e', -, hclosed⟩ := List.mem_map.1 hx
  · cases hclosed
  · cases hclosed
    exact ⟨rfl, rfl⟩

@[simp] theorem State.softCheck_outer (s : State) (i : LineNo) : (s.softCheck i).outer = s.outer := by
  unfold State.softCheck
  split
  · exact State.applyResult_outer s i _
  · rfl

@[simp] theorem State.softLif_outer (s : State) (i : LineNo) : (s.softLif i).outer = s.outer := by simp [State.softLif]

@[simp] theorem State.softCc_outer (s : State) (i : LineNo) : (s.softCc i).outer = s.outer := by
  unfold State.softCc
  (repeat' split) <;> simp

@[simp] theorem State.softLine_outer (s : State) (i : LineNo) : (s.softLine i).outer = s.outer := by
  rw [State.softLine, State.softBlocks, State.upd_outer, State.softCc_outer, State.softLif_outer,
    State.softCheck_outer]

@[simp] theorem State.softLines_outer (s : State) : s.softLines.outer = s.outer :=
  State.outer_foldl _ (fun t i => State.softLine_outer t i) _ _

/-! ## What happens on one line alone -/

/-- From `s` to `t` the clock and every line but `i` stay. -/
structure State.OnlyLine (i : LineNo) (s t : State) : Prop where
  now : t.now = s.now
  others : ∀ j, j ≠ i → t.line j = s.line j

namespace State.OnlyLine

variable {s₀ s : State} {i : LineNo}

theorem refl (i : LineNo) (s : State) : s.OnlyLine i s := ⟨rfl, fun _ _ => rfl⟩

section
variable (h : s₀.OnlyLine i s)
include h

theorem trans {t : State} (ht : s.OnlyLine i t) : s₀.OnlyLine i t :=
  ⟨ht.now.trans h.now, fun j hj => (ht.others j hj).trans (h.others j hj)⟩

theorem upd {f : Line → Line} : s₀.OnlyLine i (s.upd i f) :=
  h.trans ⟨rfl, fun _ hj => State.line_upd_ne s f hj⟩

theorem updLif {f : Lif → Lif} : s₀.OnlyLine i (s.updLif i f) := h.upd
theorem updCc {f : Cc → Cc} : s₀.OnlyLine i (s.updCc i f) := h.upd
theorem updTu {f : Tu → Tu} : s₀.OnlyLine i (s.updTu i f) := h.upd
theorem ccClears {r : EndReason} : s₀.OnlyLine i (s.ccClears i r) := by
  unfold State.ccClears
  exact h.updCc
theorem toIdle : s₀.OnlyLine i (s.toIdle i) := h.trans ((refl i s).updCc.upd)

theorem release : s₀.OnlyLine i (s.release i) := by
  unfold State.release
  split
  · exact h
  · exact h.updLif

theorem endActs {a : List Activity} : s₀.OnlyLine i (s.endActs i a) :=
  h.trans ⟨State.endActs_now .., fun _ hj => State.endActs_line_ne _ _ _ hj⟩

theorem closeClid : s₀.OnlyLine i (s.closeClid i) := by
  unfold State.closeClid
  split
  · exact h
  · have hended := h.updTu (f := fun t => { t with clid := none }) |>.endActs (a := [.clid])
    split
    · exact hended.trans ⟨rfl, fun _ _ => rfl⟩
    · exact hended

theorem applyResult {good : Bool} : s₀.OnlyLine i (s.applyResult i good) :=
  h.trans ⟨by
    rw [State.applyResult_eq]
    split
    · rfl
    · unfold State.recomputeGroups
      dsimp only
      split <;> rfl, fun _ hj => State.applyResult_line_ne s good hj⟩

theorem softCheck : s₀.OnlyLine i (s.softCheck i) := by
  unfold State.softCheck
  split
  · exact h.applyResult.trans ⟨rfl, fun _ _ => rfl⟩
  · exact h

theorem softLif : s₀.OnlyLine i (s.softLif i) := by
  unfold State.softLif
  exact h.release.updLif

theorem softCc : s₀.OnlyLine i (s.softCc i) := by
  unfold State.softCc
  dsimp only
  split
  · exact h.closeClid.ccClears.updCc.updTu
  · split
    · exact h.closeClid.updCc.toIdle.updCc.updTu
    · exact h.closeClid.updCc.updTu

theorem softLine : s₀.OnlyLine i (s.softLine i) := by
  unfold State.softLine State.softBlocks
  exact h.softCheck.softLif.softCc.upd

end

end State.OnlyLine

/-! ## One line at a soft reset -/

section
variable (s : State) (i j : LineNo)

@[simp] theorem State.closeClid_line_lif : ((s.closeClid j).line i).lif = (s.line i).lif := by
  unfold State.closeClid
  split
  · rfl
  · split <;> exact (State.endActs_line_part _ j i _ _ fun _ _ => rfl).trans (State.updTu_line_lif ..)

@[simp] theorem State.softCheck_line_cc : ((s.softCheck j).line i).cc = (s.line i).cc := by
  unfold State.softCheck
  split
  · show ((s.applyResult j _).line i).cc = _
    rw [State.applyResult_eq]
    split <;> simp [State.raise]
  · rfl

@[simp] theorem State.softLif_line_cc : ((s.softLif j).line i).cc = (s.line i).cc := by simp [State.softLif]

theorem State.softLif_hook : ((s.softLif i).line i).lif.hook = .onHook := by simp [State.softLif]

@[simp] theorem State.toIdle_line_lif : ((s.toIdle j).line i).lif = (s.line i).lif := by
  unfold State.toIdle
  exact (State.line_upd_part _ j i _ Line.lif (by exact fun _ => rfl)).trans (State.updCc_line_lif ..)

@[simp] theorem State.ccClears_line_lif (r : EndReason) : ((s.ccClears j r).line i).lif = (s.line i).lif :=
  State.updCc_line_lif ..

@[simp] theorem State.softCc_line_lif : ((s.softCc j).line i).lif = (s.line i).lif := by
  unfold State.softCc
  (repeat' split) <;> simp

theorem State.softCc_tu : ((s.softCc i).line i).tu = {} := by simp [State.softCc]

theorem State.softCc_causes : ((s.softCc i).line i).cc.causes = [] := by simp [State.softCc]

end

section
variable {s : State} {i : LineNo}

/-- A call ends with reason RESET, its guard running (R18). -/
theorem State.softCc_of_inCall (h : (s.line i).cc.state.inCall = true) :
    ((s.softCc i).line i).cc.state = .clearing ∧ ((s.softCc i).line i).cc.endReason = some .reset
      ∧ ((s.softCc i).line i).cc.guardDue = some (s.now + 1000) := by
  have hnow : (s.closeClid i).now = s.now := (State.OnlyLine.refl i s).closeClid.now
  unfold State.softCc
  simp [h, State.ccClears_cc, hnow]

/-- A ringing line goes back to IDLE (R18). -/
theorem State.softCc_of_ringing (h : (s.line i).cc.state = .ringing) : ((s.softCc i).line i).cc.state = .idle := by
  unfold State.softCc
  simp [h, CallState.inCall, State.toIdle]

/-- An idle line, and one that is clearing, stays as it is (R18). -/
theorem State.softCc_of_noCall (hcall : (s.line i).cc.state.inCall = false) (hring : (s.line i).cc.state ≠ .ringing) :
    ((s.softCc i).line i).cc.state = (s.line i).cc.state
      ∧ ((s.softCc i).line i).cc.endReason = (s.line i).cc.endReason
      ∧ ((s.softCc i).line i).cc.guardDue = (s.line i).cc.guardDue := by
  unfold State.softCc
  simp [hcall, hring]

end

/-- What a line holds after its soft reset, but for its interface, its Call Controller and its counters. -/
theorem State.softLine_line (s : State) (i : LineNo) :
    ∃ n : LineCounters, (s.softLine i).line i = { (((s.softCheck i).softLif i).softCc i).line i with
      acts := [], dp := {}, blc := {}, fxc := {}, window := Four.all none, vc := {}, apc := {}, cnt := n } :=
  ⟨_, State.line_upd_self _ i _⟩

/-! ## Line after line (R177) -/

theorem State.softFold_line_of_notMem {i : LineNo} : ∀ {l : List LineNo}, i ∉ l → ∀ s : State,
    (l.foldl (fun t i => t.softLine i) s).line i = s.line i
  | [], _, _ => rfl
  | j :: l, hi, s => by
    obtain ⟨hne, hi⟩ := List.ne_and_not_mem_of_not_mem_cons hi
    exact (State.softFold_line_of_notMem hi (s.softLine j)).trans ((State.OnlyLine.refl j s).softLine.others i hne)

/-- A line's own soft reset finds it as it was, and the others' leave what it makes of it. -/
theorem State.softFold_line {i : LineNo} : ∀ {l : List LineNo}, l.Nodup → i ∈ l → ∀ s : State,
    ∃ u : State, u.line i = s.line i ∧ u.now = s.now
      ∧ (l.foldl (fun t i => t.softLine i) s).line i = (u.softLine i).line i
  | j :: l, hl, hi, s => by
    obtain ⟨hj, hl⟩ := List.nodup_cons.1 hl
    by_cases hij : i = j
    · subst hij
      exact ⟨s, rfl, rfl, State.softFold_line_of_notMem hj (s.softLine i)⟩
    · have hone := (State.OnlyLine.refl j s).softLine
      obtain ⟨u, hline, hnow, hlast⟩ := State.softFold_line hl (List.mem_of_ne_of_mem hij hi) (s.softLine j)
      exact ⟨u, hline.trans (hone.others i hij), hnow.trans hone.now, hlast⟩

theorem State.softLines_line (s : State) (i : LineNo) :
    ∃ u : State, u.line i = s.line i ∧ u.now = s.now ∧ s.softLines.line i = (u.softLine i).line i :=
  State.softFold_line (by decide) (by fin_cases i <;> decide) s

/-- Settles O58: the part by `State.softPart`, each line by its own soft reset, which the others' leave (`softLines_line`),
its call by the state it was in. -/
theorem softResetClearsTheLines : Obligations.SoftResetClearsTheLines := by
  intro s
  rw [State.softReset_eq]
  obtain ⟨-, -, -, hsl⟩ := State.outer_eq s.softLines_outer
  have hlines := s.softLines_line
  generalize s.softLines = v at hsl hlines
  refine ⟨rfl, rfl, rfl, rfl, v.softPart_flag, rfl, rfl, fun r hr => List.eq_of_mem_replicate hr, rfl, rfl,
    fun e he => Stc.soft_used he, hsl, fun i => ?_⟩
  obtain ⟨u, hline, hnow, hlast⟩ := hlines i
  obtain ⟨n, hsoft⟩ := u.softLine_line i
  rw [State.softPart_line, hlast, hsoft, ← hline, ← hnow]
  dsimp only
  have hstart : (((u.softCheck i).softLif i).line i).cc = (u.line i).cc := by simp
  have hclock : ((u.softCheck i).softLif i).now = u.now := (State.OnlyLine.refl i u).softCheck.softLif.now
  have hhook : (((u.softCheck i).softLif i).line i).lif.hook = .onHook := State.softLif_hook _ i
  rw [← hstart, ← hclock]
  generalize (u.softCheck i).softLif i = w at hhook ⊢
  refine ⟨?_, rfl, rfl, rfl, rfl, rfl, rfl, rfl, State.softCc_of_inCall, ?_, ?_, w.softCc_causes i, w.softCc_tu i⟩
  · rw [State.softCc_line_lif, hhook]
  · rintro (hidle | hring)
    · obtain ⟨hstate, -⟩ := State.softCc_of_noCall (s := w) (i := i) (by rw [hidle]; rfl) (by rw [hidle]; exact nofun)
      exact hstate.trans hidle
    · exact State.softCc_of_ringing hring
  · intro hclearing
    obtain ⟨hstate, hkept⟩ :=
      State.softCc_of_noCall (s := w) (i := i) (by rw [hclearing]; rfl) (by rw [hclearing]; exact nofun)
    exact ⟨hstate.trans hclearing, hkept⟩

end Sys2Proof.Machine
end

section
/-! PROOFS. The queue of waiting commands at every command: O4. What the commands of the host link, the events and the
resets leave of it, then the obligation. -/

namespace Sys2Proof.Machine

open Sys2Proof

/-! ## Events (log 3) -/

theorem State.pending_of_outer {s t : State} (h : t.outer = s.outer) : t.pending = s.pending := (State.outer_eq h).1

@[simp] theorem State.settle_pending (s : State) : s.settle.pending = s.pending :=
  State.pending_of_outer (State.settle_outer s)

section
variable {c : Instr} {s t : State}

/-- An event whose act leaves the queue of commands leaves it, whether the part runs or not. -/
theorem event_pending {f : State → State} (hevent : ∀ u, exec c u = react u f) (hf : (f s).pending = s.pending)
    (h : exec c s = .next t) : t.pending = s.pending := by
  rw [hevent] at h
  cases h
  split
  · rw [State.settle_pending, hf]
  · rfl

/-- An event whose act touches nothing of `State.outer`. -/
theorem inner_pending {f : State → State} (hevent : ∀ u, exec c u = react u f) (hf : (f s).outer = s.outer)
    (h : exec c s = .next t) : t.pending = s.pending :=
  event_pending hevent (State.pending_of_outer hf) h

theorem innerExpiry_pending {due : State → Option Nat} {f : State → State}
    (hevent : ∀ u, exec c u = react u fun x => onExpiry (due x) x f) (hf : ∀ x, (f x).outer = x.outer)
    (h : exec c s = .next t) : t.pending = s.pending :=
  inner_pending hevent (onExpiry_outer _ _ _ hf) h

theorem innerAtJob_pending {i : LineNo} {d : FaxDir} {f : State → FaxJob → State}
    (hevent : ∀ u, exec c u = react u fun x => x.atJob i d (f x)) (hf : ∀ j, (f s j).outer = s.outer)
    (h : exec c s = .next t) : t.pending = s.pending :=
  inner_pending hevent (State.atJob_outer s i d (f s) hf) h

end

/-! ## The records of the host link (R163 to R168) -/

@[simp] theorem State.linkError_pending (s : State) (f : PartCounters → PartCounters) :
    (s.linkError f).pending = s.pending := by
  unfold State.linkError
  split <;> rfl

@[simp] theorem State.badRecord_pending (s : State) : s.badRecord.pending = s.pending := State.linkError_pending s _

@[simp] theorem State.offer_pending (s : State) (r : Inbound) : (s.offer r).pending = s.pending := by
  unfold State.offer
  split
  · rfl
  · exact State.linkError_pending s _

theorem State.takeDataIn_pending (s : State) (line : Nat) (bytes : List Byte) :
    (s.takeDataIn line bytes).pending = s.pending := by
  unfold State.takeDataIn
  split
  · split
    · exact State.pending_of_outer (State.takeData_outer ..)
    · exact State.linkError_pending s _
  · exact State.linkError_pending s _

theorem State.softReset_pending (s : State) : s.softReset.pending = s.pending := by
  rw [State.softReset_eq, State.softPart_pending, State.pending_of_outer s.softLines_outer]

theorem onPart_pending {s : State} {line : Nat} {a : Answer} (h : a.state.pending = s.pending) :
    (onPart s line a).state.pending = s.pending := by
  unfold onPart
  split
  · exact h
  · rfl

theorem answerRequest_pending (s : State) (line : Nat) (r : Request) :
    (answerRequest s line r).state.pending = s.pending := by
  unfold answerRequest
  cases r
  case malformed | unknown => rfl
  case nmsk settings =>
    refine onPart_pending ?_
    split
    · rfl
    · split <;> rfl
  case getp sec sline =>
    refine onPart_pending ?_
    split
    case h_2 => split <;> rfl
    all_goals rfl
  case setp sec contents =>
    dsimp only [takeSetp]
    split
    · rfl
    · refine onPart_pending ?_
      split
      · exact State.pending_of_outer (s := s.withLive (s.sl.live.apply sec contents)) (State.settingTakes_outer ..)
      · rfl
  case save =>
    refine onPart_pending ?_
    split
    · rfl
    · split <;> rfl
  case rset kind =>
    dsimp only [takeRset]
    split
    · exact onPart_pending rfl
    · exact onPart_pending s.softReset_pending
    · rfl
  case cntr selector clear =>
    refine onPart_pending ?_
    split
    · rfl
    · split
      · split <;> rfl
      · split
        · split <;> rfl
        · rfl
  all_goals exact State.pending_of_outer (by simp)

theorem State.takeRecord_pending (s : State) (r : Inbound) : (s.takeRecord r).pending = s.pending := by
  unfold State.takeRecord
  split
  · exact State.takeDataIn_pending ..
  · exact answerRequest_pending ..

theorem drainN_pending : ∀ (n : Nat) (s : State), (drainN n s).pending = s.pending
  | 0, _ => rfl
  | n + 1, s => by
    unfold drainN
    split
    · rfl
    · split
      · rw [drainN_pending n, State.settle_pending, State.takeRecord_pending]
      · rfl

@[simp] theorem State.drain_pending (s : State) : s.drain.pending = s.pending := drainN_pending _ s

theorem State.judgeRecord_pending (s : State) (b : List Byte) : (s.judgeRecord b).pending = s.pending := by
  unfold State.judgeRecord
  split
  · rw [State.drain_pending, State.offer_pending]
  · exact State.badRecord_pending s

theorem State.receiveByte_pending (s : State) (x : Byte) : (s.receiveByte x).pending = s.pending := by
  unfold State.receiveByte
  split
  · split <;> rfl
  · dsimp only
    split
    · exact State.badRecord_pending _
    · split
      · exact State.judgeRecord_pending _ _
      · rfl

theorem State.receiveBytes_pending (l : List Byte) (s : State) : (s.receiveBytes l).pending = s.pending := by
  unfold State.receiveBytes
  induction l generalizing s with
  | nil => rfl
  | cons x r ih => exact (ih _).trans (State.receiveByte_pending s x)

@[simp] theorem State.sendEnds_pending (s : State) (r : OutRec) : (s.sendEnds r).pending = s.pending := by
  unfold State.sendEnds
  split
  · rfl
  · split <;> rfl
  · rfl

@[simp] theorem State.sendData_pending (s : State) (i : LineNo) : (s.sendData i).pending = s.pending :=
  State.pending_of_outer (t := (s.formDataOut i).1) (State.formDataOut_outer s i)

@[simp] theorem State.formNotice_pending (s : State) (k : Notice) (i : LineNo) :
    (s.formNotice k i).1.pending = s.pending := by
  simp only [State.formNotice]
  split <;> rfl

@[simp] theorem State.sendOther_pending (s : State) (r : OutRec) (waits : Bool) :
    (s.sendOther r waits).pending = s.pending := rfl

@[simp] theorem State.chooseOther_pending (s : State) : s.chooseOther.pending = s.pending := by
  simp only [State.chooseOther]
  (repeat' split) <;> simp

@[simp] theorem State.chooseRecord_pending (s : State) : s.chooseRecord.pending = s.pending := by
  unfold State.chooseRecord
  (repeat' split) <;> simp

theorem State.recordSent_pending (s : State) : s.recordSent.pending = s.pending := by
  simp only [State.recordSent]
  cases s.lp.sending <;> dsimp only <;> split <;> simp

/-! ## Every command -/

/-- No command changes the queue: resets and start-up since they leave it, the commands of the host link by the lemmas
above, the other events since they touch nothing of `State.outer` but, at SAVE_END, the settings. -/
theorem exec_pending {c : Instr} {s t : State} (h : exec c s = .next t) : t.pending = s.pending := by
  cases c
  case powerOn | resetPin | clockLoss => cases h; rfl
  case startUp | settingsLoaded => cases h; split <;> rfl
  case call | callGroup | ansr | digr | tone | rels | cncl | ctad | ctdl | ctrd | budg | dataIn | flow | faxs | faxr
      | fxst | fxab | scrt | scls | sdel | atch | dtch | swrt | sred | slst | ssta | packStart | packStop | play | recd
      | paus | vstp | take | unknownRequest | nmsk | getp | setp | save | rsetSoft | rsetHard | cntr =>
    exact event_pending (fun _ => rfl) (by rw [State.drain_pending, State.offer_pending]) h
  case recordReceived => exact event_pending (fun _ => rfl) (State.receiveBytes_pending _ s) h
  case hostLinkByteReceived => exact event_pending (fun _ => rfl) (State.receiveByte_pending s _) h
  case recordSent => exact event_pending (fun _ => rfl) (State.recordSent_pending s) h
  case inboundGapExpiry =>
    refine event_pending (fun _ => rfl) ?_ h
    unfold onExpiry
    split
    · rfl
    · exact State.badRecord_pending _
  case saveEnd =>
    refine event_pending (fun _ => rfl) ?_ h
    split
    · split <;> rfl
    · rfl
  case flashComplete | breakEnd | makeEnd | burstQualified | blankingEnd | loopLost | supervisionCheck
      | dialToneWaitExpiry | awaitToneExpiry | dtmfDigitSent | interDigitPauseEnd | pauseEnd | answerWaitExpiry
      | ringbackAbsenceExpiry | settleEnd | clidWindowTimeout | toneDigitEnd | drainWaitExpiry | guardExpiry
      | offerWaitExpiry | retryTimerExpiry | faxJobWaitExpiry | recordToneEnd | callingToneReset =>
    exact innerExpiry_pending (fun _ => rfl) (fun x => by simp) h
  case rateChangeResyncEnd | setupTryExpiry | gapEnd | mailboxWaitExpiry =>
    exact innerExpiry_pending (fun _ => rfl) (fun x => by split <;> simp) h
  case retrainAnnouncementReceived | roundEndReceived | pageCloseReceived =>
    exact innerAtJob_pending (fun _ => rfl) (fun j => by simp) h
  case capabilityReceived | choiceReceived | confirmationReceived | trainingBurstSent | verdictReceived | roundSent
      | frameReceived | frameMapReceived | pageConfirmationReceived =>
    exact innerAtJob_pending (fun _ => rfl) (fun j => by split <;> simp) h
  case partialPageHeaderReceived =>
    exact innerAtJob_pending (fun _ => rfl) (fun j => by (repeat' split) <;> simp) h
  case cpSilenceLimit | cpToneLimit =>
    refine inner_pending (fun _ => rfl) ?_ h
    split
    · exact onExpiry_outer _ _ _ fun x => by simp
    · rfl
  case rateChangeConfirmationTimeout =>
    refine inner_pending (fun _ => rfl) ?_ h
    split
    · rfl
    · exact onExpiry_outer _ _ _ fun x => by simp
  case dialToneQualified | callerMessageReceived | callerIdByteReceived =>
    exact inner_pending (fun _ => rfl) (by simp) h
  case ringVoltageOnset | loopCurrentAbsent | loopCurrentReturn | cpToneStart | cpToneEnd | progressFrameLevel
      | answerToneDetected | dtmfDigitDeclared | drainEnd | remoteOfferReceived
      | messageTransmitted | badMessageReceived | plainByteReceived =>
    exact inner_pending (fun _ => rfl) (by split <;> simp) h
  case ringVoltageEnd | ringAbandoned | queueEntryExpiry | pendingTimerExpiry | qualityReading
      | rateChangeConfirmation | setupMessageReceived | faxAnswerWaitExpiry | faxSenderWaitExpiry
      | badFaxMessageReceived | releaseReceived | releaseWaitExpiry | moveCellCopy | voiceOperationStart
      | playCellReached | voiceFrameEnd | recordingLimitReached | callingToneBurst =>
    exact inner_pending (fun _ => rfl) (by (repeat' split) <;> simp) h
  case remoteRateRequest | remoteRetrainRequest | supervisoryMessageReceived | dataBlockReceived =>
    exact inner_pending (fun _ => rfl) (by dsimp only; (repeat' split) <;> simp) h

/-- Settles O4, by the walk over every command in `exec_pending`. -/
theorem execLeavesQueueAlone : Obligations.ExecLeavesQueueAlone := fun _ _ _ => exec_pending

end Sys2Proof.Machine
end

section
/-! PROOFS. Saving, resets and start-up (chapter 12): O57, O59. The save and its end, the judgement of an image at a load,
then the obligations. -/

namespace Sys2Proof.Machine

open Sys2Proof

/-! ## Saving (R176) -/

/-- A save under way ends, a timeout at the moment it is due (R176, log 2). -/
theorem exec_saveEnd_of_snapshot {s : State} {b : List Byte} (hp : s.phase = .running) (hb : s.sl.snapshot = some b)
    (r : SaveEnd) : exec (.saveEnd r) s = .next
      ({ (if r = SaveEnd.timeout then s.reach (s.sl.saveDue.getD s.now) else s) with
        sl := s.sl.saved b r } : State).settle := by
  show execSaveEnd r s = _
  rw [execSaveEnd, react_running hp, hb]
  cases r <;> rfl

theorem takeSave_of_idle {s : State} (hw : s.sl.saveState ≠ .writing) (hpr : s.sl.present = true) :
    takeSave s 15 = okWith { s with sl := { s.sl with
      saveState := .writing, snapshot := some s.sl.live.image, saveDue := some (s.now + 1500) } }
      (be1 s.sl.lastSave.code) := by
  unfold takeSave onPart
  rw [if_pos rfl, if_neg hw, if_neg (by rw [hpr]; exact nofun)]

theorem takeSave_of_writing {s : State} (hw : s.sl.saveState = .writing) : takeSave s 15 = refuse s .busy := by
  unfold takeSave onPart
  rw [if_pos rfl, if_pos hw]

theorem takeSave_of_absent {s : State} (hw : s.sl.saveState ≠ .writing) (hpr : s.sl.present = false) :
    takeSave s 15 = refuse s .notFound := by
  unfold takeSave onPart
  rw [if_pos rfl, if_neg hw, if_pos hpr]

/-- Settles O57: SAVE by the state of the save and the presence of an EEPROM, each end of a save by
`exec_saveEnd_of_snapshot`. -/
theorem savesAndSoftResetsAreTaken : Obligations.SavesAndSoftResetsAreTaken := by
  refine ⟨fun s tag hs => ⟨fun hw hpr => hostRecord_answers hs (takeSave_of_idle hw hpr),
    fun hw => hostRecord_refuses hs (takeSave_of_writing hw),
    fun hw hpr => hostRecord_refuses hs (takeSave_of_absent hw hpr), hostRecord_answers hs rfl,
    hostRecord_answers hs rfl⟩, fun s b hp hb => ?_⟩
  have hends := exec_saveEnd_of_snapshot hp hb
  refine ⟨hends .matched, hends .noAcknowledge, hends .mismatch, fun d hd => ?_⟩
  rw [hends .timeout, hd]
  rfl

/-! ## Start-up (R174, R178) -/

theorem judgeImage_of_good {e : Eeprom} {b x : List Byte} (hgives : e.gives b = some x) (hx : imageGood x = true) :
    judgeImage e (some b) = (imageSettings x, .loaded, true) := by
  simp only [judgeImage, hgives, if_pos hx]

/-- Defaults are taken where the EEPROM gives no image, or one that is not good (R174). -/
theorem judgeImage_of_bad {e : Eeprom} {b : List Byte} (h : ∀ x, e.gives b = some x → imageGood x = false) :
    judgeImage e (some b) = ({}, .defaultsBad, true) := by
  simp only [judgeImage]
  split
  · next x hgives => rw [if_neg (by rw [h x hgives]; exact nofun)]
  · rfl

theorem exec_settingsLoaded_of_loading {s : State} (h : s.phase = .loading) {read : Option (List Byte)}
    {r : Settings × Source × Bool} (hr : judgeImage s.sl.eeprom read = r) :
    exec (.settingsLoaded read) s =
      .next ((({ s with phase := .running, sl := s.sl.loaded r } : State).applySettings).raisePart .strt) := by
  subst hr
  exact congrArg Host.Outcome.next (if_pos h)

/-- Settles O59: the resets and START_UP as they stand, SETTINGS_LOADED by what the EEPROM gives and how it is judged. -/
theorem hardResetAndStartUp : Obligations.HardResetAndStartUp := by
  intro s held
  refine ⟨rfl, rfl, rfl, fun h => congrArg _ (if_pos h), fun h => ?loading, fun h => congrArg _ (if_neg h),
    fun h _ => congrArg _ (if_neg h)⟩
  case loading =>
    intro done
    have hdone (read : Option (List Byte)) (live : Settings) (src : Source) (present : Bool)
        (hread : judgeImage s.sl.eeprom read = (live, src, present)) :
        exec (.settingsLoaded read) s = .next (done live src present) := exec_settingsLoaded_of_loading h hread
    refine ⟨hdone _ _ _ _ rfl, fun b he hb => hdone _ _ _ _ ?untouchedGood, fun b he hb => hdone _ _ _ _ ?untouchedBad,
      fun b x he hx => hdone _ _ _ _ ?imageGood, fun b he => hdone _ _ _ _ ?torn⟩
    case untouchedGood => exact he ▸ judgeImage_of_good rfl hb
    case imageGood => exact he ▸ judgeImage_of_good rfl hx
    case untouchedBad => exact he ▸ judgeImage_of_bad fun x hx => Option.some.inj hx ▸ hb
    case torn => exact he ▸ judgeImage_of_bad nofun

end Sys2Proof.Machine
end

section
/-! PROOFS. The settings image (R173, R174, R176): O60. The bytes of each section read back, the walk over the sections,
the image and its head, then the obligation. -/

namespace Sys2Proof.Machine

open Sys2Proof

/-! ## Values in one and two bytes -/

theorem clamp_of_mem {lo hi n : Nat} (hlo : lo ≤ n) (hhi : n ≤ hi) : clamp lo hi n = n := by
  unfold clamp
  omega

theorem clamp_byte {lo hi n : Nat} (hlo : lo ≤ n) (hhi : n ≤ hi) (hbyte : n < 256) :
    clamp lo hi (BitVec.ofNat 8 n).toNat = n := by
  rw [toNat_ofNat_of_lt hbyte, clamp_of_mem hlo hhi]

theorem min_byte {hi n : Nat} (hhi : n ≤ hi) (hbyte : n < 256) : min hi (BitVec.ofNat 8 n).toNat = n := by
  rw [toNat_ofNat_of_lt hbyte, min_eq_right hhi]

theorem clamp_pair {lo hi n : Nat} (hlo : lo ≤ n) (hhi : n ≤ hi) (hpair : n < 65536) :
    clamp lo hi ((BitVec.ofNat 8 (n / 256)).toNat * 256 + (BitVec.ofNat 8 n).toNat) = n := by
  rw [toNat_ofNat_pair hpair, clamp_of_mem hlo hhi]

theorem min_pair {hi n : Nat} (hhi : n ≤ hi) (hpair : n < 65536) :
    min hi ((BitVec.ofNat 8 (n / 256)).toNat * 256 + (BitVec.ofNat 8 n).toNat) = n := by
  rw [toNat_ofNat_pair hpair, min_eq_right hhi]

theorem toNat_ofNat_quad {n : Nat} (h : n < 4294967296) :
    ((BitVec.ofNat 8 (n / 16777216)).toNat * 256 + (BitVec.ofNat 8 (n / 65536)).toNat) * 65536
      + ((BitVec.ofNat 8 (n / 256)).toNat * 256 + (BitVec.ofNat 8 n).toNat) = n := by
  simp only [BitVec.toNat_ofNat]
  omega

theorem at1_cons_zero (a : Byte) (r : List Byte) : at1 (a :: r) 0 = a.toNat := rfl

theorem at1_cons_succ (a : Byte) (r : List Byte) (k : Nat) : at1 (a :: r) (k + 1) = at1 r k := rfl

theorem flag_byte (b : Bool) : ((BitVec.ofNat 8 (if b then 1 else 0)).toNat == 1) = b := by cases b <;> rfl

theorem Mode.of_byte (m : Mode) : Mode.of (BitVec.ofNat 8 m.code).toNat = some m := by cases m <;> rfl

theorem Policy.of_byte (p : Policy) : Policy.of (BitVec.ofNat 8 p.code).toNat = some p := by cases p <;> rfl

theorem DialMethod.of_byte (m : DialMethod) : DialMethod.of (BitVec.ofNat 8 m.code).toNat = some m := by
  cases m <;> rfl

theorem greetingIdOf_byte {g : Option Nat} (h : ∀ n ∈ g, n ≤ 95) :
    greetingIdOf (BitVec.ofNat 8 (g.getD 255)).toNat = g := by
  cases g with
  | none => rfl
  | some n =>
    have hn : n ≤ 95 := h n rfl
    rw [Option.getD_some, toNat_ofNat_of_lt (by omega), greetingIdOf, if_pos hn]

theorem classCode_lt (c : Cls) : c.code < 256 := by cases c <;> decide

theorem Cls.lower_of_le {a b : Cls} (h : a.idx ≤ b.idx) : Cls.lower a b = a := if_neg (Nat.not_lt.2 h)

/-- The classes of a profile read back: a data class has its place as its code, a fax class 10 more (R148, R162). -/
theorem profileConn_data {c d : Conn} (hmax : c.maxc.family = .data) (hfloor : c.floor.family = .data)
    (hle : c.floor.idx ≤ c.maxc.idx) :
    profileConn .data (BitVec.ofNat 8 c.maxc.code).toNat (BitVec.ofNat 8 c.floor.code).toNat d = c := by
  have hcode {k : Cls} (hk : k.family = .data) : Cls.ofIdx .data ((BitVec.ofNat 8 k.code).toNat - 0) = k := by
    have hplace : k.code = k.idx := by rw [Cls.code, hk]
    rw [toNat_ofNat_of_lt (classCode_lt k), hplace, Nat.sub_zero, ← hk, Cls.ofIdx_idx]
  simp only [profileConn, connOf, hcode hmax, hcode hfloor, Cls.lower_of_le hle, Option.getD_some]

theorem profileConn_fax {c d : Conn} (hmax : c.maxc.family = .fax) (hfloor : c.floor.family = .fax)
    (hle : c.floor.idx ≤ c.maxc.idx) :
    profileConn .fax (BitVec.ofNat 8 c.maxc.code).toNat (BitVec.ofNat 8 c.floor.code).toNat d = c := by
  have hcode {k : Cls} (hk : k.family = .fax) : Cls.ofIdx .fax ((BitVec.ofNat 8 k.code).toNat - 10) = k := by
    have hplace : k.code = 10 + k.idx := by rw [Cls.code, hk]
    rw [toNat_ofNat_of_lt (classCode_lt k), hplace, Nat.add_sub_cancel_left, ← hk, Cls.ofIdx_idx]
  simp only [profileConn, connOf, hcode hmax, hcode hfloor, Cls.lower_of_le hle, Option.getD_some]

/-! ## The PART and LINE sections read back (R173, R174) -/

theorem storeSizeOf_of_mem {n : Nat} (h : n ∈ [1024, 2048, 4096]) : storeSizeOf n = n := by
  simp only [List.mem_cons, List.not_mem_nil, or_false] at h
  rcases h with rfl | rfl | rfl <;> rfl

theorem linkRateOf_of_mem {n : Nat} (h : n ∈ [115200, 230400, 460800, 921600]) : linkRateOf n = n := by
  simp only [List.mem_cons, List.not_mem_nil, or_false] at h
  rcases h with rfl | rfl | rfl | rfl <;> rfl

theorem partOf_bytes {p : PartSettings} (h : p.inRange) : partOf p.bytes = p := by
  obtain ⟨hsize, hrate, hslowLow, hslow, hvoltsLow, hvolts, hburstLow, hburst, hspeech⟩ := h
  have hsizeTop : p.storeSize ≤ 4096 := by simp only [List.mem_cons, List.not_mem_nil, or_false] at hsize; omega
  have hrateTop : p.linkRate ≤ 921600 := by simp only [List.mem_cons, List.not_mem_nil, or_false] at hrate; omega
  delta PartSettings.bytes
  simp only [partOf, at2, be1, be2, be4, List.cons_append, List.nil_append, at1_cons_succ, at1_cons_zero]
  rw [toNat_ofNat_pair (by omega), storeSizeOf_of_mem hsize, toNat_ofNat_quad (by omega), linkRateOf_of_mem hrate,
    clamp_byte hslowLow hslow (by omega), clamp_byte hvoltsLow hvolts (by omega),
    clamp_pair hburstLow hburst (by omega), min_pair hspeech (by omega)]

/-- Every field of the profile reads back from its own bytes (R148). -/
theorem profileOf_bytes {l : LineSettings} (i : LineNo) (h : l.profile.inRange) :
    profileOf (l.bytes i) = l.profile := by
  obtain ⟨hringsLow, hrings, hprioLow, hprio, hgreeting, halt, hrepeatsLow, hrepeats, hgap, hboxWait, hbox, hlimitLow,
    hlimit, hsilenceLow, hsilence, hthreshold, hdataMax, hdataFloor, hdataLe, hfaxMax, hfaxFloor, hfaxLe⟩ := h
  delta LineSettings.bytes Profile.bytes
  simp only [profileOf, at2, be1, be2, be1?, beFlag, List.cons_append, List.nil_append, at1_cons_succ, at1_cons_zero]
  rw [Mode.of_byte, clamp_byte hringsLow hrings (by omega), clamp_byte hprioLow hprio (by omega), flag_byte, flag_byte,
    greetingIdOf_byte hgreeting, greetingIdOf_byte halt, clamp_byte hrepeatsLow hrepeats (by omega),
    min_pair hgap (by omega), min_byte hboxWait (by omega), min_byte hbox (by omega),
    clamp_pair hlimitLow hlimit (by omega), clamp_byte hsilenceLow hsilence (by omega),
    min_pair hthreshold (by omega), profileConn_data hdataMax hdataFloor hdataLe,
    profileConn_fax hfaxMax hfaxFloor hfaxLe, Policy.of_byte]
  rfl

/-- A page reserve in its range is a whole number of 16 cells (R100). -/
theorem faxReserve_pair {n : Nat} (hlow : 16 ≤ n) (hhigh : n ≤ 256) (hwhole : n % 16 = 0) :
    faxReserve ((BitVec.ofNat 8 (n / 256)).toNat * 256 + (BitVec.ofNat 8 n).toNat) = n := by
  rw [toNat_ofNat_pair (by omega), faxReserve, if_neg (by omega), if_neg (by omega)]
  omega

theorem lineSettingsOf_bytes {l : LineSettings} (i : LineNo) (h : l.inRange) : lineSettingsOf (l.bytes i) = l := by
  obtain ⟨hprec, hwaitLow, hwait, hwindowLow, hwindow, hreserveLow, hreserve, hwhole, hprofile⟩ := h
  simp only [lineSettingsOf, profileOf_bytes i hprofile]
  delta LineSettings.bytes
  simp only [at2, be1, be2, List.cons_append, List.nil_append, at1_cons_succ, at1_cons_zero]
  rw [min_byte hprec (by omega), DialMethod.of_byte, clamp_byte hwaitLow hwait (by omega),
    clamp_byte hwindowLow hwindow (by omega), faxReserve_pair hreserveLow hreserve hwhole]
  rfl

/-! ## The GROUPS and NOTICES sections read back (R173) -/

theorem bitsOf_beBits (f : Four Bool) (r : List Byte) : bitsOf (at1 (beBits f ++ r) 0) = f := by
  have hbits : ∀ a b c d : Bool, bitsOf (at1 (beBits ⟨a, b, c, d⟩) 0) = ⟨a, b, c, d⟩ := by decide
  exact hbits f.l0 f.l1 f.l2 f.l3

theorem groupsOf_bytes (g : Four (Four Bool)) : groupsOf (groupBytes g) = g :=
  Four.ext (bitsOf_beBits g.l0 []) (bitsOf_beBits g.l1 []) (bitsOf_beBits g.l2 []) (bitsOf_beBits g.l3 [])

theorem noticeBytes_length (l : List NoticeCfg) : (noticeBytes l).length = 2 * l.length := by
  induction l with
  | nil => rfl
  | cons c l ih =>
    show (noticeBytes l).length + 2 = 2 * (l.length + 1)
    omega

/-- The level and the mask of a kind stand at the two bytes of its place. -/
theorem at1_noticeBytes {c : NoticeCfg} : ∀ {l : List NoticeCfg} {k : Nat}, l[k]? = some c →
    at1 (noticeBytes l) (2 * k) = (BitVec.ofNat 8 c.level).toNat
      ∧ bitsOf (at1 (noticeBytes l) (2 * k + 1)) = c.masked
  | d :: l, 0, h => by
    obtain rfl : d = c := Option.some.inj h
    exact ⟨rfl, bitsOf_beBits d.masked []⟩
  | d :: l, k + 1, h => at1_noticeBytes (l := l) (k := k) h

theorem noticeKinds_getElem_idx : ∀ n : Fin 19, (noticeKinds[n.val]'n.isLt).idx = n.val := by decide

theorem noticesOf_bytes {l : List NoticeCfg} (hlen : l.length = 19)
    (h : ∀ k ∈ noticeKinds, ∀ c, l[k.idx]? = some c → c.level ≤ 3 ∧ maskOf k c.masked = c.masked) :
    noticesOf (noticeBytes l) = l := by
  unfold noticesOf
  refine List.ext_getElem (hlen ▸ rfl) fun n hn hnl => ?_
  have hn19 : n < noticeKinds.length := by rwa [List.length_map] at hn
  have hidx : (noticeKinds[n]'hn19).idx = n := noticeKinds_getElem_idx ⟨n, hn19⟩
  have hget : l[n]? = some l[n] := List.getElem?_eq_getElem hnl
  obtain ⟨hlevel, hmask⟩ := h _ (List.getElem_mem hn19) l[n] (by rw [hidx, hget])
  obtain ⟨hfirst, hsecond⟩ := at1_noticeBytes hget
  rw [List.getElem_map, hidx, hfirst, hsecond, hmask, min_byte hlevel (by omega)]

/-! ## The STATIC_CALLERS section read back (R173) -/

theorem rd1_be1 {n : Nat} (h : n < 256) (r : List Byte) : rd1 (be1 n ++ r) = some (n, r) :=
  congrArg (fun x => some (x, r)) (toNat_ofNat_of_lt h)

theorem rd2_be2 {n : Nat} (h : n < 65536) (r : List Byte) : rd2 (be2 n ++ r) = some (n, r) :=
  congrArg (fun x => some (x, r)) (toNat_ofNat_pair h)

theorem rdN_append (c r : List Byte) : rdN c.length (c ++ r) = some (c, r) := by simp [rdN]

theorem rdStr_beStr {c : List Byte} (h : c.length < 256) (r : List Byte) : rdStr (beStr c ++ r) = some (c, r) := by
  rw [beStr, List.append_assoc, rdStr, rd1_be1 h]
  exact rdN_append c r

/-- A static caller as its section spells it. -/
def StaticCaller.raw (c : StaticCaller) : RawCaller := { number := c.number, cls := c.cls.code, label := c.label }

/-- The bytes of one static caller (R173). -/
def StaticCaller.bytes (c : StaticCaller) : List Byte := beStr c.number ++ be1 c.cls.code ++ beStr c.label

theorem callerBytes_eq (l : List StaticCaller) : callerBytes l = be1 l.length ++ l.flatMap StaticCaller.bytes := rfl

section
variable {c : StaticCaller} (h : c.inRange)
include h

theorem StaticCaller.lengths : c.number.length ≤ 20 ∧ c.label.length ≤ 12 := by
  obtain ⟨hnumber, hlabel, -⟩ := h
  simp only [goodNumber, goodLabel, Bool.and_eq_true, decide_eq_true_eq] at hnumber hlabel
  obtain ⟨⟨-, hnumber⟩, -⟩ := hnumber
  obtain ⟨hlabel, -⟩ := hlabel
  exact ⟨hnumber, hlabel⟩

theorem StaticCaller.bytes_length_le : c.bytes.length ≤ 35 := by
  obtain ⟨hnumber, hlabel⟩ := StaticCaller.lengths h
  simp only [StaticCaller.bytes, beStr, be1, List.length_append, List.length_cons, List.length_nil]
  omega

theorem StaticCaller.raw_entry : c.raw.entry = some c := by
  obtain ⟨hnumber, hlabel, hcls⟩ := h
  have hof : CallerClass.ofEntry c.cls.code = some c.cls := by
    cases hc : c.cls with
    | unknown => exact absurd hc hcls
    | learned | known | priority | barred => rfl
  simp only [RawCaller.entry, StaticCaller.raw, hof]
  exact if_pos ⟨hnumber, hlabel⟩

end

theorem rawCallers_bytes : ∀ {l : List StaticCaller}, (∀ c ∈ l, c.inRange) → ∀ r : List Byte,
    rawCallers l.length (l.flatMap StaticCaller.bytes ++ r) = some (l.map StaticCaller.raw, r)
  | [], _, _ => rfl
  | c :: l, h, r => by
    obtain ⟨hc, hl⟩ := List.forall_mem_cons.1 h
    obtain ⟨hnumber, hlabel⟩ := StaticCaller.lengths hc
    have hcode : c.cls.code < 256 := by cases c.cls <;> decide
    rw [List.flatMap_cons, List.append_assoc, List.length_cons]
    generalize hrest : l.flatMap StaticCaller.bytes ++ r = rest
    have hread := rawCallers_bytes hl r
    rw [hrest] at hread
    simp only [StaticCaller.bytes, List.append_assoc, rawCallers, rdStr_beStr (show c.number.length < 256 by omega),
      rd1_be1 hcode, rdStr_beStr (show c.label.length < 256 by omega), hread]
    rfl

theorem filterMap_entry_raw {l : List StaticCaller} (h : ∀ c ∈ l, c.inRange) :
    (l.map StaticCaller.raw).filterMap RawCaller.entry = l := by
  induction l with
  | nil => rfl
  | cons c l ih =>
    obtain ⟨hc, hl⟩ := List.forall_mem_cons.1 h
    rw [List.map_cons, List.filterMap_cons_some (StaticCaller.raw_entry hc), ih hl]

theorem length_flatMap_bytes_le {l : List StaticCaller} (h : ∀ c ∈ l, c.inRange) :
    (l.flatMap StaticCaller.bytes).length ≤ 35 * l.length := by
  induction l with
  | nil => exact le_rfl
  | cons c l ih =>
    obtain ⟨hc, hl⟩ := List.forall_mem_cons.1 h
    have hone := StaticCaller.bytes_length_le hc
    have hrest := ih hl
    rw [List.flatMap_cons, List.length_append, List.length_cons]
    omega

section
variable {l : List StaticCaller} (hlen : l.length ≤ 32) (h : ∀ c ∈ l, c.inRange)
include hlen h

theorem callersOf_bytes : callersOf (callerBytes l) = some (l.map StaticCaller.raw) := by
  have hread := rawCallers_bytes h []
  rw [List.append_nil] at hread
  rw [callerBytes_eq, callersOf, rd1_be1 (by omega)]
  dsimp only
  rw [hread]
  rfl

theorem entries_callersOf_bytes :
    (((callersOf (callerBytes l)).getD []).take 32).filterMap RawCaller.entry = l := by
  rw [callersOf_bytes hlen h, Option.getD_some, List.take_of_length_le (by rwa [List.length_map]),
    filterMap_entry_raw h]

theorem callerBytes_length_le : (callerBytes l).length ≤ 1121 := by
  have hentries := length_flatMap_bytes_le h
  rw [callerBytes_eq, List.length_append, be1, List.length_singleton]
  omega

end

/-! ## The walk over the sections (R174) -/

/-- Sections whose code and length a head can spell and whose contents fit. -/
def sectionsFit (l : List (Nat × List Byte)) : Prop :=
  ∀ x ∈ l, x.1 < 256 ∧ x.2.length < 65536 ∧ sectionFits x.1 x.2 = true

theorem sectionsFit_cons {code : Nat} {c : List Byte} {l : List (Nat × List Byte)} (hcode : code < 256)
    (hlen : c.length < 65536) (hfits : sectionFits code c = true) (hl : sectionsFit l) : sectionsFit ((code, c) :: l) :=
  List.forall_mem_cons.2 ⟨⟨hcode, hlen, hfits⟩, hl⟩

/-- Each section takes a byte of the image at least. -/
theorem length_le_sectionBytes (l : List (Nat × List Byte)) :
    l.length ≤ (l.flatMap fun x => sectionBytes x.1 x.2).length := by
  induction l with
  | nil => exact le_rfl
  | cons x l ih =>
    rw [List.flatMap_cons, List.length_append, sectionBytes, be1, List.length_append, List.length_append,
      List.length_singleton, List.length_cons]
    omega

theorem Settings.walk_nil (t : Settings) (fuel : Nat) : t.walk fuel [] = t := by cases fuel <;> rfl

/-- The walk applies one section after another, and ends behind the last. -/
theorem Settings.walk_sections : ∀ {l : List (Nat × List Byte)}, sectionsFit l → ∀ {fuel : Nat}, l.length ≤ fuel →
    ∀ t : Settings, t.walk fuel (l.flatMap fun x => sectionBytes x.1 x.2) = l.foldl (fun u x => u.apply x.1 x.2) t
  | [], _, fuel, _, t => t.walk_nil fuel
  | x :: l, h, fuel + 1, hfuel, t => by
    obtain ⟨⟨hcode, hlen, hfits⟩, hl⟩ := List.forall_mem_cons.1 h
    rw [List.flatMap_cons, sectionBytes, List.append_assoc, List.append_assoc, Settings.walk, rd1_be1 hcode]
    dsimp only
    rw [rd2_be2 hlen]
    dsimp only
    rw [rdN_append]
    dsimp only
    rw [if_pos hfits, Settings.walk_sections hl (Nat.le_of_succ_le_succ hfuel), List.foldl_cons]

/-- The sections of an image, in the model's order (log 27). -/
def Settings.sections (t : Settings) : List (Nat × List Byte) :=
  (1, t.contents 1 0) :: (lineNos.map fun i => (2, t.contents 2 i))
    ++ [(3, t.contents 3 0), (4, t.contents 4 0), (5, t.contents 5 0)]

/-- The sections of an image as bytes. -/
def Settings.body (t : Settings) : List Byte := t.sections.flatMap fun x => sectionBytes x.1 x.2

/-- An image without its sum. -/
def Settings.main (t : Settings) : List Byte := imageHead ++ be2 (5 + t.body.length) ++ t.body

theorem Settings.image_eq (t : Settings) : t.image = t.main ++ be2 (byteSum t.main) := by
  have hbody : t.body = sectionBytes 1 (t.contents 1 0) ++ (lineNos.flatMap fun i => sectionBytes 2 (t.contents 2 i))
      ++ sectionBytes 3 (t.contents 3 0) ++ sectionBytes 4 (t.contents 4 0) ++ sectionBytes 5 (t.contents 5 0) := by
    simp [Settings.body, Settings.sections, lineNos]
  rw [Settings.main, hbody]
  rfl

/-! ## The sections of a copy (R173) -/

theorem PartSettings.bytes_length (p : PartSettings) : p.bytes.length = 12 := rfl

theorem LineSettings.bytes_length (i : LineNo) (l : LineSettings) : (l.bytes i).length = 29 := by
  delta LineSettings.bytes Profile.bytes
  simp only [be1, be2, be1?, beFlag, List.length_append, List.length_cons, List.length_nil]

theorem groupBytes_length (g : Four (Four Bool)) : (groupBytes g).length = 4 := rfl

theorem Settings.sections_eq (t : Settings) : t.sections =
    [(1, t.part.bytes), (2, (t.lines.get 0).bytes 0), (2, (t.lines.get 1).bytes 1), (2, (t.lines.get 2).bytes 2),
      (2, (t.lines.get 3).bytes 3), (3, groupBytes t.groups), (4, noticeBytes t.notices), (5, callerBytes t.callers)] :=
  rfl

section
variable {t : Settings} (h : t.inRange)
include h

theorem Settings.inRange_notices_length : (noticeBytes t.notices).length = 38 := by
  obtain ⟨-, -, hnotices, -⟩ := h
  rw [noticeBytes_length, hnotices]

theorem Settings.inRange_callers : t.callers.length ≤ 32 ∧ ∀ c ∈ t.callers, c.inRange := by
  obtain ⟨-, -, -, -, hcallers⟩ := h
  exact hcallers

theorem Settings.sections_fit : sectionsFit t.sections := by
  obtain ⟨hlen, hall⟩ := Settings.inRange_callers h
  have hline (i : LineNo) {l : List (Nat × List Byte)} :
      sectionsFit l → sectionsFit ((2, (t.lines.get i).bytes i) :: l) :=
    sectionsFit_cons (by decide) (by rw [LineSettings.bytes_length]; decide)
      (beq_iff_eq.2 (LineSettings.bytes_length i _))
  have hnotices := Settings.inRange_notices_length h
  have hcallers := callerBytes_length_le hlen hall
  rw [Settings.sections_eq]
  exact sectionsFit_cons (by decide) (by rw [t.part.bytes_length]; decide) (beq_iff_eq.2 t.part.bytes_length) <|
    hline 0 <| hline 1 <| hline 2 <| hline 3 <|
    sectionsFit_cons (by decide) (by rw [groupBytes_length]; decide) (beq_iff_eq.2 (groupBytes_length _)) <|
    sectionsFit_cons (by decide) (by omega) (beq_iff_eq.2 hnotices) <|
    sectionsFit_cons (by decide) (by omega) (Option.isSome_iff_exists.2 ⟨_, callersOf_bytes hlen hall⟩) <|
    List.forall_mem_nil _

/-- The sections leave room for the head in the 2046 bytes that an image may have (R174). -/
theorem Settings.body_length_le : t.body.length ≤ 2041 := by
  obtain ⟨hlen, hall⟩ := Settings.inRange_callers h
  have hcallers := callerBytes_length_le hlen hall
  simp only [Settings.body, Settings.sections_eq, List.flatMap_cons, List.flatMap_nil, sectionBytes, be1, be2,
    List.length_append, List.length_cons, List.length_nil, PartSettings.bytes_length, LineSettings.bytes_length,
    groupBytes_length, Settings.inRange_notices_length h]
  omega

/-- The sections one after another replace every part of a copy. -/
theorem Settings.foldl_sections (u : Settings) : t.sections.foldl (fun u x => u.apply x.1 x.2) u = t := by
  obtain ⟨hpart, hlines, hnotices, hkinds, hcallers, hall⟩ := h
  have hline : ∀ (v : Settings) (i : LineNo),
      v.apply 2 ((t.lines.get i).bytes i) = { v with lines := v.lines.set i (t.lines.get i) } := fun v i => by
    have hno : lineOf (at1 ((t.lines.get i).bytes i) 0) = some i := by
      delta LineSettings.bytes
      simp only [be1, List.cons_append, at1_cons_zero]
      rw [toNat_ofNat_of_lt (by omega), lineOf_val]
    simp only [Settings.apply, hno, lineSettingsOf_bytes i (hlines i)]
  simp only [Settings.sections_eq, List.foldl_cons, List.foldl_nil, hline]
  simp only [Settings.apply, partOf_bytes hpart, groupsOf_bytes, noticesOf_bytes hnotices hkinds,
    entries_callersOf_bytes hcallers hall]
  rfl

end

/-! ## The image (R174, R176) -/

theorem Settings.main_length (t : Settings) : t.main.length = 5 + t.body.length := by
  simp only [Settings.main, imageHead, be1, be2, List.length_append, List.length_cons, List.length_nil]

/-- The head gives the length of the image without its sum. -/
theorem Settings.imageLength_image {t : Settings} (h : t.body.length ≤ 2041) : imageLength t.image = t.main.length := by
  have hpair : imageLength t.image =
      (BitVec.ofNat 8 ((5 + t.body.length) / 256)).toNat * 256 + (BitVec.ofNat 8 (5 + t.body.length)).toNat := by
    simp only [t.image_eq, imageLength, Settings.main, imageHead, be1, be2, List.cons_append, List.nil_append, at2,
      at1_cons_succ, at1_cons_zero]
  rw [hpair, toNat_ofNat_pair (by omega), t.main_length]

theorem Settings.image_take (t : Settings) : t.image.take t.main.length = t.main := by
  rw [t.image_eq, List.take_left]

theorem at2_be2_append (l : List Byte) (n : Nat) : at2 (l ++ be2 n) l.length = n % 65536 := by
  have hfirst : at1 (l ++ be2 n) l.length = (BitVec.ofNat 8 (n / 256)).toNat := by
    rw [at1, List.getD_append_right _ _ _ _ le_rfl, Nat.sub_self]
    rfl
  have hsecond : at1 (l ++ be2 n) (l.length + 1) = (BitVec.ofNat 8 n).toNat := by
    rw [at1, List.getD_append_right _ _ _ _ (Nat.le_add_right _ 1), Nat.add_sub_cancel_left]
    rfl
  rw [at2, hfirst, hsecond]
  simp only [BitVec.toNat_ofNat]
  omega

theorem Settings.image_good {t : Settings} (h : t.body.length ≤ 2041) : imageGood t.image = true := by
  have hlen := t.main_length
  have hhead : t.image.take 3 = imageHead := by rw [t.image_eq]; rfl
  have htotal : t.image.length = t.main.length + 2 := by
    rw [t.image_eq, List.length_append]
    rfl
  have hsum : at2 t.image t.main.length = byteSum t.main % 65536 := by rw [t.image_eq, at2_be2_append]
  simp only [imageGood, Settings.imageLength_image h, hhead, t.image_take, hsum, htotal, beq_self_eq_true,
    Bool.and_eq_true, decide_eq_true_eq, true_and, and_true]
  omega

/-- Behind the head of the image stand the sections. -/
theorem Settings.imageSettings_image {t : Settings} (h : t.inRange) : imageSettings t.image = t := by
  have hbody : t.main.drop 5 = t.body := rfl
  have hfuel : t.sections.length ≤ t.image.length := by
    have hbytes : t.sections.length ≤ t.body.length := length_le_sectionBytes t.sections
    rw [t.image_eq, List.length_append, t.main_length]
    omega
  rw [imageSettings, Settings.imageLength_image (Settings.body_length_le h), t.image_take, hbody, Settings.body,
    Settings.walk_sections (Settings.sections_fit h) hfuel, Settings.foldl_sections h]

/-- Settles O60: the image is good by its head and its sum, and its walk applies the sections of the copy. -/
theorem savedSettingsLoadBack : Obligations.SavedSettingsLoadBack := fun _ h =>
  ⟨Settings.image_good (Settings.body_length_le h), Settings.imageSettings_image h⟩

end Sys2Proof.Machine
end
